-- ==== Sys2Proof/Word.lean ====
section
/-! DEFINITION. The word type of the lines: one byte of a payload or one node address. -/

namespace Sys2Proof

/-- One byte of a frame's payload (R182, section 11.2), or a node address 0 to 255 (R119). -/
abbrev Byte := BitVec 8

end Sys2Proof
end

