-- ==== Sys2Proof/Syntax.lean ====
section
/-! DEFINITION. The frames that travel on the two lines, and the commands of the block: one constructor of
`Instr` for each row of spec/opcode_table.json, with the operands the row's rule reads. -/

namespace Sys2Proof

/-- The two line ports (block diagram of 00_scope.md; chapter 6). -/
inductive PortId where
  | field
  | trunk
deriving DecidableEq, Repr

/-- The four parts of the identifier beside the kind (R119, R181). A row that fixes the kind of its frame
carries a header; a row that takes any kind carries the whole 29-bit identifier. -/
structure Header where
  /-- 0 to 7, 0 the most urgent. -/
  prio : BitVec 3
  /-- Number of DX48s the frame has passed through, 0 to 15. -/
  hop : BitVec 4
  /-- Destination node, 255 broadcast. -/
  dst : Byte
  /-- Source node. -/
  src : Byte
deriving DecidableEq, Repr

/-- One frame with a 29-bit extended identifier, its five parts read (R119, R181), and its data bytes in the
order they are sent. -/
structure Frame where
  prio : BitVec 3
  kind : BitVec 6
  hop : BitVec 4
  dst : Byte
  src : Byte
  data : List Byte
deriving DecidableEq, Repr

/-- A management request once its code and arguments are decoded (R154). Every argument is the byte that was
sent; a value field is its two bytes read low byte first (R156). -/
inductive Request where
  | entryOpen (table index : Byte)
  | entrySet (table index field : Byte) (value : BitVec 16) (presence : Byte)
  | entryGet (table index field : Byte)
  | entryCommission (table index : Byte)
  | entryRetire (table index : Byte)
  | entryClear (table index : Byte)
  | entryTune (table index field : Byte) (value : BitVec 16)
  | zoneRelease (zone level : Byte)
  | zoneSuppress (zone setting : Byte)
  | zoneForce (zone level : Byte)
  | outputHand (output setting : Byte)
  | outputReset (output : Byte)
  | readZone (index page : Byte)
  | readPoint (index page : Byte)
  | readOutput (index page : Byte)
  | readCounter (cls number index : Byte)
  | readDevice (page : Byte)
  | countersClear
  | save
  | restart
deriving DecidableEq, Repr

/-- The commands of the block, one constructor for each row of spec/opcode_table.json. Frames carry what was
seen on the line; requests carry the requester's node (`src`), the tag and the argument bytes, and are addressed
to the DX48; timer and line events name the thing they happen to. -/
inductive Instr where
  /-- SAMPLE (R4): a SAMPLE frame received on the FIELD port. -/
  | sample (hd : Header) (data : List Byte)
  /-- STATUS_FAN (R104): a STATUS frame received on the FIELD port, from a fan drive. -/
  | statusFan (hd : Header) (data : List Byte)
  /-- STATUS_DAMPER (R110): a STATUS frame received on the FIELD port, from a damper actuator. -/
  | statusDamper (hd : Header) (data : List Byte)
  /-- PANEL_ALARM (R43): a PANEL frame received on the TRUNK port whose first data byte is ALARM. -/
  | panelAlarm (hd : Header) (rest : List Byte)
  /-- PANEL_NORMAL (R44): a PANEL frame received on the TRUNK port whose first data byte is NORMAL. -/
  | panelNormal (hd : Header) (rest : List Byte)
  /-- TIME (R65): a TIME frame received on the TRUNK port. -/
  | time (hd : Header) (data : List Byte)
  /-- FIELD_FRAME (R132): any extended frame received on the FIELD port, by its raw identifier. -/
  | fieldFrame (ident : BitVec 29) (data : List Byte)
  /-- FIELD_MGMT_REQ (R132): a MGMT_REQ received on the FIELD port. -/
  | fieldMgmtReq (hd : Header) (data : List Byte)
  /-- TRUNK_FRAME (R135): any extended frame received on the TRUNK port, by its raw identifier. -/
  | trunkFrame (ident : BitVec 29) (data : List Byte)
  /-- STANDARD_OR_REMOTE_FRAME (R181), on either port. -/
  | standardOrRemoteFrame (port : PortId)
  /-- BAD_REQUEST (R154): a MGMT_REQ to the DX48 given by its raw code and argument bytes. -/
  | badRequest (src code tag : Byte) (args : List Byte)
  | entryOpen (src tag table index : Byte)
  | entrySet (src tag table index field : Byte) (value : BitVec 16) (presence : Byte)
  | entryGet (src tag table index field : Byte)
  | entryCommission (src tag table index : Byte)
  | entryRetire (src tag table index : Byte)
  | entryClear (src tag table index : Byte)
  | entryTune (src tag table index field : Byte) (value : BitVec 16)
  | zoneRelease (src tag zone level : Byte)
  /-- ZONE_SUPPRESS with setting 1 (R46). -/
  | zoneSuppressOn (src tag zone : Byte)
  /-- ZONE_SUPPRESS with setting 0 (R47). -/
  | zoneSuppressOff (src tag zone : Byte)
  | zoneForce (src tag zone level : Byte)
  /-- OUTPUT_HAND with setting 1 (R114). -/
  | outputHandOn (src tag output : Byte)
  /-- OUTPUT_HAND with setting 0 (R115). -/
  | outputHandOff (src tag output : Byte)
  | outputReset (src tag output : Byte)
  | readZone (src tag index page : Byte)
  | readPoint (src tag index page : Byte)
  | readOutput (src tag index page : Byte)
  | readCounter (src tag cls number index : Byte)
  | readDevice (src tag page : Byte)
  | countersClear (src tag : Byte)
  | save (src tag : Byte)
  | restart (src tag : Byte)
  | silenceTimerExpiry (point : Fin 64)
  | runOnExpiry (zone : Fin 8)
  | minuteTimerExpiry
  | purgeClockWrap (clock : Fin 2)
  | drivePeriodExpiry
  | pathTimerExpiry (output : Fin 24)
  | startTimerExpiry (output : Fin 24)
  | fanStatusTimerExpiry (output : Fin 24)
  | stopTimerExpiry (output : Fin 24)
  | retryTimerExpiry (output : Fin 24)
  | travelTimerExpiry (output : Fin 24)
  | damperStatusTimerExpiry (output : Fin 24)
  | transmitComplete (port : PortId)
  | failedAttempt (port : PortId)
  | arbitrationLost (port : PortId)
  | frameAbandon (port : PortId)
  | recoveryTimerExpiry (port : PortId)
  /-- SAVE_COMPLETE (R175): the read-back matches (`true`) or differs (`false`). -/
  | saveComplete (matched : Bool)
  | restartTakesEffect
  | powerOn
  | supplyLoss
  | resetLineAssert
  | resetLineRelease
deriving DecidableEq, Repr

end Sys2Proof
end

