-- ==== Sys2Proof/WellFormed.lean ====
section
/-! DEFINITION. Which command terms stand for something the lines can carry: a CAN frame has 0 to 8 data bytes
(section 6.1), and a MGMT_REQ given by code and tag has at most six argument bytes (chapter 8). Every other
operand is bounded by its type. -/

namespace Sys2Proof

/-- A CAN frame carries 0 to 8 data bytes (section 6.1). -/
abbrev wfData (data : List Byte) : Prop := data.length ≤ 8

/-- The command can arrive at the block. -/
abbrev Instr.wf : Instr → Prop
  | .sample _ data => wfData data
  | .statusFan _ data => wfData data
  | .statusDamper _ data => wfData data
  | .panelAlarm _ rest => rest.length ≤ 7
  | .panelNormal _ rest => rest.length ≤ 7
  | .time _ data => wfData data
  | .fieldFrame _ data => wfData data
  | .fieldMgmtReq _ data => wfData data
  | .trunkFrame _ data => wfData data
  | .badRequest _ _ _ args => args.length ≤ 6
  | .standardOrRemoteFrame _ | .entryOpen .. | .entrySet .. | .entryGet .. | .entryCommission ..
  | .entryRetire .. | .entryClear .. | .entryTune .. | .zoneRelease .. | .zoneSuppressOn ..
  | .zoneSuppressOff .. | .zoneForce .. | .outputHandOn .. | .outputHandOff .. | .outputReset ..
  | .readZone .. | .readPoint .. | .readOutput .. | .readCounter .. | .readDevice .. | .countersClear ..
  | .save .. | .restart .. | .silenceTimerExpiry _ | .runOnExpiry _ | .minuteTimerExpiry
  | .purgeClockWrap _ | .drivePeriodExpiry | .pathTimerExpiry _ | .startTimerExpiry _
  | .fanStatusTimerExpiry _ | .stopTimerExpiry _ | .retryTimerExpiry _ | .travelTimerExpiry _
  | .damperStatusTimerExpiry _ | .transmitComplete _ | .failedAttempt _ | .arbitrationLost _
  | .frameAbandon _ | .recoveryTimerExpiry _ | .saveComplete _ | .restartTakesEffect | .powerOn
  | .supplyLoss | .resetLineAssert | .resetLineRelease => True

end Sys2Proof
end

