-- ==== Sys2Proof/Decode.lean ====
section
/-! DEFINITION. Reading commands from bits: the identifier of a frame (R181), the code and argument bytes of a
management request (R154, section 11.3), and the host's `decodeTableWord`. No row of spec/opcode_table.json gives
bits, so no word spells a command by the table. -/

namespace Sys2Proof

/-- No row of the opcode table gives its bits: the block's commands are frames, timer events and line events, and
no word of the table spells one. -/
def decodeTableWord (_nbits _w : Nat) : Option Instr := none

/-- Kind codes of section 11.1. -/
def kindSample : BitVec 6 := 1
def kindStatus : BitVec 6 := 2
def kindDrive : BitVec 6 := 3
def kindPanel : BitVec 6 := 8
def kindTime : BitVec 6 := 9
def kindMgmtReq : BitVec 6 := 16
def kindMgmtReply : BitVec 6 := 17
def kindZoneReport : BitVec 6 := 20
def kindTroubleReport : BitVec 6 := 21

/-- The five parts of a 29-bit identifier at the bit positions of section 11.1: priority 28–26, kind 25–20, hop
count 19–16, destination 15–8, source 7–0 (R181). -/
def Frame.ofIdent (ident : BitVec 29) (data : List Byte) : Frame where
  prio := ident.extractLsb' 26 3
  kind := ident.extractLsb' 20 6
  hop := ident.extractLsb' 16 4
  dst := ident.extractLsb' 8 8
  src := ident.extractLsb' 0 8
  data := data

/-- The identifier a frame is sent with: the inverse of `Frame.ofIdent` (R181). -/
def Frame.ident (f : Frame) : BitVec 29 := f.prio ++ f.kind ++ f.hop ++ f.dst ++ f.src

/-- A frame of a row whose kind is fixed. -/
def Header.frame (hd : Header) (kind : BitVec 6) (data : List Byte) : Frame where
  prio := hd.prio
  kind := kind
  hop := hd.hop
  dst := hd.dst
  src := hd.src
  data := data

/-- Two bytes sent low byte first (section 11.2). -/
def word16 (lo hi : Byte) : BitVec 16 := hi ++ lo

/-- The low byte of a two-byte field, sent first. -/
def loByte (w : BitVec 16) : Byte := w.extractLsb' 0 8

/-- The high byte of a two-byte field, sent second. -/
def hiByte (w : BitVec 16) : Byte := w.extractLsb' 8 8

/-- Decoding of a request from its code and argument bytes (R154, section 11.3). `none` is BAD_REQUEST: an unknown
code, or fewer argument bytes than the code needs. Bytes beyond those needed are not read. -/
def decodeRequest (code : Byte) (args : List Byte) : Option Request :=
  match code.toNat, args with
  | 1, t :: i :: _ => some (.entryOpen t i)
  | 2, t :: i :: f :: lo :: hi :: p :: _ => some (.entrySet t i f (word16 lo hi) p)
  | 3, t :: i :: f :: _ => some (.entryGet t i f)
  | 4, t :: i :: _ => some (.entryCommission t i)
  | 5, t :: i :: _ => some (.entryRetire t i)
  | 6, t :: i :: _ => some (.entryClear t i)
  | 7, t :: i :: f :: lo :: hi :: _ => some (.entryTune t i f (word16 lo hi))
  | 16, z :: l :: _ => some (.zoneRelease z l)
  | 17, z :: v :: _ => some (.zoneSuppress z v)
  | 18, z :: l :: _ => some (.zoneForce z l)
  | 24, o :: v :: _ => some (.outputHand o v)
  | 25, o :: _ => some (.outputReset o)
  | 32, i :: p :: _ => some (.readZone i p)
  | 33, i :: p :: _ => some (.readPoint i p)
  | 34, i :: p :: _ => some (.readOutput i p)
  | 35, c :: n :: i :: _ => some (.readCounter c n i)
  | 36, p :: _ => some (.readDevice p)
  | 48, _ => some .countersClear
  | 49, _ => some .save
  | 50, _ => some .restart
  | _, _ => none

/-- The code byte of a request (section 11.3). -/
def Request.code : Request → Byte
  | .entryOpen .. => 1
  | .entrySet .. => 2
  | .entryGet .. => 3
  | .entryCommission .. => 4
  | .entryRetire .. => 5
  | .entryClear .. => 6
  | .entryTune .. => 7
  | .zoneRelease .. => 16
  | .zoneSuppress .. => 17
  | .zoneForce .. => 18
  | .outputHand .. => 24
  | .outputReset .. => 25
  | .readZone .. => 32
  | .readPoint .. => 33
  | .readOutput .. => 34
  | .readCounter .. => 35
  | .readDevice .. => 36
  | .countersClear => 48
  | .save => 49
  | .restart => 50

/-- The argument bytes of a request, in order (R154). -/
def Request.args : Request → List Byte
  | .entryOpen t i => [t, i]
  | .entrySet t i f v p => [t, i, f, loByte v, hiByte v, p]
  | .entryGet t i f => [t, i, f]
  | .entryCommission t i => [t, i]
  | .entryRetire t i => [t, i]
  | .entryClear t i => [t, i]
  | .entryTune t i f v => [t, i, f, loByte v, hiByte v]
  | .zoneRelease z l => [z, l]
  | .zoneSuppress z v => [z, v]
  | .zoneForce z l => [z, l]
  | .outputHand o v => [o, v]
  | .outputReset o => [o]
  | .readZone i p => [i, p]
  | .readPoint i p => [i, p]
  | .readOutput i p => [i, p]
  | .readCounter c n i => [c, n, i]
  | .readDevice p => [p]
  | .countersClear => []
  | .save => []
  | .restart => []

/-- The command of the opcode table that carries a decoded request, where the table has a row for it: a
ZONE_SUPPRESS or OUTPUT_HAND whose setting is neither 0 nor 1 has no row of its own. -/
def Request.instr (src tag : Byte) : Request → Option Instr
  | .entryOpen t i => some (.entryOpen src tag t i)
  | .entrySet t i f v p => some (.entrySet src tag t i f v p)
  | .entryGet t i f => some (.entryGet src tag t i f)
  | .entryCommission t i => some (.entryCommission src tag t i)
  | .entryRetire t i => some (.entryRetire src tag t i)
  | .entryClear t i => some (.entryClear src tag t i)
  | .entryTune t i f v => some (.entryTune src tag t i f v)
  | .zoneRelease z l => some (.zoneRelease src tag z l)
  | .zoneSuppress z v =>
    if v = 1 then some (.zoneSuppressOn src tag z)
    else if v = 0 then some (.zoneSuppressOff src tag z) else none
  | .zoneForce z l => some (.zoneForce src tag z l)
  | .outputHand o v =>
    if v = 1 then some (.outputHandOn src tag o)
    else if v = 0 then some (.outputHandOff src tag o) else none
  | .outputReset o => some (.outputReset src tag o)
  | .readZone i p => some (.readZone src tag i p)
  | .readPoint i p => some (.readPoint src tag i p)
  | .readOutput i p => some (.readOutput src tag i p)
  | .readCounter c n i => some (.readCounter src tag c n i)
  | .readDevice p => some (.readDevice src tag p)
  | .countersClear => some (.countersClear src tag)
  | .save => some (.save src tag)
  | .restart => some (.restart src tag)

end Sys2Proof
end

