-- ==== Sys2Proof/Machine/Types.lean ====
section
/-! DEFINITION. The records the state is made of: the entries of the seven tables, the dynamic state of points,
zones and outputs, the ports and their queues, the report slots, the counters and the saved image. -/

namespace Sys2Proof.Machine

/-- A response level 0 to 5 (00_scope.md, "Zone response levels"). -/
abbrev Level := Fin 6

/-- A timer: `none` when it is STOPPED or IDLE, and the quarter seconds that remain when it is RUNNING. The
quarter second is the finest unit of time the manual names (drive period, R77). -/
abbrev Timer := Option Nat

/-- The life cycle of an entry of tables 1 to 4 (R136, section 7.2): a VACANT entry holds nothing, a DRAFT entry
its fields, and only an IN_SERVICE entry has dynamic state. -/
inductive Entry (φ δ : Type) where
  | vacant
  | draft (fields : φ)
  | inService (fields : φ) (dyn : δ)
deriving DecidableEq, Repr

/-! ## Points (chapter 1) -/

/-- Kind of a point (R2). -/
inductive PointKind where
  | co
  | no2
  | h2
  | smoke
  | heat
deriving DecidableEq, Repr

/-- The fields of a point entry (R1, R184). `node` is absent until it is set. -/
structure PointFields where
  node : Option Byte
  zone : Fin 8
  kind : PointKind
  width : Nat
  raw1 : Nat
  raw2 : Nat
  raw3 : Option Nat
  raw4 : Option Nat
  val1 : Nat
  val2 : Nat
  val3 : Nat
  val4 : Nat
  depth : Nat
  riseA : Nat
  fallA : Nat
  levelA : Level
  riseB : Option Nat
  fallB : Option Nat
  levelB : Option Level
  confirm : Nat
  gain : Nat
  interval : Nat
  silenceMult : Nat
  faultLevel : Level
  forwardEvery : Nat
deriving DecidableEq, Repr

/-- Why a point is in FAULT (R3). -/
inductive PointFault where
  | silent
  | sensor
deriving DecidableEq, Repr

/-- State of a point; the fault reason is none outside FAULT (R3). -/
inductive PointState where
  | await
  | live
  | fault (reason : PointFault)
deriving DecidableEq, Repr

/-- Grade of a point (R3). -/
inductive Grade where
  | clear
  | a
  | b
deriving DecidableEq, Repr

/-- Dynamic state of an IN_SERVICE point (R3). -/
structure PointDyn where
  state : PointState
  grade : Grade
  run : Nat
  acc : Nat
  filtered : Nat
  lastRaw : Nat
  overMark : Bool
  underMark : Bool
  silence : Timer
  forwardCount : Nat
  badCount : Nat
deriving DecidableEq, Repr

/-! ## Zones (chapters 2 to 4) -/

/-- The fields of a zone entry (R25, R184). Branch positions beyond `count` are kept and not read (R138). -/
structure ZoneFields where
  count : Nat
  fans : Vector (Fin 24) 4
  dampers : Vector (Option (Fin 24)) 4
  minFlow : Nat
  fumeLowFlow : Nat
  fumeHighFlow : Nat
  maxFlow : Nat
  flammableFlow : Nat
  fireFlow : Nat
  clock : Option (Fin 2)
  purgeStart : Nat
  purgeDuration : Nat
  purgeFlow : Nat
deriving DecidableEq, Repr

/-- A set of levels from 1 to 5, each at most once (R26). -/
structure LevelSet where
  l1 : Bool
  l2 : Bool
  l3 : Bool
  l4 : Bool
  l5 : Bool
deriving DecidableEq, Repr

/-- Dynamic state of an IN_SERVICE zone: the ladder's items (R26), its part of the latest allocation (R84, R62)
and its staged purge values (R72). The effective level E is the highest member of `inForce` (R29). -/
structure ZoneDyn where
  cond : Level
  force : Level
  latch : Bool
  inForce : LevelSet
  held1 : Bool
  held2 : Bool
  suppress : Bool
  runOn : Timer
  accepted : Bool
  releaseWait : Bool
  short : Bool
  demand : Nat
  shares : Vector Nat 4
  delivered : Nat
  stagedStart : Option Nat
  stagedDuration : Option Nat
  stagedFlow : Option Nat
deriving DecidableEq, Repr

/-! ## Outputs (chapter 5) -/

/-- Kind of an output (R96). -/
inductive OutputKind where
  | fan
  | damper
deriving DecidableEq, Repr

/-- The fields of an output entry, of both kinds (R96, R138, R184). -/
structure OutputFields where
  node : Option Byte
  kind : OutputKind
  rated : Nat
  minStep : Nat
  proof : Nat
  startTimeout : Nat
  statusTimeout : Nat
  nonex : Bool
  retryInterval : Nat
  travelTimeout : Nat
deriving DecidableEq, Repr

/-- Why a fan is in FAULT (R97). -/
inductive FanFault where
  | noPath
  | startFail
  | driveFault
  | flowLost
  | statusSilent
  | stopFail
deriving DecidableEq, Repr

/-- State of a fan; the fault reason is none outside FAULT (R97). -/
inductive FanState where
  | stopped
  | pathWait
  | starting
  | running
  | stopping
  | fault (reason : FanFault)
  | hand
deriving DecidableEq, Repr

/-- Hold mark of a fan (R81). -/
inductive HoldMark where
  | none
  | heldRunning
  | heldStopped
deriving DecidableEq, Repr

/-- Content of a fan's latest STATUS (R97). -/
structure FanStatus where
  step : Byte
  driveFault : Bool
deriving DecidableEq, Repr

/-- State of an IN_SERVICE fan (R97) with the allocator's values for it (R85, R88, R94). -/
structure FanDyn where
  state : FanState
  noPath : Bool
  pathTimer : Timer
  startTimer : Timer
  statusTimer : Timer
  stopTimer : Timer
  retryTimer : Timer
  below : Nat
  lastStatus : Option FanStatus
  retryCount : Nat
  flow : Nat
  q : Nat
  run : Bool
  hold : HoldMark
  dither : Fin 16
deriving DecidableEq, Repr

/-- Why a damper is in FAULT (R98). -/
inductive DamperFault where
  | jammed
  | travel
  | statusSilent
deriving DecidableEq, Repr

/-- State of a damper; the fault reason is none outside FAULT (R98). -/
inductive DamperState where
  | settled
  | travelling
  | fault (reason : DamperFault)
  | hand
deriving DecidableEq, Repr

/-- Target of a damper (R89, R98). -/
inductive DamperTarget where
  | closed
  | opened
deriving DecidableEq, Repr

/-- Last position reported by an actuator (R98, R110). -/
inductive DamperPosition where
  | closed
  | opened
  | moving
  | unknown
deriving DecidableEq, Repr

/-- State of an IN_SERVICE damper (R98). -/
structure DamperDyn where
  state : DamperState
  target : DamperTarget
  position : DamperPosition
  travelTimer : Timer
  statusTimer : Timer
deriving DecidableEq, Repr

/-- Dynamic state of an IN_SERVICE output, by its kind. -/
inductive OutputDyn where
  | fan (d : FanDyn)
  | damper (d : DamperDyn)
deriving DecidableEq, Repr

/-! ## The other tables (chapters 3 and 7) -/

/-- The fields of a window entry (R67, R184); the masks hold one bit for each day or zone. -/
structure WindowFields where
  dayMask : BitVec 7
  start : Nat
  stop : Nat
  zoneMask : BitVec 8
  floor : Nat
deriving DecidableEq, Repr

/-- The response table (R147): the run-on seconds of levels 1 to 5 and the confine flags of levels 4 and 5. -/
structure Response where
  runOn : Vector Nat 5
  confine4 : Bool
  confine5 : Bool
deriving DecidableEq, Repr

/-- One purge clock: its period in force, its counter and its staged period (R70, R72). -/
structure PurgeClock where
  period : Nat
  counter : Nat
  staged : Option Nat
deriving DecidableEq, Repr

/-- One copy of the device record (R148). -/
structure DeviceRecord where
  node : Byte
  panelNode : Byte
  drivePeriod : Nat
  fieldRate : Nat
  trunkRate : Nat
deriving DecidableEq, Repr

/-- The day clock when it is set (R63). -/
structure DayClock where
  day : Nat
  minute : Nat
deriving DecidableEq, Repr

/-! ## Ports and queues (chapter 6) -/

/-- What a queued frame is: a forwarded frame, the DRIVE of an output (and whether it commands run), a reply, or
the reply whose leaving makes a pending RESTART take effect (R91, R125, R165). -/
inductive Origin where
  | forwarded
  | drive (output : Fin 24) (run : Bool)
  | reply
  | restartReply
deriving DecidableEq, Repr

/-- One frame of a transmit queue. `attempt` is `none` while the frame waits, and the count of failed attempts
while it is on offer (R122, R123). -/
structure QEntry where
  frame : Frame
  origin : Origin
  attempt : Option Nat
deriving DecidableEq, Repr

/-- The report slots (R166): 8 zone slots and 89 trouble slots. -/
inductive SlotId where
  | zone (z : Fin 8)
  | point (i : Fin 64)
  | output (i : Fin 24)
  | device
deriving DecidableEq, Repr

/-- A report frame on offer (R167): its slot, the frame as it was built, whether the slot was SUPERSEDED at the
build, and its failed attempts. The slot is absent when its zone was retired during the offer (R170). -/
structure ReportOffer where
  slot : Option SlotId
  frame : Frame
  superseded : Bool
  failures : Nat
deriving DecidableEq, Repr

/-- The seven counters of a port (R171). -/
structure PortCounters where
  received : Nat
  forwarded : Nat
  droppedQueue : Nat
  droppedHop : Nat
  abandoned : Nat
  offEntries : Nat
  malformed : Nat
deriving DecidableEq, Repr

/-- One line port (section 6.2). The queue is in order of age, oldest first (R125). The frame on offer is the
queued frame whose `attempt` is set, or the report frame. -/
structure Port where
  on : Bool
  queue : List QEntry
  report : Option ReportOffer
  recovery : Timer
  counters : PortCounters
deriving DecidableEq, Repr

/-! ## Report slots and counters (chapter 9) -/

/-- The marks of a slot (R166). -/
structure Slot where
  pending : Bool
  superseded : Bool
  renewed : Bool
deriving DecidableEq, Repr

/-- Reasons of faults and troubles (section 11.3). -/
inductive Reason where
  | none
  | silent
  | sensor
  | noPath
  | startFail
  | driveFault
  | flowLost
  | statusSilent
  | stopFail
  | jammed
  | travel
  | invalid
  | empty
deriving DecidableEq, Repr

/-- A point's or output's trouble slot with its last reason (R168). -/
structure TroubleSlot where
  slot : Slot
  lastReason : Reason
deriving DecidableEq, Repr

/-- The six device-wide counters (R172). -/
structure DeviceCounters where
  stranger : Nat
  badSamples : Nat
  blockedDrive : Nat
  ignoredPanel : Nat
  ignoredTime : Nat
  mgmtDropped : Nat
deriving DecidableEq, Repr

/-! ## The table store (chapter 10) -/

/-- The image of a SAVE (R174): the life-cycle state and fields of every entry of tables 1 to 4 (an entry not in
the image is VACANT), the response table, the purge periods and the pending device record. -/
structure Image where
  points : Vector (Entry PointFields Unit) 64
  zones : Vector (Entry ZoneFields Unit) 8
  outputs : Vector (Entry OutputFields Unit) 24
  windows : Vector (Entry WindowFields Unit) 8
  response : Response
  periods : Vector Nat 2
  device : DeviceRecord
deriving DecidableEq, Repr

/-- What the non-volatile store holds (R174, R176): no image, a whole image with its check word, or an image
that was begun and whose check word does not match. -/
inductive StoreContent where
  | noImage
  | image (img : Image) (check : BitVec 16)
  | broken
deriving DecidableEq, Repr

/-- The store state the part holds and reports (R174). -/
inductive StoreState where
  | valid
  | invalid
  | empty
deriving DecidableEq, Repr

/-- A SAVE in flight: the kept requester and tag (R164) and the image taken at acceptance (R175). -/
structure SaveInFlight where
  requester : Byte
  tag : Byte
  image : Image
deriving DecidableEq, Repr

/-! ## Management (chapters 7 and 8) -/

/-- Why a commission, node or purge check failed (R142 to R144, R73; R155). -/
inductive CheckReason where
  | calOrder
  | calWidth
  | threshOrder
  | levelKind
  | nodeDuplicate
  | zoneNotInService
  | outputNotInService
  | kindMismatch
  | flowOrder
  | purgeRange
  | windowRange
deriving DecidableEq, Repr

/-- The results of a request other than DONE (R155). -/
inductive ReplyCode where
  | badRequest
  | badTable
  | badIndex
  | badField
  | outOfRange
  | state
  | locked
  | busy
  | notInForce
  | conditionPresent
  | checkFailed (reason : CheckReason)
  | referenced
  | storeFault
deriving DecidableEq, Repr

/-- One entry of one of the seven tables (R152, checks 1 and 2). -/
inductive EntryRef where
  | point (i : Fin 64)
  | zone (z : Fin 8)
  | output (i : Fin 24)
  | window (w : Fin 8)
  /-- The entry of level `l + 1`. -/
  | response (l : Fin 5)
  | clock (j : Fin 2)
  | device
deriving DecidableEq, Repr

/-- Life-cycle state of an entry; tables 5 to 7 have none (R136, R157). -/
inductive LifeCycle where
  | vacant
  | draft
  | inService
  | none
deriving DecidableEq, Repr

end Sys2Proof.Machine
end

