-- ==== Sys2Proof/Machine/State.lean ====
section
/-! DEFINITION. The state of the DX48, its reset values, and the ways a step can fail to give a next state. -/

namespace Sys2Proof.Machine

/-- Faults of a step. The manual gives the part no event that stops it: every command has an effect or leaves the
part as it is, so no step faults and there is no constructor. -/
inductive Fault where
deriving DecidableEq, Repr

/-- Refusals of a step. -/
inductive Refusal where
  /-- Raised by a dispatch arm whose row has no meaning yet (safe: the model stops). No arm raises it in this package. -/
  | notModelled (mnemonic : String)
deriving DecidableEq, Repr

/-- Everything the manual gives the part, the queue of commands that wait for it, and the model's own count of
free choices. -/
structure State where
  /-- Commands waiting, first in, first out (the model's interface). -/
  pending : List Instr
  /-- How many free choices have been taken (the model's own; log entry 3). -/
  freeIndex : Nat
  /-- Supply is applied (R176, R178). -/
  powered : Bool
  /-- The RESET line is asserted (R177). -/
  resetLine : Bool
  /-- POINT table (table 1) with the dynamic state of each IN_SERVICE point (R3). -/
  points : Vector (Entry PointFields PointDyn) 64
  /-- ZONE table (table 2) with the dynamic state of each IN_SERVICE zone (R26). -/
  zones : Vector (Entry ZoneFields ZoneDyn) 8
  /-- OUTPUT table (table 3) with the dynamic state of each IN_SERVICE output (R97, R98). -/
  outputs : Vector (Entry OutputFields OutputDyn) 24
  /-- WINDOW table (table 4). -/
  windows : Vector (Entry WindowFields Unit) 8
  /-- RESPONSE table (table 5, R147). -/
  response : Response
  /-- PURGE_CLOCK table (table 6) with the counters and staged periods (R70, R72). -/
  clocks : Vector PurgeClock 2
  /-- Active copy of the device record (table 7, R148). -/
  active : DeviceRecord
  /-- Pending copy of the device record (R148). -/
  pendingRecord : DeviceRecord
  /-- Day clock, absent while UNSET (R63). -/
  dayClock : Option DayClock
  /-- Quarter seconds left on the minute timer (R63). -/
  minuteTimer : Nat
  /-- Quarter seconds left on the drive-period timer (R77). -/
  driveTimer : Nat
  /-- FIELD port (section 6.2). -/
  field : Port
  /-- TRUNK port (section 6.2). -/
  trunk : Port
  /-- Zone report slots (R166). -/
  zoneSlots : Vector Slot 8
  /-- Point trouble slots (R168). -/
  pointSlots : Vector TroubleSlot 64
  /-- Output trouble slots (R168). -/
  outputSlots : Vector TroubleSlot 24
  /-- Device trouble slot (R170). -/
  deviceSlot : Slot
  /-- Device-wide counters (R172). -/
  counters : DeviceCounters
  /-- The non-volatile store (R174). -/
  store : StoreContent
  /-- The store state the part holds (R174). -/
  storeState : StoreState
  /-- The SAVE in flight, if any (R164). -/
  save : Option SaveInFlight
  /-- A RESTART has been accepted and has not yet taken effect (R165). -/
  restartPending : Bool
deriving DecidableEq, Repr

/-- A slot that is clear (R166). -/
def Slot.cleared : Slot := ⟨false, false, false⟩

/-- A slot that has just become pending (R166). -/
def Slot.fresh : Slot := ⟨true, false, false⟩

/-- A trouble slot after each reset (R170). -/
def TroubleSlot.cleared : TroubleSlot := ⟨Slot.cleared, .none⟩

/-- Port counters after each reset (R121, R173). -/
def PortCounters.zero : PortCounters := ⟨0, 0, 0, 0, 0, 0, 0⟩

/-- Device-wide counters after each reset (R173). -/
def DeviceCounters.zero : DeviceCounters := ⟨0, 0, 0, 0, 0, 0⟩

/-- A port after each reset: ON, queue empty, no frame on offer, recovery timer stopped, counters 0 (R121). -/
def Port.start : Port := ⟨true, [], none, none, PortCounters.zero⟩

/-- Defaults of the response table (R147). -/
def Response.default : Response := ⟨#v[300, 600, 900, 1800, 1800], true, true⟩

/-- Defaults of the device record (section 7.6, R184). -/
def DeviceRecord.default : DeviceRecord := ⟨200, 0, 4, 250, 250⟩

/-- A purge clock with its default period, just reset (R70, R76, R184). -/
def PurgeClock.default : PurgeClock := ⟨60, 0, none⟩

/-- Sixty seconds, in quarter seconds: the minute timer's start (R63). -/
def minuteQuarters : Nat := 240

/-- The part right after power-on as it was delivered: the store is EMPTY (R174), so tables 1 to 4 are VACANT, the
other tables take their defaults, and the device slot is pending (R178). Log entry 1. -/
def State.reset : State where
  pending := []
  freeIndex := 0
  powered := true
  resetLine := false
  points := Vector.replicate 64 .vacant
  zones := Vector.replicate 8 .vacant
  outputs := Vector.replicate 24 .vacant
  windows := Vector.replicate 8 .vacant
  response := Response.default
  clocks := Vector.replicate 2 PurgeClock.default
  active := DeviceRecord.default
  pendingRecord := DeviceRecord.default
  dayClock := none
  minuteTimer := minuteQuarters
  driveTimer := 4
  field := Port.start
  trunk := Port.start
  zoneSlots := Vector.replicate 8 Slot.cleared
  pointSlots := Vector.replicate 64 TroubleSlot.cleared
  outputSlots := Vector.replicate 24 TroubleSlot.cleared
  deviceSlot := Slot.fresh
  counters := DeviceCounters.zero
  store := .noImage
  storeState := .empty
  save := none
  restartPending := false

/-- What a command answers. -/
abbrev Result := Host.Outcome State Fault Refusal

end Sys2Proof.Machine
end

