-- ==== Sys2Proof/Machine/Ops.lean ====
section
/-! DEFINITION. The named operations every block shares: field updates of the state, saturating counters, timers,
node look-ups, and the questions the blocks ask of a zone's level and branches. -/

namespace Sys2Proof.Machine

/-! ## Updates of one field -/

def State.setPending (s : State) (v : List Instr) : State := { s with pending := v }
def State.setFreeIndex (s : State) (v : Nat) : State := { s with freeIndex := v }
def State.setPowered (s : State) (v : Bool) : State := { s with powered := v }
def State.setResetLine (s : State) (v : Bool) : State := { s with resetLine := v }
def State.setPoint (s : State) (i : Fin 64) (e : Entry PointFields PointDyn) : State :=
  { s with points := s.points.set i e }
def State.setZone (s : State) (z : Fin 8) (e : Entry ZoneFields ZoneDyn) : State :=
  { s with zones := s.zones.set z e }
def State.setOutput (s : State) (i : Fin 24) (e : Entry OutputFields OutputDyn) : State :=
  { s with outputs := s.outputs.set i e }
def State.setWindow (s : State) (w : Fin 8) (e : Entry WindowFields Unit) : State :=
  { s with windows := s.windows.set w e }
def State.setResponse (s : State) (v : Response) : State := { s with response := v }
def State.setClock (s : State) (j : Fin 2) (v : PurgeClock) : State :=
  { s with clocks := s.clocks.set j v }
def State.setPendingRecord (s : State) (v : DeviceRecord) : State := { s with pendingRecord := v }
def State.setDayClock (s : State) (v : Option DayClock) : State := { s with dayClock := v }
def State.setMinuteTimer (s : State) (v : Nat) : State := { s with minuteTimer := v }
def State.setDriveTimer (s : State) (v : Nat) : State := { s with driveTimer := v }
def State.setField (s : State) (v : Port) : State := { s with field := v }
def State.setTrunk (s : State) (v : Port) : State := { s with trunk := v }
def State.setZoneSlot (s : State) (z : Fin 8) (v : Slot) : State :=
  { s with zoneSlots := s.zoneSlots.set z v }
def State.setPointSlot (s : State) (i : Fin 64) (v : TroubleSlot) : State :=
  { s with pointSlots := s.pointSlots.set i v }
def State.setOutputSlot (s : State) (i : Fin 24) (v : TroubleSlot) : State :=
  { s with outputSlots := s.outputSlots.set i v }
def State.setDeviceSlot (s : State) (v : Slot) : State := { s with deviceSlot := v }
def State.setCounters (s : State) (v : DeviceCounters) : State := { s with counters := v }
def State.setStore (s : State) (v : StoreContent) : State := { s with store := v }
def State.setStoreState (s : State) (v : StoreState) : State := { s with storeState := v }
def State.setSave (s : State) (v : Option SaveInFlight) : State := { s with save := v }
def State.setRestartPending (s : State) (v : Bool) : State := { s with restartPending := v }

/-- A port by its name. -/
def State.port (s : State) : PortId → Port
  | .field => s.field
  | .trunk => s.trunk

/-- Replace a port. -/
def State.setPort (s : State) (p : PortId) (v : Port) : State :=
  match p with
  | .field => s.setField v
  | .trunk => s.setTrunk v

/-! ## Counters -/

/-- One more, saturating at 65535 (R173). -/
def satInc (n : Nat) : Nat := min (n + 1) 65535

def Port.countReceived (p : Port) : Port :=
  { p with counters := { p.counters with received := satInc p.counters.received } }
def Port.countForwarded (p : Port) : Port :=
  { p with counters := { p.counters with forwarded := satInc p.counters.forwarded } }
def Port.countDroppedQueue (p : Port) : Port :=
  { p with counters := { p.counters with droppedQueue := satInc p.counters.droppedQueue } }
def Port.countDroppedHop (p : Port) : Port :=
  { p with counters := { p.counters with droppedHop := satInc p.counters.droppedHop } }
def Port.countAbandoned (p : Port) : Port :=
  { p with counters := { p.counters with abandoned := satInc p.counters.abandoned } }
def Port.countOffEntry (p : Port) : Port :=
  { p with counters := { p.counters with offEntries := satInc p.counters.offEntries } }
def Port.countMalformed (p : Port) : Port :=
  { p with counters := { p.counters with malformed := satInc p.counters.malformed } }

def State.countStranger (s : State) : State :=
  s.setCounters { s.counters with stranger := satInc s.counters.stranger }
def State.countBadSample (s : State) : State :=
  s.setCounters { s.counters with badSamples := satInc s.counters.badSamples }
def State.countBlockedDrive (s : State) : State :=
  s.setCounters { s.counters with blockedDrive := satInc s.counters.blockedDrive }
def State.countIgnoredPanel (s : State) : State :=
  s.setCounters { s.counters with ignoredPanel := satInc s.counters.ignoredPanel }
def State.countIgnoredTime (s : State) : State :=
  s.setCounters { s.counters with ignoredTime := satInc s.counters.ignoredTime }
def State.countMgmtDropped (s : State) : State :=
  s.setCounters { s.counters with mgmtDropped := satInc s.counters.mgmtDropped }

/-! ## Timers -/

/-- A timer started with `seconds` remaining. -/
def timerOf (seconds : Nat) : Timer := some (4 * seconds)

/-- Seconds remaining as they are reported: rounded up to whole seconds, so that a running timer reads at least 1,
and 0 when it does not run (R183). -/
def Timer.seconds : Timer → Nat
  | none => 0
  | some q => max 1 ((q + 3) / 4)

/-- A quarter second passes on a timer. -/
def Timer.tick : Timer → Timer
  | none => none
  | some q => some (q - 1)

/-- The timer runs and has nothing left: its expiry is due. -/
def Timer.due (t : Timer) : Bool := t == some 0

/-! ## Entries and nodes -/

def Entry.fields? {φ δ : Type} : Entry φ δ → Option φ
  | .vacant => none
  | .draft f => some f
  | .inService f _ => some f

def Entry.isInService {φ δ : Type} : Entry φ δ → Bool
  | .inService _ _ => true
  | _ => false

def Entry.lifeCycle {φ δ : Type} : Entry φ δ → LifeCycle
  | .vacant => .vacant
  | .draft _ => .draft
  | .inService _ _ => .inService

/-- The node of a point entry, absent when the entry is VACANT or its node is. -/
def State.pointNode (s : State) (i : Fin 64) : Option Byte := s.points[i].fields?.bind (·.node)

/-- The node of an output entry. -/
def State.outputNode (s : State) (i : Fin 24) : Option Byte := s.outputs[i].fields?.bind (·.node)

/-- The IN_SERVICE point whose node sent a frame (R130). Nodes are not shared (R139). -/
def State.pointAt (s : State) (node : Byte) : Option (Fin 64) :=
  (List.finRange 64).find? fun i => s.points[i].isInService && s.pointNode i == some node

/-- The IN_SERVICE output whose node sent or is to receive a frame (R131, R135). -/
def State.outputAt (s : State) (node : Byte) : Option (Fin 24) :=
  (List.finRange 24).find? fun i => s.outputs[i].isInService && s.outputNode i == some node

/-- The node of some point entry that is not VACANT (R130). -/
def State.isPointNode (s : State) (node : Byte) : Bool :=
  (List.finRange 64).any fun i => s.pointNode i == some node

/-- A known field node (R128): the node of a point or output entry that is not VACANT. -/
def State.isKnownNode (s : State) (node : Byte) : Bool :=
  s.isPointNode node || (List.finRange 24).any fun i => s.outputNode i == some node

/-! ## Levels and branches -/

/-- The highest member of a set, 0 when it is empty (R29). -/
def LevelSet.highest (l : LevelSet) : Level :=
  if l.l5 then 5 else if l.l4 then 4 else if l.l3 then 3 else if l.l2 then 2 else if l.l1 then 1 else 0

/-- Add a level from 1 to 5. -/
def LevelSet.insert (l : LevelSet) (v : Level) : LevelSet :=
  { l1 := l.l1 || v == 1, l2 := l.l2 || v == 2, l3 := l.l3 || v == 3, l4 := l.l4 || v == 4,
    l5 := l.l5 || v == 5 }

/-- Take a level out. -/
def LevelSet.erase (l : LevelSet) (v : Level) : LevelSet :=
  { l1 := l.l1 && v != 1, l2 := l.l2 && v != 2, l3 := l.l3 && v != 3, l4 := l.l4 && v != 4,
    l5 := l.l5 && v != 5 }

/-- The empty set. -/
def LevelSet.none : LevelSet := ⟨false, false, false, false, false⟩

/-- The effective level E of a zone (R29). -/
def ZoneDyn.level (d : ZoneDyn) : Level := d.inForce.highest

/-- E of a zone entry; an entry out of service has none, and reads as 0 (R25). -/
def State.zoneLevel (s : State) (z : Fin 8) : Level :=
  match s.zones[z] with
  | .inService _ d => d.level
  | _ => 0

/-- A level that counts as in fire (R50). -/
def isFire (l : Level) : Bool := decide (4 ≤ l)

/-- The fire state, which is the fire lock (R52, R150). -/
def State.fireState (s : State) : Bool :=
  (List.finRange 8).any fun z => isFire (s.zoneLevel z)

/-- The branch positions that are read: 1 to the branch count (R138). -/
def ZoneFields.branches (f : ZoneFields) : List (Fin 4) :=
  (List.finRange 4).filter fun k => k.val < f.count

/-- A branch of the zone names the fan (R99). -/
def ZoneFields.namesFan (f : ZoneFields) (i : Fin 24) : Bool :=
  f.branches.any fun k => f.fans[k] == i

/-- A branch of the zone names the output, as its fan or its damper. -/
def ZoneFields.namesOutput (f : ZoneFields) (i : Fin 24) : Bool :=
  f.branches.any fun k => f.fans[k] == i || f.dampers[k] == some i

/-- The zone is IN_SERVICE and a branch of it names the fan: it is in reach of the fan (R99). -/
def State.reachesFan (s : State) (z : Fin 8) (i : Fin 24) : Bool :=
  match s.zones[z] with
  | .inService f _ => f.namesFan i
  | _ => false

/-- The zone is IN_SERVICE and a branch of it names the output. -/
def State.reachesOutput (s : State) (z : Fin 8) (i : Fin 24) : Bool :=
  match s.zones[z] with
  | .inService f _ => f.namesOutput i
  | _ => false

/-- The fan has fire in reach (R99). -/
def State.fireInReach (s : State) (i : Fin 24) : Bool :=
  (List.finRange 8).any fun z => s.reachesFan z i && isFire (s.zoneLevel z)

/-- An IN_SERVICE zone whose branches name the output is in fire (R113, R145). -/
def State.outputLocked (s : State) (i : Fin 24) : Bool :=
  (List.finRange 8).any fun z => s.reachesOutput z i && isFire (s.zoneLevel z)

/-- An IN_SERVICE zone's branches name the output (R145). -/
def State.outputReferenced (s : State) (i : Fin 24) : Bool :=
  (List.finRange 8).any fun z => s.reachesOutput z i

/-- An IN_SERVICE point names the zone (R145). -/
def State.zoneReferenced (s : State) (z : Fin 8) : Bool :=
  (List.finRange 64).any fun i =>
    match s.points[i] with
    | .inService f _ => f.zone == z
    | _ => false

/-- The part works: it has supply and the RESET line is not asserted (R177). -/
def State.works (s : State) : Bool := s.powered && !s.resetLine

/-- A SAVE is in flight (R151). -/
def State.saving (s : State) : Bool := s.save.isSome

/-- An index byte as an index of a table of `n` entries. -/
def indexOf (n : Nat) (b : Byte) : Option (Fin n) :=
  if h : b.toNat < n then some ⟨b.toNat, h⟩ else none

end Sys2Proof.Machine
end

