-- ==== Sys2Proof/Machine/Flags.lean ====
section
/-! DEFINITION. How values are packed into payload bytes: two- and three-byte fields, groups of flags, sets of
levels, and the codes of the named values (sections 11.2 and 11.3, R183). -/

namespace Sys2Proof.Machine

/-- A number as one byte. -/
def byte (n : Nat) : Byte := BitVec.ofNat 8 n

/-- A number as two bytes, low byte first. -/
def bytes2 (n : Nat) : List Byte := [byte n, byte (n / 256)]

/-- A number as three bytes, low byte first (the accumulator of R159). -/
def bytes3 (n : Nat) : List Byte := [byte n, byte (n / 256), byte (n / 65536)]

/-- A group of flags in one byte, the first listed in bit 0 (R183). -/
def packFlags (l : List Bool) : Byte := byte (l.foldr (fun b n => b.toNat + 2 * n) 0)

/-- A page of a read reply, padded with bytes of 0 to five data bytes (R183). -/
def page (l : List Byte) : List Byte := l ++ List.replicate (5 - l.length) 0

/-- The in-force set in one byte, level 1 in bit 0. -/
def LevelSet.byte (l : LevelSet) : Byte := packFlags [l.l1, l.l2, l.l3, l.l4, l.l5]

def LifeCycle.code : LifeCycle → Nat
  | .vacant => 0
  | .draft => 1
  | .inService => 2
  | .none => 3

def PointState.code : PointState → Nat
  | .await => 0
  | .live => 1
  | .fault _ => 2

def FanState.code : FanState → Nat
  | .stopped => 0
  | .pathWait => 1
  | .starting => 2
  | .running => 3
  | .stopping => 4
  | .fault _ => 5
  | .hand => 6

def DamperState.code : DamperState → Nat
  | .settled => 0
  | .travelling => 1
  | .fault _ => 2
  | .hand => 3

/-- Trouble state of an entry that is not in service (section 11.3). -/
def notInServiceCode : Nat := 15

def StoreState.code : StoreState → Nat
  | .valid => 0
  | .invalid => 1
  | .empty => 2

def Reason.code : Reason → Nat
  | .none => 0
  | .silent => 1
  | .sensor => 2
  | .noPath => 3
  | .startFail => 4
  | .driveFault => 5
  | .flowLost => 6
  | .statusSilent => 7
  | .stopFail => 8
  | .jammed => 9
  | .travel => 10
  | .invalid => 11
  | .empty => 12

def PointFault.reason : PointFault → Reason
  | .silent => .silent
  | .sensor => .sensor

def FanFault.reason : FanFault → Reason
  | .noPath => .noPath
  | .startFail => .startFail
  | .driveFault => .driveFault
  | .flowLost => .flowLost
  | .statusSilent => .statusSilent
  | .stopFail => .stopFail

def DamperFault.reason : DamperFault → Reason
  | .jammed => .jammed
  | .travel => .travel
  | .statusSilent => .statusSilent

/-- The fault reason of a point, none outside FAULT (R3). -/
def PointState.reason : PointState → Reason
  | .fault r => r.reason
  | _ => .none

/-- The fault reason of a fan, none outside FAULT (R97). -/
def FanState.reason : FanState → Reason
  | .fault r => r.reason
  | _ => .none

/-- The fault reason of a damper, none outside FAULT (R98). -/
def DamperState.reason : DamperState → Reason
  | .fault r => r.reason
  | _ => .none

/-- The reason of the device slot's report: INVALID or EMPTY, or none when VALID (R169). -/
def StoreState.reason : StoreState → Reason
  | .valid => .none
  | .invalid => .invalid
  | .empty => .empty

def Grade.code : Grade → Nat
  | .clear => 0
  | .a => 1
  | .b => 2

def DamperTarget.code : DamperTarget → Nat
  | .closed => 0
  | .opened => 1

def DamperPosition.code : DamperPosition → Nat
  | .closed => 0
  | .opened => 1
  | .moving => 2
  | .unknown => 3

def HoldMark.code : HoldMark → Nat
  | .none => 0
  | .heldRunning => 1
  | .heldStopped => 2

/-- The run-on as one of four: IDLE, RUNNING, RUNNING with release accepted, RELEASE_WAIT (R37). -/
def ZoneDyn.runOnCode (d : ZoneDyn) : Nat :=
  if d.releaseWait then 3 else if d.runOn.isSome then (if d.accepted then 2 else 1) else 0

/-- The running timer of a fan and its code: path, start, status, stop or retry (R160). -/
def FanDyn.runningTimer (d : FanDyn) : Nat × Timer :=
  if d.pathTimer.isSome then (1, d.pathTimer)
  else if d.startTimer.isSome then (2, d.startTimer)
  else if d.statusTimer.isSome then (3, d.statusTimer)
  else if d.stopTimer.isSome then (4, d.stopTimer)
  else if d.retryTimer.isSome then (5, d.retryTimer)
  else (0, none)

/-- The running timer of a damper and its code: travel or status (R160). -/
def DamperDyn.runningTimer (d : DamperDyn) : Nat × Timer :=
  if d.travelTimer.isSome then (1, d.travelTimer)
  else if d.statusTimer.isSome then (2, d.statusTimer)
  else (0, none)

def CheckReason.code : CheckReason → Nat
  | .calOrder => 1
  | .calWidth => 2
  | .threshOrder => 3
  | .levelKind => 4
  | .nodeDuplicate => 5
  | .zoneNotInService => 6
  | .outputNotInService => 7
  | .kindMismatch => 8
  | .flowOrder => 9
  | .purgeRange => 10
  | .windowRange => 11

def ReplyCode.code : ReplyCode → Nat
  | .badRequest => 1
  | .badTable => 2
  | .badIndex => 3
  | .badField => 4
  | .outOfRange => 5
  | .state => 6
  | .locked => 7
  | .busy => 8
  | .notInForce => 9
  | .conditionPresent => 10
  | .checkFailed _ => 11
  | .referenced => 12
  | .storeFault => 13

/-- The reply data of a result other than DONE: the reason byte of CHECK_FAILED, and nothing else (R153). -/
def ReplyCode.data : ReplyCode → List Byte
  | .checkFailed r => [byte r.code]
  | _ => []

end Sys2Proof.Machine
end

