-- ==== Sys2Proof/Machine/Reading.lean ====
section
/-! DEFINITION. The reading unit (chapter 1): sample classes, calibration, filter, grading, the point state machine and
the contribution. Everything here acts on one point. -/

namespace Sys2Proof.Machine

/-- The silence timeout: interval × silence multiple seconds (R1, R11). -/
def PointFields.silenceTimeout (f : PointFields) : Timer := timerOf (f.interval * f.silenceMult)

/-- The dynamic state a point takes at commission and at each reset (R3). -/
def PointFields.initial (f : PointFields) : PointDyn where
  state := .await
  grade := .clear
  run := 0
  acc := 0
  filtered := 0
  lastRaw := 0
  overMark := false
  underMark := false
  silence := f.silenceTimeout
  forwardCount := 0
  badCount := 0

/-! ## Classes (R4) -/

inductive SampleClass where
  | sensorFault
  | warmUp
  | bad
  | valid
deriving DecidableEq, Repr

/-- The class of a sample: the flags are examined before the raw count (R4). -/
def classify (f : PointFields) (raw : Nat) (warm sensorFault : Bool) : SampleClass :=
  if sensorFault then .sensorFault
  else if warm then .warmUp
  else if 2 ^ f.width ≤ raw then .bad
  else .valid

/-! ## Calibration (R13, R14) -/

/-- The present calibration pairs in order (R1). -/
def PointFields.pairs (f : PointFields) : List (Nat × Nat) :=
  [(f.raw1, f.val1), (f.raw2, f.val2)]
    ++ (match f.raw3 with | some r => [(r, f.val3)] | none => [])
    ++ (match f.raw4 with | some r => [(r, f.val4)] | none => [])

/-- The reading between two pairs, rounded to the nearest and up at a half (R13). -/
def interpolate (raw r1 v1 r2 v2 : Nat) : Nat :=
  let num := (raw - r1) * (v2 - v1)
  let den := r2 - r1
  v1 + (2 * num + den) / (2 * den)

/-- The reading of a raw count that lies within the pairs (R13). -/
def alongPairs (raw : Nat) : List (Nat × Nat) → Nat
  | [] => 0
  | [(_, v)] => v
  | (r1, v1) :: (r2, v2) :: rest =>
    if raw ≤ r1 then v1
    else if raw < r2 then interpolate raw r1 v1 r2 v2
    else alongPairs raw ((r2, v2) :: rest)

/-- A reading with its clamping marks. -/
structure Reading where
  value : Nat
  overMark : Bool
  underMark : Bool
deriving DecidableEq, Repr

/-- The reading of a valid sample (R13), clamped to the first or last value and marked outside the pairs (R14). -/
def calibrate (f : PointFields) (raw : Nat) : Reading :=
  let last := f.pairs.getLastD (f.raw2, f.val2)
  if raw < f.raw1 then ⟨f.val1, false, true⟩
  else if last.1 < raw then ⟨last.2, true, false⟩
  else ⟨alongPairs raw f.pairs, false, false⟩

/-! ## Filter (R15) -/

/-- The accumulator after a valid sample that takes the point to LIVE (R15). -/
def filterStart (k v : Nat) : Nat := v * 2 ^ k

/-- The accumulator after a later valid sample (R15). -/
def filterStep (k acc v : Nat) : Nat := acc - acc / 2 ^ k + v

/-- The filtered reading of an accumulator (R15). -/
def filterOutput (k acc : Nat) : Nat := if k = 0 then acc else (acc + 2 ^ (k - 1)) / 2 ^ k

/-! ## Grading (R17 to R21) -/

/-- The candidate of a valid sample (R17); CLEAR stands for none. -/
def candidate (f : PointFields) (overMark : Bool) (v : Nat) : Grade :=
  let supportsB := match f.riseB with
    | some b => overMark || decide (b ≤ v)
    | none => false
  if supportsB then .b
  else if overMark || decide (f.riseA ≤ v) then .a
  else .clear

/-- The filtered reading is below fall_A, and the sample is not OVER (R19, R20). -/
def belowFallA (f : PointFields) (overMark : Bool) (v : Nat) : Bool := !overMark && decide (v < f.fallA)

/-- The filtered reading is below fall_B, and the sample is not OVER (R20). -/
def belowFallB (f : PointFields) (overMark : Bool) (v : Nat) : Bool :=
  match f.fallB with
  | some b => !overMark && decide (v < b)
  | none => false

/-- Grade and run counter after a valid sample (R18 to R20). -/
def gradeStep (f : PointFields) (overMark : Bool) (v : Nat) (g : Grade) (run : Nat) : Grade × Nat :=
  let cand := candidate f overMark v
  match g with
  | .clear =>
    if cand = .clear then (.clear, 0)
    else if f.confirm ≤ run + 1 then (cand, 0)
    else (.clear, run + 1)
  | .a =>
    if belowFallA f overMark v then (.clear, 0)
    else if cand = .b then (if f.confirm ≤ run + 1 then (.b, 0) else (.a, run + 1))
    else (.a, 0)
  | .b =>
    if belowFallA f overMark v then (.clear, 0)
    else if belowFallB f overMark v then (.a, 0)
    else (.b, 0)

/-! ## The point state machine (R7 to R11) -/

/-- The point is in FAULT. -/
def PointState.isFault : PointState → Bool
  | .fault _ => true
  | _ => false

/-- Entry to FAULT (R9): grade CLEAR, run counter 0, silence timer stopped; filter and marks are kept. -/
def PointDyn.enterFault (d : PointDyn) (r : PointFault) : PointDyn :=
  { d with state := .fault r, grade := .clear, run := 0, silence := none }

/-- A valid sample is taken (R7, R8, R10): in LIVE it updates the filter; from AWAIT or FAULT it starts the filter and
the grading afresh and takes the point to LIVE. -/
def PointDyn.takeValid (f : PointFields) (d : PointDyn) (raw : Nat) : PointDyn :=
  let c := calibrate f raw
  let live := d.state == .live
  let acc := if live then filterStep f.depth d.acc c.value else filterStart f.depth c.value
  let v := filterOutput f.depth acc
  let g := if live then gradeStep f c.overMark v d.grade d.run else gradeStep f c.overMark v .clear 0
  { d with
    state := .live
    grade := g.1
    run := g.2
    acc := acc
    filtered := v
    overMark := c.overMark
    underMark := c.underMark
    silence := f.silenceTimeout }

/-- A warm-up sample: it restarts the silence timer in AWAIT and LIVE and does nothing in FAULT (R7, R8, R10). -/
def PointDyn.takeWarmUp (f : PointFields) (d : PointDyn) : PointDyn :=
  if d.state.isFault then d else { d with silence := f.silenceTimeout }

/-- A sensor-fault sample: FAULT with reason SENSOR from AWAIT and LIVE, nothing in FAULT (R7, R8, R10). -/
def PointDyn.takeSensorFault (d : PointDyn) : PointDyn :=
  if d.state.isFault then d else d.enterFault .sensor

/-- The forward counter after a sample, and whether the sample is due (R6). -/
def forwardStep (every count : Nat) : Nat × Bool :=
  if every = 0 then (count, false)
  else if count + 1 = every then (0, true)
  else (count + 1, false)

/-- A well-formed sample taken by a point (R4 to R10). -/
def PointDyn.takeSample (f : PointFields) (d : PointDyn) (raw : Nat) (warm sensorFault : Bool) : PointDyn :=
  let d := { d with lastRaw := raw, forwardCount := (forwardStep f.forwardEvery d.forwardCount).1 }
  match classify f raw warm sensorFault with
  | .sensorFault => d.takeSensorFault
  | .warmUp => d.takeWarmUp f
  | .bad => { d with badCount := satInc d.badCount }
  | .valid => d.takeValid f raw

/-- The state changed otherwise than by its fault reason alone (R6). -/
def PointState.changed (old new : PointState) : Bool := old.code != new.code

/-- The sample is forwarded up: it is due, changed or bad (R6, R130). -/
def sampleForwarded (f : PointFields) (old new : PointDyn) (raw : Nat) (warm sensorFault : Bool) : Bool :=
  (forwardStep f.forwardEvery old.forwardCount).2
    || (old.state.changed new.state || old.grade != new.grade)
    || classify f raw warm sensorFault == .bad

/-- Expiry of the silence timer in AWAIT or LIVE (R11). -/
def PointDyn.silent (d : PointDyn) : PointDyn := d.enterFault .silent

/-! ## Contribution (R22) -/

/-- The contribution of an IN_SERVICE point. -/
def contribution (f : PointFields) (d : PointDyn) : Level :=
  match d.state with
  | .await => 0
  | .fault _ => f.faultLevel
  | .live =>
    match d.grade with
    | .clear => 0
    | .a => f.levelA
    | .b => f.levelB.getD 0

end Sys2Proof.Machine
end

