-- ==== Sys2Proof/Config.lean ====
section
/-! DEFINITION. What the manual leaves open: the values here have no body, so that no proof can lean on one. -/

namespace Sys2Proof

/-- The bytes of an image in the order the store writes it. R174 computes the check word over them and gives no
byte layout of the image (log entry 10). -/
opaque Config.imageBytes : Machine.Image → List Byte

/-- Which of several timer expiries that fall due together is taken first: R11, R35, R64, R101, R111 and others say that
either may be. The n-th such choice takes the expiry at this number, modulo how many are due (log entry 3). -/
opaque Config.expiryOrder : Nat → Nat

/-- Where the grade stands in a point's trouble report. R3 says that the grade appears there; R169 and section 11.2 give it no
item, and the opening sentence of chapter 11 sends every flag bit that the chapter does not name as 0. The model settles this
for R3: the grade's code takes two neighbouring bits of the six of byte 4 that are not named, the lower of them this many
above bit 2 (DESIGN CHOICE, log entry 27). -/
opaque Config.gradePlace : Fin 5

/-- Whether READ_DEVICE shows a difference between the copies of the device record, and on which page. The last sentence of
R149 says that it shows any; R162 names no item for it and R183 pads the byte that either page has left with 0. Nothing in
the manual settles which holds, so that both readings are left open (DESIGN CHOICE, log entry 28). -/
opaque Config.differencePage : Option (Fin 2)

/-- What READ_DEVICE shows, where it does, for an active and a pending copy that differ, less 1 (log entry 28). -/
opaque Config.recordDifference : Machine.DeviceRecord → Machine.DeviceRecord → Fin 255

end Sys2Proof
end

