-- ==== Sys2Proof/Machine/Reports.lean ====
section
/-! DEFINITION. The report unit (chapter 9): setting a slot, building a report from the live values, and what a slot
becomes when its offer ends. -/

namespace Sys2Proof.Machine

/-! ## Setting a slot -/

/-- A slot is set (R166): clear becomes pending, pending becomes SUPERSEDED, pending on offer becomes renewed. -/
def Slot.mark (x : Slot) (onOffer : Bool) : Slot :=
  if x.pending then
    if onOffer then { x with renewed := true } else { x with superseded := true }
  else Slot.fresh

/-- The slot's report is on offer (R166). -/
def State.onOffer (s : State) (id : SlotId) : Bool :=
  match s.trunk.report with
  | some r => r.slot == some id
  | none => false

/-- Set a zone's report slot (R56). -/
def State.markZone (s : State) (z : Fin 8) : State :=
  s.setZoneSlot z (s.zoneSlots[z].mark (s.onOffer (.zone z)))

/-- A trouble slot is set; an event marked "raised" also writes its last reason (R168). -/
def TroubleSlot.mark (x : TroubleSlot) (onOffer : Bool) (raised : Option Reason) : TroubleSlot :=
  { slot := x.slot.mark onOffer, lastReason := raised.getD x.lastReason }

/-- Set a point's trouble slot (R168). -/
def State.markPoint (s : State) (i : Fin 64) (raised : Option Reason) : State :=
  s.setPointSlot i (s.pointSlots[i].mark (s.onOffer (.point i)) raised)

/-- Set an output's trouble slot (R168). -/
def State.markOutput (s : State) (i : Fin 24) (raised : Option Reason) : State :=
  s.setOutputSlot i (s.outputSlots[i].mark (s.onOffer (.output i)) raised)

/-- Set the device slot (R170). -/
def State.markDevice (s : State) : State :=
  s.setDeviceSlot (s.deviceSlot.mark (s.onOffer .device))

/-! ## Which events set a trouble slot -/

/-- What a point's change of state does to its trouble slot (R168): nothing, set it, or set it and write a
reason. -/
def pointTrouble (old new : PointState) : Option (Option Reason) :=
  match old, new with
  | .fault _, .fault _ => none
  | .fault _, _ => some none
  | _, .fault r => some (some r.reason)
  | _, _ => none

/-- What a fan's change does to its trouble slot (R168): entry to FAULT, a start without a path, an exit from
FAULT, or the clearing of the NO_PATH mark. A fan that enters FAULT with the mark set has its slot set once. -/
def fanTrouble (old new : FanDyn) : Option (Option Reason) :=
  match old.state, new.state with
  | .fault _, .fault _ => none
  | _, .fault r => some (some r.reason)
  | .fault _, _ => some none
  | _, _ =>
    if new.noPath && !old.noPath then some (some .noPath)
    else if old.noPath && !new.noPath then some none
    else none

/-- What a damper's change of state does to its trouble slot (R168). -/
def damperTrouble (old new : DamperState) : Option (Option Reason) :=
  match old, new with
  | .fault _, .fault _ => none
  | _, .fault r => some (some r.reason)
  | .fault _, _ => some none
  | _, _ => none

/-! ## Building a report -/

/-- A frame the DX48 originates (R119): its active node as source, hop count 0. -/
def State.originate (s : State) (prio : BitVec 3) (kind : BitVec 6) (dst : Byte) (data : List Byte) : Frame where
  prio := prio
  kind := kind
  hop := 0
  dst := dst
  src := s.active.node
  data := data

/-- Priority of a zone's report by its E (R119). -/
def zonePriority (e : Level) : BitVec 3 :=
  if 4 ≤ e then 1 else if e = 3 then 2 else if 1 ≤ e then 4 else 5

/-- Priority of a trouble report (R119). -/
def troublePriority : BitVec 3 := 3

/-- The payload of a ZONE_REPORT (R167, section 11.2). -/
def zoneReportData (z : Fin 8) (d : ZoneDyn) (superseded : Bool) : List Byte :=
  [byte z.val, byte (d.level.val + 16 * d.cond.val), d.inForce.byte,
    packFlags [d.releaseWait, d.accepted, d.short, d.suppress, d.held1 || d.held2, decide (0 < d.force), superseded]]
  ++ bytes2 d.demand ++ bytes2 d.delivered

/-- The payload of a TROUBLE_REPORT (R169, section 11.2). `shown` is what stands in the bits of byte 4 that section 11.2 does
not name: 0, by the opening sentence of chapter 11, but for a point's grade (DESIGN CHOICE, log entry 27). -/
def troubleData (cls index state : Nat) (reason : Reason) (raised superseded : Bool) (retries : Nat) (shown : Byte := 0) :
    List Byte :=
  [byte cls, byte index, byte state, byte reason.code, packFlags [raised, superseded] + shown, byte retries]

/-- The grade as a point's trouble report shows it: its code of section 11.3, in two bits of byte 4 (DESIGN CHOICE, log entry
27). R3 says that the grade appears in the report, and R169 and section 11.2 list no item for it; the opening sentence of
chapter 11 sends a bit of a flag byte that it does not name as 0. The model settles this conflict for R3, against that
sentence, and leaves open which two of the unnamed bits they are. -/
def Grade.shown : Grade → Byte
  | .clear => 0
  | .a => byte (Grade.a.code * 2 ^ (2 + Config.gradePlace.val))
  | .b => byte (Grade.b.code * 2 ^ (2 + Config.gradePlace.val))

/-- The trouble report of a point as its entry stands (R169), with the grade of an IN_SERVICE point (R3, log entry 27). -/
def State.pointReportData (s : State) (i : Fin 64) : List Byte :=
  let t := s.pointSlots[i]
  match s.points[i] with
  | .inService _ d =>
    match d.state with
    | .fault r => troubleData 0 i.val d.state.code r.reason true t.slot.superseded 0 d.grade.shown
    | _ => troubleData 0 i.val d.state.code t.lastReason false t.slot.superseded 0 d.grade.shown
  | _ => troubleData 0 i.val notInServiceCode t.lastReason false t.slot.superseded 0

/-- The trouble report of an output as its entry stands (R169). The NO_PATH mark is reported as raised while it is
set. -/
def State.outputReportData (s : State) (i : Fin 24) : List Byte :=
  let t := s.outputSlots[i]
  match s.outputs[i] with
  | .inService _ (.fan d) =>
    match d.state with
    | .fault r => troubleData 1 i.val d.state.code r.reason true t.slot.superseded d.retryCount
    | _ =>
      if d.noPath then troubleData 1 i.val d.state.code .noPath true t.slot.superseded d.retryCount
      else troubleData 1 i.val d.state.code t.lastReason false t.slot.superseded d.retryCount
  | .inService _ (.damper d) =>
    match d.state with
    | .fault r => troubleData 1 i.val d.state.code r.reason true t.slot.superseded 0
    | _ => troubleData 1 i.val d.state.code t.lastReason false t.slot.superseded 0
  | _ => troubleData 1 i.val notInServiceCode t.lastReason false t.slot.superseded 0

/-- The trouble report of the part itself (R169). -/
def State.deviceReportData (s : State) : List Byte :=
  troubleData 2 0 s.storeState.code s.storeState.reason (s.storeState != .valid) s.deviceSlot.superseded 0

/-- The marks of a slot, by its name. -/
def State.slot (s : State) : SlotId → Slot
  | .zone z => s.zoneSlots[z]
  | .point i => s.pointSlots[i].slot
  | .output i => s.outputSlots[i].slot
  | .device => s.deviceSlot

/-- Replace the marks of a slot. -/
def State.setSlot (s : State) (id : SlotId) (x : Slot) : State :=
  match id with
  | .zone z => s.setZoneSlot z x
  | .point i => s.setPointSlot i { s.pointSlots[i] with slot := x }
  | .output i => s.setOutputSlot i { s.outputSlots[i] with slot := x }
  | .device => s.setDeviceSlot x

/-- The report frame of a slot, built from the values held now (R167, R169). A zone that is not IN_SERVICE has no
report (R54). -/
def State.report? (s : State) : SlotId → Option Frame
  | .zone z =>
    match s.zones[z] with
    | .inService _ d =>
      some (s.originate (zonePriority d.level) kindZoneReport 255 (zoneReportData z d s.zoneSlots[z].superseded))
    | _ => none
  | .point i => some (s.originate troublePriority kindTroubleReport 255 (s.pointReportData i))
  | .output i => some (s.originate troublePriority kindTroubleReport 255 (s.outputReportData i))
  | .device => some (s.originate troublePriority kindTroubleReport 255 s.deviceReportData)

/-! ## The end of an offer -/

/-- A slot after its report was transmitted (R167): clear, or pending again when it was renewed. -/
def Slot.transmitted (x : Slot) : Slot := ⟨x.renewed, false, false⟩

/-- A slot after its report was abandoned (R167): it stays pending, and SUPERSEDED is set when it was set at the
build or the slot was renewed. -/
def Slot.abandoned (x : Slot) (supersededAtBuild : Bool) : Slot :=
  ⟨x.pending, supersededAtBuild || x.renewed, false⟩

/-- The slot of a report that was transmitted. -/
def State.reportTransmitted (s : State) (r : ReportOffer) : State :=
  match r.slot with
  | some id => s.setSlot id (s.slot id).transmitted
  | none => s

/-- The slot of a report that was abandoned. -/
def State.reportAbandoned (s : State) (r : ReportOffer) : State :=
  match r.slot with
  | some id => s.setSlot id ((s.slot id).abandoned r.superseded)
  | none => s

end Sys2Proof.Machine
end

