-- ==== Sys2Proof/Machine/Ladder.lean ====
section
/-! DEFINITION. The zone ladder (chapter 2): condition, evaluation, take-in, run-on, removal, release, the fire panel,
suppression and force. The first part acts on one zone's dynamic state; the second places it in the machine. -/

namespace Sys2Proof.Machine

/-- The dynamic state a zone takes at commission and at each reset (R26, R94). -/
def ZoneDyn.initial : ZoneDyn where
  cond := 0
  force := 0
  latch := false
  inForce := .none
  held1 := false
  held2 := false
  suppress := false
  runOn := none
  accepted := false
  releaseWait := false
  short := false
  demand := 0
  shares := Vector.replicate 4 0
  delivered := 0
  stagedStart := none
  stagedDuration := none
  stagedFlow := none

/-- Run-on seconds of a level (R34, R147). -/
def Response.runOnOf (r : Response) (l : Level) : Nat := if l = 0 then 0 else r.runOn[l.val - 1]

/-- The confine flag of a level (R51): only levels 4 and 5 have one. -/
def Response.confines (r : Response) (l : Level) : Bool :=
  if l = 5 then r.confine5 else if l = 4 then r.confine4 else false

/-- Take-in of a level (R31). -/
def ZoneDyn.takeIn (d : ZoneDyn) (l : Level) : ZoneDyn :=
  { d with inForce := d.inForce.insert l, runOn := none, accepted := false, releaseWait := false }

/-- A fume level asked for under suppression joins the held set (R32). -/
def ZoneDyn.hold (d : ZoneDyn) (l : Level) : ZoneDyn :=
  { d with held1 := d.held1 || l == 1, held2 := d.held2 || l == 2 }

/-- Check 1 of an evaluation (R30): c above E is taken in (R31) or held (R32). -/
def ZoneDyn.checkRise (d : ZoneDyn) : ZoneDyn :=
  if d.level < d.cond then
    if 3 ≤ d.cond ∨ d.suppress = false then d.takeIn d.cond else d.hold d.cond
  else d

/-- Check 2 of an evaluation (R30, R33): the condition for E is present, and progress towards its removal is
undone. -/
def ZoneDyn.checkPresent (d : ZoneDyn) : ZoneDyn :=
  if 1 ≤ d.level ∧ d.level ≤ d.cond then { d with runOn := none, accepted := false, releaseWait := false } else d

/-- Check 3 of an evaluation (R30, R34): the run-on of E is to start. -/
def ZoneDyn.runOnStarts (d : ZoneDyn) : Bool :=
  decide (d.cond < d.level) && d.runOn.isNone && !d.releaseWait

/-- A run-on that expires leaves E waiting for consent (R36): a fire level without release accepted. -/
def ZoneDyn.mustWait (d : ZoneDyn) : Bool := isFire d.level && !d.accepted

/-- The current E is taken out of the in-force set (R38); the zone is then evaluated afresh. -/
def ZoneDyn.removeTop (d : ZoneDyn) : ZoneDyn :=
  { d with inForce := d.inForce.erase d.level, runOn := none, accepted := false, releaseWait := false }

/-- An evaluation of the zone (R30), with the run-on seconds of each level. A run-on of 0 s expires within the event
(R34): it removes E (R35) and the zone is evaluated again (R38), or sets RELEASE_WAIT (R36). The first argument bounds
the chain of removals. -/
def evaluate (runOnOf : Level → Nat) : Nat → ZoneDyn → ZoneDyn
  | 0, d => d
  | n + 1, d =>
    let d := d.checkRise.checkPresent
    if d.runOnStarts then
      if runOnOf d.level = 0 then
        if d.mustWait then { d with releaseWait := true } else evaluate runOnOf n d.removeTop
      else { d with runOn := timerOf (runOnOf d.level) }
    else d

/-- More removals than a chain can hold: there are five levels. -/
def chainBound : Nat := 6

/-- An evaluation under the response table. -/
def ZoneDyn.evaluated (r : Response) (d : ZoneDyn) : ZoneDyn := evaluate r.runOnOf chainBound d

/-- Expiry of the run-on of E (R35, R36). -/
def ZoneDyn.runOnExpired (r : Response) (d : ZoneDyn) : ZoneDyn :=
  if d.mustWait then { d with runOn := none, releaseWait := true } else d.removeTop.evaluated r

/-- The condition formed from the zone's inputs (R27), with the greatest contribution among its points. -/
def ZoneDyn.formed (d : ZoneDyn) (contributions : Level) : Level :=
  max d.force (max (if d.latch then 5 else 0) contributions)

/-- The condition is formed afresh, and the zone evaluated when it has changed (R27, R28). -/
def ZoneDyn.reformed (r : Response) (contributions : Level) (d : ZoneDyn) : ZoneDyn :=
  let c := d.formed contributions
  if c = d.cond then d else { d with cond := c }.evaluated r

/-- Consent for E to leave (R40, R44): in RELEASE_WAIT E is removed at once, otherwise release accepted is set. -/
def ZoneDyn.consent (r : Response) (d : ZoneDyn) : ZoneDyn :=
  if d.releaseWait then d.removeTop.evaluated r else { d with accepted := true }

/-- PANEL ALARM at a zone in its mask (R43). -/
def ZoneDyn.panelAlarm (r : Response) (contributions : Level) (d : ZoneDyn) : ZoneDyn :=
  if d.latch then d else { d with latch := true }.reformed r contributions

/-- PANEL NORMAL at a zone in its mask (R44): first the latch, then the consent for level 5. -/
def ZoneDyn.panelNormal (r : Response) (contributions : Level) (d : ZoneDyn) : ZoneDyn :=
  let d := if d.latch then { d with latch := false }.reformed r contributions else d
  if d.level = 5 ∧ d.cond < 5 then d.consent r else d

/-- Suppression is set (R46). -/
def ZoneDyn.suppressOn (d : ZoneDyn) : ZoneDyn := { d with suppress := true }

/-- The highest member of the held set, 0 when it is empty. -/
def ZoneDyn.highestHeld (d : ZoneDyn) : Level := if d.held2 then 2 else if d.held1 then 1 else 0

/-- Suppression is lifted (R47): the highest held level above E is taken in, the held set is emptied, and the zone is
evaluated. -/
def ZoneDyn.suppressOff (r : Response) (d : ZoneDyn) : ZoneDyn :=
  if d.suppress then
    let d := { d with suppress := false }
    let d := if d.level < d.highestHeld then d.takeIn d.highestHeld else d
    { d with held1 := false, held2 := false }.evaluated r
  else d

/-- The force level is written (R48). -/
def ZoneDyn.forced (r : Response) (contributions level : Level) (d : ZoneDyn) : ZoneDyn :=
  { d with force := level }.reformed r contributions

/-- What R56 watches: E and the in-force set, c, RELEASE_WAIT, release accepted, SHORT, the suppress flag, whether the
held set is empty, and TEST. -/
structure Watched where
  inForce : LevelSet
  cond : Level
  releaseWait : Bool
  accepted : Bool
  short : Bool
  suppress : Bool
  holding : Bool
  test : Bool
deriving DecidableEq, Repr

/-- The watched items of a zone (R56). -/
def ZoneDyn.watched (d : ZoneDyn) : Watched :=
  ⟨d.inForce, d.cond, d.releaseWait, d.accepted, d.short, d.suppress, d.held1 || d.held2, decide (0 < d.force)⟩

/-! ## The ladder in the machine -/

/-- An event changes an IN_SERVICE zone; its report slot is set once when something R56 watches has changed. -/
def State.updateZone (s : State) (z : Fin 8) (g : ZoneDyn → ZoneDyn) : State :=
  match s.zones[z] with
  | .inService f d =>
    let s' := s.setZone z (.inService f (g d))
    if d.watched = (g d).watched then s' else s'.markZone z
  | _ => s

/-- The greatest contribution among the IN_SERVICE points that name the zone, 0 when there is none (R27). -/
def State.contributions (s : State) (z : Fin 8) : Level :=
  (List.finRange 64).foldl (fun m i =>
    match s.points[i] with
    | .inService f d => if f.zone = z then max m (contribution f d) else m
    | _ => m) 0

/-- The ladder forms a zone's condition afresh (R27, R28). -/
def State.reformZone (s : State) (z : Fin 8) : State :=
  s.updateZone z (ZoneDyn.reformed s.response (s.contributions z))

/-- An event changes an IN_SERVICE point: its trouble slot is set where R168 says, and a changed contribution is
handed to the ladder as part of the event (R22). -/
def State.updatePoint (s : State) (i : Fin 64) (g : PointFields → PointDyn → PointDyn) : State :=
  match s.points[i] with
  | .inService f d =>
    let d' := g f d
    let s := s.setPoint i (.inService f d')
    let s := match pointTrouble d.state d'.state with
      | some raised => s.markPoint i raised
      | none => s
    if contribution f d = contribution f d' then s else s.reformZone f.zone
  | _ => s

/-- A PANEL ALARM at each zone of its mask that is IN_SERVICE (R43). -/
def State.panelAlarm (s : State) (mask : Byte) : State :=
  (List.finRange 8).foldl (fun s z =>
    if mask.getLsbD z.val then s.updateZone z (ZoneDyn.panelAlarm s.response (s.contributions z)) else s) s

/-- A PANEL NORMAL at each zone of its mask that is IN_SERVICE (R44). -/
def State.panelNormal (s : State) (mask : Byte) : State :=
  (List.finRange 8).foldl (fun s z =>
    if mask.getLsbD z.val then s.updateZone z (ZoneDyn.panelNormal s.response (s.contributions z)) else s) s

end Sys2Proof.Machine
end

