-- ==== Sys2Proof/Machine/Demand.lean ====
section
/-! DEFINITION. The demand unit (chapter 3): schedule floor, purge phase, proportional term and demand; the minute timer,
the day clock, TIME frames, the purge clocks and the adoption of staged tunes. -/

namespace Sys2Proof.Machine

/-! ## Schedule windows (R67 to R69) -/

/-- The day before a day (R68). -/
def dayBefore (d : Nat) : Nat := (d + 6) % 7

/-- The window covers a day and minute (R67); with end below start it spans midnight, and the early minutes belong to
the window started the day before (R68). -/
def WindowFields.covers (w : WindowFields) (c : DayClock) : Bool :=
  if w.start < w.stop then
    w.dayMask.getLsbD c.day && decide (w.start ≤ c.minute) && decide (c.minute < w.stop)
  else
    (w.dayMask.getLsbD c.day && decide (w.start ≤ c.minute))
      || (w.dayMask.getLsbD (dayBefore c.day) && decide (c.minute < w.stop))

/-- The schedule floor of a zone: the greatest floor among the active windows that hold it, 0 when there is none or the
clock is UNSET (R69). -/
def State.scheduleFloor (s : State) (z : Fin 8) : Nat :=
  match s.dayClock with
  | none => 0
  | some c =>
    (List.finRange 8).foldl (fun m w =>
      match s.windows[w] with
      | .inService f _ => if f.zoneMask.getLsbD z.val && f.covers c then max m f.floor else m
      | _ => m) 0

/-! ## Purge phase (R71) -/

/-- The zone is in its purge phase: (m − start) mod P < duration. A zone bound to no clock never is. -/
def State.purgePhase (s : State) (f : ZoneFields) : Bool :=
  match f.clock with
  | none => false
  | some j =>
    let c := s.clocks[j]
    decide (((c.counter : Int) - f.purgeStart) % c.period < f.purgeDuration)

/-! ## Demand (R57 to R61) -/

/-- The level an IN_SERVICE point's grade carries, when it is LIVE (R60). -/
def offeredLevel (f : PointFields) (d : PointDyn) : Level :=
  if d.state = .live then contribution f d else 0

/-- The term of one point in the proportional term (R60): floor((f − rise_A) × gain / 16). -/
def offeredTerm (f : PointFields) (d : PointDyn) : Int :=
  ((d.filtered : Int) - f.riseA) * f.gain / 16

/-- The proportional term P of a zone (R60): the greatest term among its offering points, and at least 0. -/
def State.proportional (s : State) (z : Fin 8) : Nat :=
  ((List.finRange 64).foldl (fun m i =>
    match s.points[i] with
    | .inService f d =>
      if f.zone = z ∧ (offeredLevel f d = 1 ∨ offeredLevel f d = 2) then max m (offeredTerm f d) else m
    | _ => m) (0 : Int)).toNat

/-- The demand of an IN_SERVICE zone (R57): its form is fixed by E. -/
def State.demandOf (s : State) (z : Fin 8) (f : ZoneFields) (d : ZoneDyn) : Nat :=
  let floor := s.scheduleFloor z
  if d.level = 0 then max f.minFlow (max floor (if s.purgePhase f then f.purgeFlow else 0))
  else if d.level = 1 then min f.maxFlow (max (f.fumeLowFlow + s.proportional z) floor)
  else if d.level = 2 then min f.maxFlow (max (f.fumeHighFlow + s.proportional z) floor)
  else if d.level = 3 then f.flammableFlow
  else f.fireFlow

/-- The demand of a zone; a zone out of service is not asked (R57). -/
def State.demand (s : State) (z : Fin 8) : Nat :=
  match s.zones[z] with
  | .inService f d => s.demandOf z f d
  | _ => 0

/-! ## Staged tunes (R72 to R74) -/

/-- A zone's fields with its staged values adopted, each that is present (R74). -/
def ZoneFields.adopt (f : ZoneFields) (d : ZoneDyn) : ZoneFields :=
  { f with
    purgeStart := d.stagedStart.getD f.purgeStart
    purgeDuration := d.stagedDuration.getD f.purgeDuration
    purgeFlow := d.stagedFlow.getD f.purgeFlow }

/-- A zone with nothing staged. -/
def ZoneDyn.unstaged (d : ZoneDyn) : ZoneDyn :=
  { d with stagedStart := none, stagedDuration := none, stagedFlow := none }

/-- A zone entry as it adopts its staged tunes. -/
def adoptZone : Entry ZoneFields ZoneDyn → Entry ZoneFields ZoneDyn
  | .inService f d => .inService (f.adopt d) d.unstaged
  | e => e

/-- A clock with its staged period adopted and its counter 0 (R70, R74). -/
def PurgeClock.wrapped (c : PurgeClock) : PurgeClock := ⟨c.staged.getD c.period, 0, none⟩

/-- The clock of an IN_SERVICE zone. -/
def zoneClock : Entry ZoneFields ZoneDyn → Option (Fin 2)
  | .inService f _ => f.clock
  | _ => none

/-- The wrap of a purge clock (R70, R74): its counter is 0, its staged period is adopted, and then the staged values of
the IN_SERVICE zones bound to it. -/
def State.wrapClock (s : State) (j : Fin 2) : State :=
  let s := s.setClock j s.clocks[j].wrapped
  (List.finRange 8).foldl (fun s z =>
    if zoneClock s.zones[z] = some j then s.setZone z (adoptZone s.zones[z]) else s) s

/-- A purge clock's counter advances at a minute expiry (R70): past P − 1 it becomes 0, which is the wrap. -/
def State.advanceClock (s : State) (j : Fin 2) : State :=
  let c := s.clocks[j]
  if c.period ≤ c.counter + 1 then s.wrapClock j
  else s.setClock j { c with counter := c.counter + 1 }

/-! ## The minute timer and the day clock (R63 to R65) -/

/-- The next minute: 1440 becomes 0 with the day advanced, and day 6 is followed by day 0 (R64). -/
def DayClock.next (c : DayClock) : DayClock :=
  if c.minute + 1 = 1440 then ⟨(c.day + 1) % 7, 0⟩ else ⟨c.day, c.minute + 1⟩

/-- A minute expiry (R64): the timer starts again, a set clock advances, and both purge clocks advance. -/
def State.minuteExpired (s : State) : State :=
  let s := (s.setMinuteTimer minuteQuarters).setDayClock (s.dayClock.map DayClock.next)
  (s.advanceClock 0).advanceClock 1

/-- A well-formed TIME frame (R65): in range it sets the clock and restarts the minute timer; otherwise it is ignored and
counted. -/
def State.takeTime (s : State) (day minute second : Nat) : State :=
  if day ≤ 6 ∧ minute ≤ 1439 ∧ second ≤ 59 then
    (s.setDayClock (some ⟨day, minute⟩)).setMinuteTimer (4 * (60 - second))
  else s.countIgnoredTime

end Sys2Proof.Machine
end

