-- ==== Sys2Proof/Machine/Lines.lean ====
section
/-! DEFINITION. The two ports (chapter 6): joining a transmit queue, the full-queue rule, the arbiter, and the ends of
an attempt. -/

namespace Sys2Proof.Machine

/-! ## Joining a queue -/

/-- Room of the TRUNK queue (R125). -/
def trunkRoom : Nat := 24

/-- Room of the FIELD queue for forwarded frames (R127). -/
def fieldForwardedRoom : Nat := 16

/-- Failed attempts after which a frame is abandoned (R123). -/
def attemptLimit : Nat := 32

/-- Recovery time of a port, 1.0 s (R123). -/
def recoverySeconds : Nat := 1

/-- The frame was forwarded from the other port. -/
def QEntry.isForwarded (e : QEntry) : Bool := e.origin == .forwarded

/-- The frame is the DRIVE of an output. -/
def QEntry.isDriveOf (e : QEntry) (i : Fin 24) : Bool :=
  match e.origin with
  | .drive j _ => j == i
  | _ => false

/-- The frame is on offer. -/
def QEntry.onOffer (e : QEntry) : Bool := e.attempt.isSome

/-- The least urgent priority among the frames the full-queue rule looks at (R127). -/
def leastUrgent (looked : QEntry → Bool) (q : List QEntry) : Nat :=
  (q.filter looked).foldl (fun m e => max m e.frame.prio.toNat) 0

/-- Take out the newest frame that satisfies `p`. -/
def removeNewest (p : QEntry → Bool) (q : List QEntry) : List QEntry := (q.reverse.eraseP p).reverse

/-- The full-queue rule (R127): with a frame less urgent than the arriving one among those looked at, the newest frame
of the least urgent priority is evicted and the arriving frame joins; otherwise the arriving frame is dropped. -/
def fullQueueRule (looked : QEntry → Bool) (q : List QEntry) (e : QEntry) : Option (List QEntry) :=
  let worst := leastUrgent looked q
  if e.frame.prio.toNat < worst then
    some (removeNewest (fun x => looked x && x.frame.prio.toNat == worst) q ++ [e])
  else none

/-- A frame is to join a queue under the full-queue rule. Answers the port and whether the frame joined. -/
def Port.join (p : Port) (full : Bool) (looked : QEntry → Bool) (e : QEntry) : Port × Bool :=
  if full then
    match fullQueueRule looked p.queue e with
    | some q => ({ p.countDroppedQueue with queue := q }, true)
    | none => (p.countDroppedQueue, false)
  else ({ p with queue := p.queue ++ [e] }, true)

/-- A forwarded frame or a reply is to join the TRUNK queue (R125, R127). -/
def Port.joinTrunk (p : Port) (e : QEntry) : Port × Bool :=
  p.join (decide (trunkRoom ≤ p.queue.length)) (fun _ => true) e

/-- A forwarded frame is to join the FIELD queue (R127): the rule looks at the forwarded frames alone. -/
def Port.joinField (p : Port) (e : QEntry) : Port × Bool :=
  p.join (decide (fieldForwardedRoom ≤ (p.queue.filter QEntry.isForwarded).length)) QEntry.isForwarded e

/-- The frame as it goes on: the hop count rewritten, one more, and nothing else (R129, R181). -/
def onward (f : Frame) : Frame := { f with hop := f.hop + 1 }

/-- The frame joins the other line's queue as a forwarded frame. -/
def forwardedEntry (f : Frame) : QEntry := ⟨onward f, .forwarded, none⟩

/-- Forward a frame from FIELD to the TRUNK queue (R127, R129). -/
def State.forwardUp (s : State) (f : Frame) : State :=
  if f.hop = 15 then s.setField s.field.countDroppedHop
  else
    let r := s.trunk.joinTrunk (forwardedEntry f)
    let s := s.setTrunk r.1
    if r.2 then s.setField s.field.countForwarded else s

/-- Forward a frame from TRUNK to the FIELD queue (R127, R129). -/
def State.forwardDown (s : State) (f : Frame) : State :=
  if f.hop = 15 then s.setTrunk s.trunk.countDroppedHop
  else
    let r := s.field.joinField (forwardedEntry f)
    let s := s.setField r.1
    if r.2 then s.setTrunk s.trunk.countForwarded else s

/-- Queue a MGMT_REPLY (R153): the code and tag of the request, the result code and the data, to the requester, at
priority 6. A reply dropped or evicted is lost (R127). -/
def State.queueReply (s : State) (origin : Origin) (dst code tag : Byte) (result : Nat) (data : List Byte) : State :=
  let f := s.originate 6 kindMgmtReply dst (code :: tag :: byte result :: data)
  s.setTrunk (s.trunk.joinTrunk ⟨f, origin, none⟩).1

/-! ## DRIVE frames in the FIELD queue -/

/-- A DRIVE joins the FIELD queue (R91): it takes the place and age of the DRIVE waiting for the same output, whose
attempt ends with it (R92, R124), or is added as the newest frame. -/
def joinDrive (q : List QEntry) (i : Fin 24) (e : QEntry) : List QEntry :=
  if q.any (·.isDriveOf i) then q.map fun x => if x.isDriveOf i then e else x else q ++ [e]

/-- Withdraw the waiting DRIVE of an output (R93). -/
def State.withdrawDrive (s : State) (i : Fin 24) : State :=
  s.setField { s.field with queue := s.field.queue.filter fun e => !e.isDriveOf i }

/-- The step of a fan's run frame (R87): the whole part of q, and one more where the dither index asks. -/
def ditheredStep (q : Nat) (c : Fin 16) : Nat :=
  q / 16 + (c.val + 1) * (q % 16) / 16 - c.val * (q % 16) / 16

/-- What an output's DRIVE carries, from its state (R90), and whether it commands run: none in HAND. -/
def OutputDyn.command : OutputDyn → Option (List Byte × Bool)
  | .fan d =>
    match d.state with
    | .hand => none
    | .starting | .running => some ([1, byte (ditheredStep d.q d.dither)], true)
    | _ => some ([0, 0], false)
  | .damper d =>
    match d.state with
    | .hand => none
    | _ =>
      match d.target with
      | .opened => some ([1, 0], false)
      | .closed => some ([0, 0], false)

/-- The DRIVE frame of an output as it stands (R90): to the output's node, priority 2. -/
def State.driveEntry (s : State) (i : Fin 24) : Option QEntry :=
  match s.outputs[i] with
  | .inService f d =>
    match f.node, d.command with
    | some node, some (data, run) => some ⟨s.originate 2 kindDrive node data, .drive i run, none⟩
    | _, _ => none
  | _ => none

/-- Build the DRIVE of an output and put it in the FIELD queue (R90, R91). -/
def State.queueDrive (s : State) (i : Fin 24) : State :=
  match s.driveEntry i with
  | some e => s.setField { s.field with queue := joinDrive s.field.queue i e }
  | none => s

/-! ## The arbiter -/

/-- The transmitter is free: the port is ON and no frame is on offer (R122). -/
def Port.free (p : Port) : Bool := p.on && p.report.isNone && !p.queue.any QEntry.onOffer

/-- Some frame of the queue has this priority. -/
def hasPriority (q : List QEntry) (prio : Nat) : Bool := q.any fun e => e.frame.prio.toNat == prio

/-- The oldest frame of a priority goes on offer with no failed attempt. -/
def offerOldest (prio : Nat) : List QEntry → List QEntry
  | [] => []
  | e :: q => if e.frame.prio.toNat == prio then { e with attempt := some 0 } :: q else e :: offerOldest prio q

/-- A pending zone slot that stands at a priority, lowest zone number first (R119, R126). -/
def State.zoneCandidate (s : State) (prio : Nat) : Option SlotId :=
  ((List.finRange 8).find? fun z =>
    s.zoneSlots[z].pending && s.zones[z].isInService && (zonePriority (s.zoneLevel z)).toNat == prio).map .zone

/-- A pending trouble slot: point slots, output slots, the device slot (R126). -/
def State.troubleCandidate (s : State) : Option SlotId :=
  match (List.finRange 64).find? fun i => s.pointSlots[i].slot.pending with
  | some i => some (.point i)
  | none =>
    match (List.finRange 24).find? fun i => s.outputSlots[i].slot.pending with
    | some i => some (.output i)
    | none => if s.deviceSlot.pending then some .device else none

/-- The slot the TRUNK arbiter would take at a priority, before any queued frame of that priority (R126). -/
def State.slotCandidate (s : State) (prio : Nat) : Option SlotId :=
  match s.zoneCandidate prio with
  | some id => some id
  | none => if prio = troublePriority.toNat then s.troubleCandidate else none

/-- The most urgent priority at which the TRUNK port has a candidate (R126). -/
def State.trunkPriority (s : State) : Option Nat :=
  (List.range 8).find? fun p => (s.slotCandidate p).isSome || hasPriority s.trunk.queue p

/-- The TRUNK arbiter's choice goes on offer (R122, R126): a slot is built into its report, or the oldest queued
frame of the priority is taken. -/
def State.arbitrateTrunk (s : State) : State :=
  if s.trunk.free then
    match s.trunkPriority with
    | none => s
    | some prio =>
      match s.slotCandidate prio with
      | some id =>
        match s.report? id with
        | some f => s.setTrunk { s.trunk with report := some ⟨some id, f, (s.slot id).superseded, 0⟩ }
        | none => s
      | none => s.setTrunk { s.trunk with queue := offerOldest prio s.trunk.queue }
  else s

/-- The FIELD arbiter's choice goes on offer (R126): the oldest frame of the most urgent priority. -/
def State.arbitrateField (s : State) : State :=
  if s.field.free then
    match (List.range 8).find? (hasPriority s.field.queue) with
    | none => s
    | some prio => s.setField { s.field with queue := offerOldest prio s.field.queue }
  else s

/-- Both arbiters choose where their transmitter is free. -/
def State.arbitrate (s : State) : State := s.arbitrateField.arbitrateTrunk

/-! ## The ends of an attempt -/

/-- The fan's dither index advances (R88), as a run frame of it leaves the FIELD queue. -/
def State.advanceDither (s : State) (i : Fin 24) : State :=
  match s.outputs[i] with
  | .inService f (.fan d) => s.setOutput i (.inService f (.fan { d with dither := d.dither + 1 }))
  | _ => s

/-- What the leaving of a queued frame does beside its removal: a run DRIVE advances its dither index (R88). -/
def State.frameLeft (s : State) (e : QEntry) : State :=
  match e.origin with
  | .drive i true => s.advanceDither i
  | _ => s

/-- A frame of the port is on offer. -/
def Port.offering (p : Port) : Bool := p.report.isSome || p.queue.any QEntry.onOffer

/-- The port without the frame on offer. -/
def Port.withdrawOffer (p : Port) : Port :=
  { p with queue := p.queue.filter (fun e => !e.onOffer), report := none }

/-- The frame on offer completes (R122): a report ends its offer, a queued frame leaves its queue. -/
def State.completeOffer (s : State) (p : PortId) : State :=
  let old := s.port p
  let s := s.setPort p old.withdrawOffer
  match old.report with
  | some r => s.reportTransmitted r
  | none =>
    match old.queue.find? QEntry.onOffer with
    | some e => s.frameLeft e
    | none => s

/-- The frame on offer is abandoned, and the port goes OFF with its recovery timer started (R123). -/
def State.abandonOffer (s : State) (p : PortId) : State :=
  let old := s.port p
  let off := { old.withdrawOffer.countAbandoned.countOffEntry with on := false, recovery := timerOf recoverySeconds }
  let s := s.setPort p off
  match old.report with
  | some r => s.reportAbandoned r
  | none =>
    match old.queue.find? QEntry.onOffer with
    | some e => s.frameLeft e
    | none => s

/-- Failed attempts of the frame on offer so far. -/
def Port.failures (p : Port) : Nat :=
  match p.report with
  | some r => r.failures
  | none => ((p.queue.find? QEntry.onOffer).bind QEntry.attempt).getD 0

/-- One more failed attempt of the frame on offer. -/
def Port.addFailure (p : Port) : Port :=
  { p with
    queue := p.queue.map fun e => { e with attempt := e.attempt.map (· + 1) }
    report := p.report.map fun r => { r with failures := r.failures + 1 } }

/-- An attempt fails (R122); the 32nd failure abandons the frame (R123). -/
def State.failOffer (s : State) (p : PortId) : State :=
  if attemptLimit ≤ (s.port p).failures + 1 then s.abandonOffer p
  else s.setPort p (s.port p).addFailure

/-- The recovery timer expires: the port is ON with its transmitter free (R123). -/
def State.recover (s : State) (p : PortId) : State :=
  s.setPort p { s.port p with on := true, recovery := none }

end Sys2Proof.Machine
end

