-- ==== Sys2Proof/Machine/Outputs.lean ====
section
/-! DEFINITION. The output unit (chapter 5): the fan and damper machines, the path check, HAND and OUTPUT_RESET. The first
part acts on one output's dynamic state; the second places it in the machine. -/

namespace Sys2Proof.Machine

/-! ## Fans -/

/-- The state a fan takes at commission and at each reset (R97, R94). -/
def FanDyn.initial : FanDyn where
  state := .stopped
  noPath := false
  pathTimer := none
  startTimer := none
  statusTimer := none
  stopTimer := none
  retryTimer := none
  below := 0
  lastStatus := none
  retryCount := 0
  flow := 0
  q := 0
  run := false
  hold := .none
  dither := 0

/-- The fan is in FAULT. -/
def FanState.isFault : FanState → Bool
  | .fault _ => true
  | _ => false

/-- All five timers of a fan are stopped. -/
def FanDyn.stopTimers (d : FanDyn) : FanDyn :=
  { d with pathTimer := none, startTimer := none, statusTimer := none, stopTimer := none, retryTimer := none }

/-- Entry to FAULT (R107). -/
def FanDyn.enterFault (f : OutputFields) (r : FanFault) (d : FanDyn) : FanDyn :=
  { d.stopTimers with
    state := .fault r, below := 0, noPath := false, retryTimer := timerOf f.retryInterval }

/-- To STARTING with the start timer started (R100, R101, R102). -/
def FanDyn.toStarting (f : OutputFields) (d : FanDyn) : FanDyn :=
  { d.stopTimers with state := .starting, startTimer := timerOf f.startTimeout }

/-- To STOPPED (R100, R105, R108, R115, R116): the NO_PATH mark is cleared on entry to STOPPED (R102). -/
def FanDyn.toStopped (d : FanDyn) : FanDyn :=
  { d.stopTimers with state := .stopped, noPath := false }

/-- To STOPPING with the stop timer started and the below-proof count 0 (R100). -/
def FanDyn.toStopping (f : OutputFields) (d : FanDyn) : FanDyn :=
  { d.stopTimers with state := .stopping, below := 0, stopTimer := timerOf f.startTimeout }

/-- To PATH_WAIT from STOPPED: dither index 0, NO_PATH clear, path timer started (R100). -/
def FanDyn.toPathWait (f : OutputFields) (d : FanDyn) : FanDyn :=
  { d.stopTimers with
    state := .pathWait, noPath := false, dither := 0, pathTimer := timerOf f.startTimeout }

/-- The results of an allocation for one fan (R90). -/
structure FanResult where
  flow : Nat
  q : Nat
  run : Bool
  hold : HoldMark
deriving DecidableEq, Repr

/-- A fan takes its delivery (R100). -/
def FanDyn.deliver (f : OutputFields) (r : FanResult) (d : FanDyn) : FanDyn :=
  let d := { d with flow := r.flow, q := r.q, run := r.run, hold := r.hold }
  match d.state, r.run with
  | .stopped, true => d.toPathWait f
  | .pathWait, false => d.toStopped
  | .starting, false => d.toStopping f
  | .running, false => d.toStopping f
  | .stopping, true => d.toStarting f
  | _, _ => d

/-- The proof threshold T of a fan from its current q (R103). -/
def proofThreshold (f : OutputFields) (d : FanDyn) : Nat := d.q / 16 * f.proof / 100

/-- The number of STATUS frames below proof in a row that lose the flow (R104). -/
def belowLimit : Nat := 3

/-- A well-formed STATUS from a fan (R103 to R106): it is recorded, and moves the fan by its state. -/
def FanDyn.takeStatus (f : OutputFields) (st : FanStatus) (d : FanDyn) : FanDyn :=
  let d := { d with lastStatus := some st }
  let proved := decide (proofThreshold f d ≤ st.step.toNat)
  match d.state with
  | .starting =>
    if proved && !st.driveFault then
      { d.stopTimers with state := .running, below := 0, statusTimer := timerOf f.statusTimeout }
    else d
  | .running =>
    let d := { d with statusTimer := timerOf f.statusTimeout }
    if st.driveFault then d.enterFault f .driveFault
    else if proved then { d with below := 0 }
    else if belowLimit ≤ d.below + 1 then d.enterFault f .flowLost
    else { d with below := d.below + 1 }
  | .stopping => if st.step = 0 then d.toStopped else d
  | _ => d

/-- A STATUS from a fan is forwarded up (R131), judged against the fan before it: in HAND, with no last STATUS, or with
other content. -/
def fanStatusForwarded (d : FanDyn) (st : FanStatus) : Bool :=
  d.state == .hand || d.lastStatus != some st

/-- Expiry of the path timer in PATH_WAIT (R102). -/
def FanDyn.pathExpired (f : OutputFields) (fire : Bool) (d : FanDyn) : FanDyn :=
  if fire then { d.toStarting f with noPath := true } else d.enterFault f .noPath

/-- Expiry of the retry timer in FAULT (R108). -/
def FanDyn.retryExpired (f : OutputFields) (fire : Bool) (d : FanDyn) : FanDyn :=
  if fire then { d.toStopped with retryCount := min (d.retryCount + 1) 255 }
  else { d with retryTimer := timerOf f.retryInterval }

/-- OUTPUT_HAND on, for a fan (R114). A fan that leaves STOPPED has its dither index set to 0 (R88). -/
def FanDyn.toHand (d : FanDyn) : FanDyn :=
  if d.state = .hand then d
  else
    { d.stopTimers with
      state := .hand, below := 0, noPath := false, dither := if d.state = .stopped then 0 else d.dither }

/-- OUTPUT_HAND off, for a fan (R115). -/
def FanDyn.fromHand (d : FanDyn) : FanDyn := if d.state = .hand then d.toStopped else d

/-! ## Dampers -/

/-- The state a damper takes at commission and at each reset (R98). -/
def DamperDyn.initial (f : OutputFields) : DamperDyn where
  state := .travelling
  target := .closed
  position := .unknown
  travelTimer := timerOf f.travelTimeout
  statusTimer := none

/-- The damper is in FAULT. -/
def DamperState.isFault : DamperState → Bool
  | .fault _ => true
  | _ => false

/-- To TRAVELLING with the full travel timeout (R109, R110, R115, R116). -/
def DamperDyn.toTravelling (f : OutputFields) (d : DamperDyn) : DamperDyn :=
  { d with state := .travelling, statusTimer := none, travelTimer := timerOf f.travelTimeout }

/-- To SETTLED with the status timer started (R110). -/
def DamperDyn.toSettled (f : OutputFields) (d : DamperDyn) : DamperDyn :=
  { d with state := .settled, travelTimer := none, statusTimer := timerOf f.statusTimeout }

/-- Entry to FAULT (R111). -/
def DamperDyn.enterFault (r : DamperFault) (d : DamperDyn) : DamperDyn :=
  { d with state := .fault r, travelTimer := none, statusTimer := none }

/-- A damper takes its target (R109). -/
def DamperDyn.deliver (f : OutputFields) (t : DamperTarget) (d : DamperDyn) : DamperDyn :=
  if t = d.target then d
  else
    let d := { d with target := t }
    match d.state with
    | .settled => d.toTravelling f
    | .travelling => d.toTravelling f
    | _ => d

/-- What a damper STATUS reports (R110, section 11.2). -/
inductive DamperReport where
  | closed
  | opened
  | moving
  | jammed
deriving DecidableEq, Repr

/-- The report of a position byte; above 3 the STATUS is malformed (R182). -/
def damperReport (b : Byte) : Option DamperReport :=
  match b.toNat with
  | 0 => some .closed
  | 1 => some .opened
  | 2 => some .moving
  | 3 => some .jammed
  | _ => none

/-- The position a report sets: UNKNOWN for JAMMED (R110). -/
def DamperReport.position : DamperReport → DamperPosition
  | .closed => .closed
  | .opened => .opened
  | .moving => .moving
  | .jammed => .unknown

/-- The reported position is the target. -/
def DamperPosition.reaches (p : DamperPosition) (t : DamperTarget) : Bool :=
  match p, t with
  | .closed, .closed => true
  | .opened, .opened => true
  | _, _ => false

/-- A well-formed STATUS from a damper (R110). -/
def DamperDyn.takeStatus (f : OutputFields) (r : DamperReport) (d : DamperDyn) : DamperDyn :=
  let d := { d with position := r.position }
  match d.state with
  | .travelling =>
    if r = .jammed then d.enterFault .jammed
    else if d.position.reaches d.target then d.toSettled f
    else d
  | .settled =>
    if r = .jammed then d.enterFault .jammed
    else if d.position.reaches d.target then d.toSettled f
    else d.toTravelling f
  | _ => d

/-- A STATUS from a damper is forwarded up (R131), judged against the damper before it: in HAND, JAMMED, or with another
position. -/
def damperStatusForwarded (d : DamperDyn) (r : DamperReport) : Bool :=
  d.state == .hand || r == .jammed || d.position != r.position

/-- OUTPUT_HAND on, for a damper (R114). -/
def DamperDyn.toHand (d : DamperDyn) : DamperDyn :=
  if d.state = .hand then d else { d with state := .hand, travelTimer := none, statusTimer := none }

/-- OUTPUT_HAND off, for a damper (R115). -/
def DamperDyn.fromHand (f : OutputFields) (d : DamperDyn) : DamperDyn :=
  if d.state = .hand then d.toTravelling f else d

/-! ## Outputs of either kind -/

/-- The state an output takes at commission and at each reset (R117, R118). -/
def OutputFields.initial (f : OutputFields) : OutputDyn :=
  match f.kind with
  | .fan => .fan FanDyn.initial
  | .damper => .damper (DamperDyn.initial f)

/-- The output is in HAND. -/
def OutputDyn.inHand : OutputDyn → Bool
  | .fan d => d.state == .hand
  | .damper d => d.state == .hand

/-- An output leaves service in FAULT, or as a fan with its NO_PATH mark set (R117, R168). -/
def OutputDyn.troubled : OutputDyn → Bool
  | .fan d => d.state.isFault || d.noPath
  | .damper d => d.state.isFault

/-! ## The outputs in the machine -/

/-- An event changes an IN_SERVICE fan; its trouble slot is set where R168 says. -/
def State.updateFan (s : State) (i : Fin 24) (g : OutputFields → FanDyn → FanDyn) : State :=
  match s.outputs[i] with
  | .inService f (.fan d) =>
    let s' := s.setOutput i (.inService f (.fan (g f d)))
    match fanTrouble d (g f d) with
    | some raised => s'.markOutput i raised
    | none => s'
  | _ => s

/-- An event changes an IN_SERVICE damper; its trouble slot is set where R168 says. -/
def State.updateDamper (s : State) (i : Fin 24) (g : OutputFields → DamperDyn → DamperDyn) : State :=
  match s.outputs[i] with
  | .inService f (.damper d) =>
    let s' := s.setOutput i (.inService f (.damper (g f d)))
    match damperTrouble d.state (g f d).state with
    | some raised => s'.markOutput i raised
    | none => s'
  | _ => s

/-- The state of an IN_SERVICE fan. -/
def State.fan? (s : State) (i : Fin 24) : Option FanDyn :=
  match s.outputs[i] with
  | .inService _ (.fan d) => some d
  | _ => none

/-- The state of an IN_SERVICE damper. -/
def State.damper? (s : State) (i : Fin 24) : Option DamperDyn :=
  match s.outputs[i] with
  | .inService _ (.damper d) => some d
  | _ => none

/-- The output is an IN_SERVICE fan in this state. -/
def State.fanIs (s : State) (i : Fin 24) (st : FanState) : Bool :=
  match s.fan? i with
  | some d => d.state == st
  | none => false

/-- The output is a damper whose last reported position is OPEN (R101). -/
def State.reportedOpen (s : State) (i : Fin 24) : Bool :=
  match s.damper? i with
  | some d => d.position == .opened
  | none => false

/-- Some branch of an IN_SERVICE zone that took a share above 0 from the fan in the latest allocation has a damper for
which `ok` holds (R101); `none` stands for a branch without a damper. -/
def State.servedBranch (s : State) (i : Fin 24) (ok : Option (Fin 24) → Bool) : Bool :=
  (List.finRange 8).any fun z =>
    match s.zones[z] with
    | .inService f d => f.branches.any fun k => f.fans[k] == i && decide (0 < d.shares[k]) && ok f.dampers[k]
    | _ => false

/-- The fan's path is proved (R101): a branch it serves has no damper, or a damper reported OPEN. -/
def State.pathProved (s : State) (i : Fin 24) : Bool :=
  s.servedBranch i fun o => match o with
    | none => true
    | some j => s.reportedOpen j

/-- The fan leaves PATH_WAIT for STARTING, and its run frame is built and queued (R101). -/
def State.startFan (s : State) (i : Fin 24) : State :=
  (s.updateFan i FanDyn.toStarting).queueDrive i

/-- The path check of an allocation (R101): every fan in PATH_WAIT whose path is proved, in ascending order. -/
def State.pathCheck (s : State) : State :=
  (List.finRange 24).foldl (fun s i => if s.fanIs i .pathWait && s.pathProved i then s.startFan i else s) s

/-- The path check of a damper's OPEN report (R101): every fan in PATH_WAIT whose shares run through the damper, in
ascending order. -/
def State.pathCheckThrough (s : State) (damper : Fin 24) : State :=
  (List.finRange 24).foldl (fun s i =>
    if s.fanIs i .pathWait && s.servedBranch i (fun o => o == some damper) then s.startFan i else s) s

/-- A damper STATUS in the machine (R110): the damper moves, and an OPEN report leads to the path check. -/
def State.takeDamperStatus (s : State) (i : Fin 24) (r : DamperReport) : State :=
  let s := s.updateDamper i (fun f => DamperDyn.takeStatus f r)
  if r = .opened then s.pathCheckThrough i else s

/-- Expiry of a fan's path timer in the machine (R102): a fan with fire in reach is started, with a run frame. -/
def State.pathExpired (s : State) (i : Fin 24) : State :=
  let fire := s.fireInReach i
  let s := s.updateFan i (fun f => FanDyn.pathExpired f fire)
  if fire then s.queueDrive i else s

/-- Expiry of a fan's retry timer in the machine (R108): a fire retry queues a stop frame at once. -/
def State.retryExpired (s : State) (i : Fin 24) : State :=
  let fire := s.fireInReach i
  let s := s.updateFan i (fun f => FanDyn.retryExpired f fire)
  if fire then s.queueDrive i else s

/-- The output is IN_SERVICE and in HAND. -/
def State.inHand (s : State) (i : Fin 24) : Bool :=
  match s.outputs[i] with
  | .inService _ d => d.inHand
  | _ => false

/-- OUTPUT_HAND on in the machine (R114): the waiting DRIVE is withdrawn (R93). An output already in HAND is left as it
is (R113). -/
def State.handOn (s : State) (i : Fin 24) : State :=
  if s.inHand i then s
  else ((s.updateFan i fun _ => FanDyn.toHand).updateDamper i fun _ => DamperDyn.toHand).withdrawDrive i

/-- OUTPUT_HAND off in the machine (R115). -/
def State.handOff (s : State) (i : Fin 24) : State :=
  (s.updateFan i fun _ => FanDyn.fromHand).updateDamper i DamperDyn.fromHand

end Sys2Proof.Machine
end

