-- ==== Sys2Proof/Machine/Allocation.lean ====
section
/-! DEFINITION. The allocator (chapter 4): order, claims, holds, capacities, shares, fan speeds, damper targets, delivery
and the DRIVE frames of one drive-period expiry. Every value is read from the state as the expiry finds it. -/

namespace Sys2Proof.Machine

/-! ## Order, claims and holds (R79 to R81) -/

/-- The zones that are served, most urgent first (R79): IN_SERVICE with demand above 0, by E from highest to lowest, then
by zone number. -/
def State.order (s : State) : List (Fin 8) :=
  [5, 4, 3, 2, 1, 0].flatMap fun (e : Level) =>
    (List.finRange 8).filter fun z => s.zones[z].isInService && decide (0 < s.demand z) && s.zoneLevel z == e

/-- The zone claims the fan (R51, R80): it is in fire, the confine flag of its E is set, and a branch names the fan. -/
def State.claims (s : State) (z : Fin 8) (i : Fin 24) : Bool :=
  s.reachesFan z i && isFire (s.zoneLevel z) && s.response.confines (s.zoneLevel z)

/-- The fan is claimed (R80). -/
def State.claimed (s : State) (i : Fin 24) : Bool := (List.finRange 8).any fun z => s.claims z i

/-- The zone is barred from the fan: it is claimed, and not by the zone (R83). -/
def State.barred (s : State) (z : Fin 8) (i : Fin 24) : Bool := s.claimed i && !s.claims z i

/-- A NONEX fan is under hold (R81): a zone it reaches is at FLAMMABLE, and none is in fire. -/
def State.underHold (s : State) (f : OutputFields) (i : Fin 24) : Bool :=
  f.nonex && ((List.finRange 8).any fun z => s.reachesFan z i && s.zoneLevel z == 3) && !s.fireInReach i

/-- The hold mark of a fan under hold, from its state (R81). -/
def FanState.holdMark : FanState → HoldMark
  | .stopped | .pathWait | .stopping => .heldStopped
  | .starting | .running => .heldRunning
  | .fault _ | .hand => .none

/-- The hold mark of a fan in this allocation (R81). -/
def State.holdMark (s : State) (i : Fin 24) : HoldMark :=
  match s.outputs[i] with
  | .inService f (.fan d) => if s.underHold f i then d.state.holdMark else .none
  | _ => .none

/-! ## Capacity and shares (R82 to R84) -/

/-- The fan is usable (R82): neither FAULT nor HAND, and not held stopped. -/
def usable (st : FanState) (h : HoldMark) : Bool := !st.isFault && st != .hand && h != .heldStopped

/-- The capacity of an output in this allocation (R82). -/
def State.capacity (s : State) (i : Fin 24) : Nat :=
  match s.outputs[i] with
  | .inService f (.fan d) => if usable d.state (s.holdMark i) then f.rated else 0
  | _ => 0

/-- One zone while it takes its branches (R83): its need, the capacity each fan has left, and its shares so far. -/
structure Serving where
  need : Nat
  left : Vector Nat 24
  shares : Vector Nat 4
deriving DecidableEq, Repr

/-- One branch is taken (R83). -/
def Serving.takeBranch (barred : Fin 24 → Bool) (fans : Vector (Fin 24) 4) (v : Serving) (k : Fin 4) : Serving :=
  let i := fans[k]
  if barred i then v
  else
    let t := min v.need v.left[i]
    { need := v.need - t, left := v.left.set i (v.left[i] - t), shares := v.shares.set k t }

/-- A zone takes its branches in the order of its list (R83). -/
def serveZone (barred : Fin 24 → Bool) (f : ZoneFields) (demand : Nat) (left : Vector Nat 24) : Serving :=
  f.branches.foldl (Serving.takeBranch barred f.fans) ⟨demand, left, Vector.replicate 4 0⟩

/-- The allocation while the zones of the order are served one after another (R83). -/
structure Sharing where
  left : Vector Nat 24
  shares : Vector (Vector Nat 4) 8
deriving DecidableEq, Repr

/-- One zone of the order is served whole (R83). -/
def State.serve (s : State) (a : Sharing) (z : Fin 8) : Sharing :=
  match s.zones[z] with
  | .inService f _ =>
    let v := serveZone (s.barred z) f (s.demand z) a.left
    { left := v.left, shares := a.shares.set z v.shares }
  | _ => a

/-- The shares of this allocation (R83): every fan begins with its capacity, and a zone not in the order takes
nothing. -/
def State.sharing (s : State) : Sharing :=
  s.order.foldl s.serve
    { left := Vector.ofFn s.capacity, shares := Vector.replicate 8 (Vector.replicate 4 0) }

/-- The sum of a zone's shares (R84). -/
def sumShares (v : Vector Nat 4) : Nat := ((List.finRange 4).map fun k => v[k]).sum

/-- A zone takes its part of the allocation (R62, R84): demand, shares, delivered flow and SHORT. -/
def ZoneDyn.allocated (d : ZoneDyn) (demand : Nat) (shares : Vector Nat 4) : ZoneDyn :=
  { d with
    demand := demand
    shares := shares
    delivered := sumShares shares
    short := decide (sumShares shares < demand) }

/-! ## Fan speeds and damper targets (R85, R86, R89) -/

/-- The branch positions of an IN_SERVICE zone that are read. -/
def State.zoneBranches (s : State) (z : Fin 8) : List (Fin 4) :=
  match s.zones[z] with
  | .inService f _ => f.branches
  | _ => []

/-- The fan of a branch of an IN_SERVICE zone. -/
def State.branchFan (s : State) (z : Fin 8) (k : Fin 4) : Option (Fin 24) :=
  match s.zones[z] with
  | .inService f _ => some f.fans[k]
  | _ => none

/-- The damper of a branch of an IN_SERVICE zone. -/
def State.branchDamper (s : State) (z : Fin 8) (k : Fin 4) : Option (Fin 24) :=
  match s.zones[z] with
  | .inService f _ => f.dampers[k]
  | _ => none

/-- A fan's allocated flow F: the sum of the shares taken from it (R85). -/
def State.fanFlow (s : State) (shares : Vector (Vector Nat 4) 8) (i : Fin 24) : Nat :=
  ((List.finRange 8).map fun z =>
    (((s.zoneBranches z).filter fun k => s.branchFan z k == some i).map fun k => shares[z][k]).sum).sum

/-- The speed q and the run-or-stop result of a fan (R85, R86). -/
def fanResult (f : OutputFields) (flow : Nat) (h : HoldMark) : FanResult :=
  if 0 < flow then ⟨flow, max (flow * 4080 / f.rated) (f.minStep * 16), true, h⟩
  else if h = .heldRunning then ⟨0, f.minStep * 16, true, h⟩
  else ⟨0, 0, false, h⟩

/-- A damper's target (R89): OPEN when some branch through it has a share above 0. -/
def State.damperTarget (s : State) (shares : Vector (Vector Nat 4) 8) (i : Fin 24) : DamperTarget :=
  if (List.finRange 8).any fun z =>
      (s.zoneBranches z).any fun k => s.branchDamper z k == some i && decide (0 < shares[z][k])
  then .opened else .closed

/-! ## The allocation (R78, R90) -/

/-- Every IN_SERVICE zone takes its part; a changed SHORT sets its report slot (R84). -/
def State.deliverZones (s : State) (demands : Vector Nat 8) (shares : Vector (Vector Nat 4) 8) : State :=
  (List.finRange 8).foldl (fun t z => t.updateZone z fun d => d.allocated demands[z] shares[z]) s

/-- Every IN_SERVICE output takes its delivery (R90, R100, R109). -/
def State.deliverOutputs (s : State) (flows : Vector Nat 24) (holds : Vector HoldMark 24)
    (targets : Vector DamperTarget 24) : State :=
  (List.finRange 24).foldl (fun t i =>
    (t.updateFan i fun f => FanDyn.deliver f (fanResult f flows[i] holds[i])).updateDamper i
      fun f => DamperDyn.deliver f targets[i]) s

/-- A DRIVE is built for every IN_SERVICE output that is not in HAND, in ascending order (R90, R91). -/
def State.queueDrives (s : State) : State := (List.finRange 24).foldl State.queueDrive s

/-- One whole allocation (R78), and the restart of the drive-period timer (R77): the shares, flows, hold marks and
targets are formed from the state the expiry finds, delivered, put into DRIVE frames, and the path check follows
(R101). -/
def State.allocate (s : State) : State :=
  let shares := s.sharing.shares
  let demands : Vector Nat 8 := Vector.ofFn s.demand
  let flows : Vector Nat 24 := Vector.ofFn (s.fanFlow shares)
  let holds : Vector HoldMark 24 := Vector.ofFn s.holdMark
  let targets : Vector DamperTarget 24 := Vector.ofFn (s.damperTarget shares)
  let t := (s.setDriveTimer s.active.drivePeriod).deliverZones demands shares
  ((t.deliverOutputs flows holds targets).queueDrives).pathCheck

end Sys2Proof.Machine
end

