-- ==== Sys2Proof/Machine/Start.lean ====
section
/-! DEFINITION. Saved tables and the three resets (chapter 10): the image and its check word, SAVE and its completion, the
start at power-on or the release of the RESET line, and RESTART. -/

namespace Sys2Proof.Machine

/-! ## The image (R174) -/

/-- An entry of the image: its life-cycle state and fields, without dynamic state. -/
def savedEntry {φ δ : Type} : Entry φ δ → Entry φ Unit
  | .vacant => .vacant
  | .draft f => .draft f
  | .inService f _ => .inService f ()

/-- A zone of the image: a staged tune is written in place of the value in force (R174). -/
def savedZone (e : Entry ZoneFields ZoneDyn) : Entry ZoneFields Unit := savedEntry (adoptZone e)

/-- The image of the tables as they stand (R174, R175). -/
def State.image (s : State) : Image where
  points := Vector.ofFn fun i => savedEntry s.points[i]
  zones := Vector.ofFn fun z => savedZone s.zones[z]
  outputs := Vector.ofFn fun i => savedEntry s.outputs[i]
  windows := s.windows
  response := s.response
  periods := Vector.ofFn fun j => s.clocks[j].staged.getD s.clocks[j].period
  device := s.pendingRecord

/-- One bit of the check word's CRC: generator x^16 + x^12 + x^5 + 1 (R174). -/
def crcBit (crc : BitVec 16) : BitVec 16 :=
  if crc.msb then (crc <<< 1) ^^^ 0x1021#16 else crc <<< 1

/-- One byte of the check word's CRC, most significant bit first (log entry 10). -/
def crcByte (crc : BitVec 16) (b : Byte) : BitVec 16 :=
  (List.range 8).foldl (fun c _ => crcBit c) (crc ^^^ (b ++ 0#8))

/-- The 16-bit CRC with initial value 0FFFFh (R174). -/
def crc16 (l : List Byte) : BitVec 16 := l.foldl crcByte 0xFFFF#16

/-- The check word of an image: the CRC over the image in the order it is written (R174). -/
def checkWord (img : Image) : BitVec 16 := crc16 (Config.imageBytes img)

/-- The image whose check word matches, if the store holds one (R174, R178). -/
def StoreContent.valid? : StoreContent → Option Image
  | .image img check => if check = checkWord img then some img else none
  | _ => none

/-- What the part finds when it reads the store (R178): EMPTY if no image, VALID if the check word matches, and INVALID
otherwise. -/
def StoreContent.state (c : StoreContent) : StoreState :=
  match c with
  | .noImage => .empty
  | c => if c.valid?.isSome then .valid else .invalid

/-! ## SAVE (R164, R175, R176) -/

/-- A SAVE is accepted: the requester and tag are kept, and the image is taken (R164, R175). -/
def State.acceptSave (s : State) (requester tag : Byte) : State := s.setSave (some ⟨requester, tag, s.image⟩)

/-- A SAVE in flight is broken off (R176): the store then holds a partial image, and no reply is built. -/
def State.breakSave (s : State) : State :=
  match s.save with
  | some _ => (s.setSave none).setStore .broken
  | none => s

/-- The SAVE request's code (section 11.3). -/
def saveCode : Byte := 49

/-- The store reports the end of the SAVE (R175): its new state, the device slot where the state changed (R170), the
SAVE state IDLE, and the reply to the kept requester. -/
def State.saveCompleted (s : State) (matched : Bool) : State :=
  match s.save with
  | none => s
  | some v =>
    let new := if matched then StoreState.valid else .invalid
    let old := s.storeState
    let s := ((s.setSave none).setStore (if matched then .image v.image (checkWord v.image) else .broken)).setStoreState new
    let s := if old = new then s else s.markDevice
    if matched then s.queueReply .reply v.requester saveCode v.tag 0 []
    else s.queueReply .reply v.requester saveCode v.tag ReplyCode.storeFault.code []

/-! ## The three resets -/

/-- An entry in service with its reset state, whatever it held before (R24, R55, R118). -/
def resetEntry {φ δ ε : Type} (start : φ → ε) : Entry φ δ → Entry φ ε
  | .vacant => .vacant
  | .draft f => .draft f
  | .inService f _ => .inService f (start f)

/-- A zone slot after a reset (R170). -/
def resetZoneSlot {δ : Type} (e : Entry ZoneFields δ) : Slot := if e.isInService then Slot.fresh else Slot.cleared

/-- What every reset does to the dynamic state, ports, timers, slots and counters, once the tables are in place (R178,
R179): points (R24), zones (R55), outputs (R118), allocation state (R94), purge counters and minute timer (R76), ports
(R121), counters (R173), slots (R170), and the drive-period timer with the active drive period (R77). -/
def State.resetDynamic (s : State) : State :=
  { s with
    points := Vector.ofFn fun i => resetEntry PointFields.initial s.points[i]
    zones := Vector.ofFn fun z => resetEntry (fun _ => ZoneDyn.initial) s.zones[z]
    outputs := Vector.ofFn fun i => resetEntry OutputFields.initial s.outputs[i]
    clocks := Vector.ofFn fun j => { s.clocks[j] with counter := 0, staged := none }
    minuteTimer := minuteQuarters
    driveTimer := s.active.drivePeriod
    field := Port.start
    trunk := Port.start
    zoneSlots := Vector.ofFn fun z => resetZoneSlot s.zones[z]
    pointSlots := Vector.replicate 64 TroubleSlot.cleared
    outputSlots := Vector.replicate 24 TroubleSlot.cleared
    deviceSlot := if s.storeState = .valid then Slot.cleared else Slot.fresh
    counters := DeviceCounters.zero
    restartPending := false }

/-- The tables from a VALID image (R178): nothing staged, and both copies of the device record from the image's. -/
def State.restored (s : State) (img : Image) : State :=
  { s with
    points := Vector.ofFn fun i => resetEntry PointFields.initial img.points[i]
    zones := Vector.ofFn fun z => resetEntry (fun _ => ZoneDyn.initial) img.zones[z]
    outputs := Vector.ofFn fun i => resetEntry OutputFields.initial img.outputs[i]
    windows := img.windows
    response := img.response
    clocks := Vector.ofFn fun j => ⟨img.periods[j], 0, none⟩
    active := img.device
    pendingRecord := img.device }

/-- The tables with an INVALID or EMPTY store (R178): tables 1 to 4 VACANT, the others at their defaults. -/
def State.defaulted (s : State) : State :=
  { s with
    points := Vector.replicate 64 .vacant
    zones := Vector.replicate 8 .vacant
    outputs := Vector.replicate 24 .vacant
    windows := Vector.replicate 8 .vacant
    response := Response.default
    clocks := Vector.replicate 2 PurgeClock.default
    active := DeviceRecord.default
    pendingRecord := DeviceRecord.default }

/-- The start at power-on and at the release of the RESET line (R178): the store is read, the tables restored or
defaulted, and everything dynamic reset; the day clock is UNSET and the SAVE state IDLE. -/
def State.startUp (s : State) : State :=
  let t := match s.store.valid? with
    | some img => s.restored img
    | none => s.defaulted
  { t with storeState := s.store.state, dayClock := none, save := none }.resetDynamic

/-- A RESTART takes effect (R179): the pending device record and every staged tune are adopted, as if each clock had
wrapped (R76), and everything dynamic is reset; the tables, the store and the day clock are kept. -/
def State.restarted (s : State) : State :=
  { s with
    active := s.pendingRecord
    clocks := Vector.ofFn fun j => s.clocks[j].wrapped
    zones := Vector.ofFn fun z => adoptZone s.zones[z] }.resetDynamic

end Sys2Proof.Machine
end

