-- ==== Sys2Proof/Machine/Event.lean ====
section
/-! DEFINITION. What every event of the part has in common: it happens only while the part works, and it ends with a
pending RESTART whose reply has left taking effect (R165), or with the arbiters choosing for the transmitters that are
free (R122). -/

namespace Sys2Proof.Machine

/-- The reply of the pending RESTART waits in the TRUNK queue. -/
def Port.holdsRestartReply (p : Port) : Bool := p.queue.any fun e => e.origin == .restartReply

/-- A RESTART is pending and its reply has left the TRUNK queue, or was dropped on joining it (R165). -/
def State.restartDue (s : State) : Bool := s.restartPending && !s.trunk.holdsRestartReply

/-- The end of an event (log entries 6 and 7): a RESTART that is due takes effect; otherwise both arbiters choose. -/
def State.finish (s : State) : State := if s.restartDue then s.restarted else s.arbitrate

/-- An event that happens to a working part when `applies` holds; otherwise nothing changes (R177). -/
def onEvent (applies : Bool) (f : State → State) (s : State) : Result :=
  if s.works && applies then .next (f s).finish else .next s

/-- A frame on a line: a port that is ON receives and counts it (R121); a port that is OFF does not see it. -/
def onFrame (p : PortId) (f : State → State) (s : State) : Result :=
  onEvent (s.port p).on (fun s => f (s.setPort p (s.port p).countReceived)) s

end Sys2Proof.Machine
end

