-- ==== Sys2Proof/Machine/Operands.lean ====
section
/-! DEFINITION. Reading the operands of a command: the payload of each judged kind of frame (section 11.2), `none` when
the frame is malformed (R120, R182). -/

namespace Sys2Proof.Machine

/-- What a SAMPLE carries: raw count, WARMUP, SENSOR_FAULT. -/
structure SamplePayload where
  raw : Nat
  warm : Bool
  sensorFault : Bool
deriving DecidableEq, Repr

/-- A SAMPLE of three bytes. -/
def samplePayload? : List Byte → Option SamplePayload
  | [lo, hi, health] => some ⟨(word16 lo hi).toNat, health.getLsbD 0, health.getLsbD 1⟩
  | _ => none

/-- A fan's STATUS of two bytes; every value of byte 0 is well-formed (R182). -/
def fanPayload? : List Byte → Option FanStatus
  | [step, flags] => some ⟨step, flags.getLsbD 0⟩
  | _ => none

/-- A damper's STATUS of two bytes, with a position of at most 3 (R120, R182). -/
def damperPayload? : List Byte → Option DamperReport
  | [position, _] => damperReport position
  | _ => none

/-- What a PANEL carries: action and zone mask. -/
structure PanelPayload where
  action : Byte
  mask : Byte
deriving DecidableEq, Repr

/-- A PANEL of two bytes. -/
def panelPayload? : List Byte → Option PanelPayload
  | [action, mask] => some ⟨action, mask⟩
  | _ => none

/-- What a TIME carries: day, minute, second. -/
structure TimePayload where
  day : Nat
  minute : Nat
  second : Nat
deriving DecidableEq, Repr

/-- A TIME of four bytes. -/
def timePayload? : List Byte → Option TimePayload
  | [day, lo, hi, second] => some ⟨day.toNat, (word16 lo hi).toNat, second.toNat⟩
  | _ => none

/-- What a MGMT_REQ carries: code, tag, argument bytes. -/
structure RequestPayload where
  code : Byte
  tag : Byte
  args : List Byte
deriving DecidableEq, Repr

/-- A MGMT_REQ of two to eight bytes (R182). -/
def requestPayload? : List Byte → Option RequestPayload
  | code :: tag :: args => if args.length ≤ 6 then some ⟨code, tag, args⟩ else none
  | _ => none

end Sys2Proof.Machine
end

