-- ==== Sys2Proof/Machine/Fields.lean ====
section
/-! DEFINITION. The field catalogue (section 11.4, R184): the default of every field, its code, and how ENTRY_SET and
ENTRY_GET write and read it (R138, R157). A value is a number, or absent. -/

namespace Sys2Proof.Machine

/-! ## Defaults (R137, R184) -/

def PointFields.default : PointFields where
  node := none
  zone := 0
  kind := .co
  width := 12
  raw1 := 0
  raw2 := 4095
  raw3 := none
  raw4 := none
  val1 := 0
  val2 := 1000
  val3 := 0
  val4 := 0
  depth := 2
  riseA := 50
  fallA := 35
  levelA := 1
  riseB := none
  fallB := none
  levelB := none
  confirm := 2
  gain := 0
  interval := 10
  silenceMult := 3
  faultLevel := 0
  forwardEvery := 0

def ZoneFields.default : ZoneFields where
  count := 1
  fans := Vector.replicate 4 0
  dampers := Vector.replicate 4 none
  minFlow := 0
  fumeLowFlow := 0
  fumeHighFlow := 0
  maxFlow := 0
  flammableFlow := 0
  fireFlow := 0
  clock := none
  purgeStart := 0
  purgeDuration := 1
  purgeFlow := 0

def OutputFields.default : OutputFields where
  node := none
  kind := .fan
  rated := 1000
  minStep := 40
  proof := 80
  startTimeout := 30
  statusTimeout := 5
  nonex := false
  retryInterval := 60
  travelTimeout := 20

def WindowFields.default : WindowFields where
  dayMask := 0
  start := 0
  stop := 60
  zoneMask := 0
  floor := 0

/-! ## Range checks (R138, R156) -/

/-- The outcome of writing a field: the new fields, or the refusal. -/
abbrev Written (φ : Type) := Except ReplyCode φ

/-- A field that is not optional, with its range (R138). -/
def within {φ : Type} (lo hi : Nat) (k : Nat → φ) : Option Nat → Written φ
  | some v => if lo ≤ v ∧ v ≤ hi then .ok (k v) else .error .outOfRange
  | none => .error .outOfRange

/-- An optional field, with its range (R138). -/
def withinOrAbsent {φ : Type} (lo hi : Nat) (k : Option Nat → φ) : Option Nat → Written φ
  | some v => if lo ≤ v ∧ v ≤ hi then .ok (k (some v)) else .error .outOfRange
  | none => .ok (k none)

/-- A field whose code 255 stands for none (R184). -/
def withinOrNone {φ : Type} (hi : Nat) (k : Option Nat → φ) : Option Nat → Written φ
  | some v => if v ≤ hi then .ok (k (some v)) else if v = 255 then .ok (k none) else .error .outOfRange
  | none => .error .outOfRange

/-- The two bytes of a value (R156): every field takes 0 to 65535 at most. -/
def anyValue : Nat := 65535

/-! ## POINT (table 1) -/

def pointKindOf : Nat → PointKind
  | 0 => .co
  | 1 => .no2
  | 2 => .h2
  | 3 => .smoke
  | _ => .heat

def PointKind.code : PointKind → Nat
  | .co => 0
  | .no2 => 1
  | .h2 => 2
  | .smoke => 3
  | .heat => 4

/-- Write one field of a point entry by its code; a code the entry does not have is BAD_FIELD. -/
def PointFields.set (f : PointFields) (code : Nat) (v : Option Nat) : Written PointFields :=
  match code with
  | 1 => withinOrAbsent 1 254 (fun n => { f with node := n.map (BitVec.ofNat 8) }) v
  | 2 => within 0 7 (fun n => { f with zone := Fin.ofNat 8 n }) v
  | 3 => within 0 4 (fun n => { f with kind := pointKindOf n }) v
  | 4 => within 9 16 (fun n => { f with width := n }) v
  | 5 => within 0 anyValue (fun n => { f with raw1 := n }) v
  | 6 => within 0 anyValue (fun n => { f with raw2 := n }) v
  | 7 => withinOrAbsent 0 anyValue (fun n => { f with raw3 := n }) v
  | 8 => withinOrAbsent 0 anyValue (fun n => { f with raw4 := n }) v
  | 9 => within 0 anyValue (fun n => { f with val1 := n }) v
  | 10 => within 0 anyValue (fun n => { f with val2 := n }) v
  | 11 => within 0 anyValue (fun n => { f with val3 := n }) v
  | 12 => within 0 anyValue (fun n => { f with val4 := n }) v
  | 13 => within 0 4 (fun n => { f with depth := n }) v
  | 14 => within 0 anyValue (fun n => { f with riseA := n }) v
  | 15 => within 0 anyValue (fun n => { f with fallA := n }) v
  | 16 => within 1 4 (fun n => { f with levelA := Fin.ofNat 6 n }) v
  | 17 => withinOrAbsent 0 anyValue (fun n => { f with riseB := n }) v
  | 18 => withinOrAbsent 0 anyValue (fun n => { f with fallB := n }) v
  | 19 => withinOrAbsent 1 4 (fun n => { f with levelB := n.map (Fin.ofNat 6) }) v
  | 20 => within 1 8 (fun n => { f with confirm := n }) v
  | 21 => within 0 255 (fun n => { f with gain := n }) v
  | 22 => within 1 60 (fun n => { f with interval := n }) v
  | 23 => within 2 8 (fun n => { f with silenceMult := n }) v
  | 24 => within 0 3 (fun n => { f with faultLevel := Fin.ofNat 6 n }) v
  | 25 => within 0 15 (fun n => { f with forwardEvery := n }) v
  | _ => .error .badField

/-- Read one field of a point entry by its code: `none` for a code the entry does not have, `some none` for an absent
value. -/
def PointFields.get (f : PointFields) (code : Nat) : Option (Option Nat) :=
  match code with
  | 1 => some (f.node.map BitVec.toNat)
  | 2 => some (some f.zone.val)
  | 3 => some (some f.kind.code)
  | 4 => some (some f.width)
  | 5 => some (some f.raw1)
  | 6 => some (some f.raw2)
  | 7 => some f.raw3
  | 8 => some f.raw4
  | 9 => some (some f.val1)
  | 10 => some (some f.val2)
  | 11 => some (some f.val3)
  | 12 => some (some f.val4)
  | 13 => some (some f.depth)
  | 14 => some (some f.riseA)
  | 15 => some (some f.fallA)
  | 16 => some (some f.levelA.val)
  | 17 => some f.riseB
  | 18 => some f.fallB
  | 19 => some (f.levelB.map Fin.val)
  | 20 => some (some f.confirm)
  | 21 => some (some f.gain)
  | 22 => some (some f.interval)
  | 23 => some (some f.silenceMult)
  | 24 => some (some f.faultLevel.val)
  | 25 => some (some f.forwardEvery)
  | _ => none

/-! ## ZONE (table 2) -/

/-- A damper or clock field as it is read: 255 for none (R184). -/
def orNone {n : Nat} (v : Option (Fin n)) : Nat := (v.map Fin.val).getD 255

/-- Write one field of a zone entry by its code. -/
def ZoneFields.set (f : ZoneFields) (code : Nat) (v : Option Nat) : Written ZoneFields :=
  match code with
  | 1 => within 1 4 (fun n => { f with count := n }) v
  | 2 => within 0 23 (fun n => { f with fans := f.fans.set 0 (Fin.ofNat 24 n) }) v
  | 3 => within 0 23 (fun n => { f with fans := f.fans.set 1 (Fin.ofNat 24 n) }) v
  | 4 => within 0 23 (fun n => { f with fans := f.fans.set 2 (Fin.ofNat 24 n) }) v
  | 5 => within 0 23 (fun n => { f with fans := f.fans.set 3 (Fin.ofNat 24 n) }) v
  | 6 => withinOrNone 23 (fun n => { f with dampers := f.dampers.set 0 (n.map (Fin.ofNat 24)) }) v
  | 7 => withinOrNone 23 (fun n => { f with dampers := f.dampers.set 1 (n.map (Fin.ofNat 24)) }) v
  | 8 => withinOrNone 23 (fun n => { f with dampers := f.dampers.set 2 (n.map (Fin.ofNat 24)) }) v
  | 9 => withinOrNone 23 (fun n => { f with dampers := f.dampers.set 3 (n.map (Fin.ofNat 24)) }) v
  | 10 => within 0 anyValue (fun n => { f with minFlow := n }) v
  | 11 => within 0 anyValue (fun n => { f with fumeLowFlow := n }) v
  | 12 => within 0 anyValue (fun n => { f with fumeHighFlow := n }) v
  | 13 => within 0 anyValue (fun n => { f with maxFlow := n }) v
  | 14 => within 0 anyValue (fun n => { f with flammableFlow := n }) v
  | 15 => within 0 anyValue (fun n => { f with fireFlow := n }) v
  | 16 => withinOrNone 1 (fun n => { f with clock := n.map (Fin.ofNat 2) }) v
  | 17 => within 0 239 (fun n => { f with purgeStart := n }) v
  | 18 => within 1 240 (fun n => { f with purgeDuration := n }) v
  | 19 => within 0 anyValue (fun n => { f with purgeFlow := n }) v
  | _ => .error .badField

/-- Read one field of a zone entry by its code. -/
def ZoneFields.get (f : ZoneFields) (code : Nat) : Option (Option Nat) :=
  match code with
  | 1 => some (some f.count)
  | 2 => some (some f.fans[0].val)
  | 3 => some (some f.fans[1].val)
  | 4 => some (some f.fans[2].val)
  | 5 => some (some f.fans[3].val)
  | 6 => some (some (orNone f.dampers[0]))
  | 7 => some (some (orNone f.dampers[1]))
  | 8 => some (some (orNone f.dampers[2]))
  | 9 => some (some (orNone f.dampers[3]))
  | 10 => some (some f.minFlow)
  | 11 => some (some f.fumeLowFlow)
  | 12 => some (some f.fumeHighFlow)
  | 13 => some (some f.maxFlow)
  | 14 => some (some f.flammableFlow)
  | 15 => some (some f.fireFlow)
  | 16 => some (some (orNone f.clock))
  | 17 => some (some f.purgeStart)
  | 18 => some (some f.purgeDuration)
  | 19 => some (some f.purgeFlow)
  | _ => none

/-- The staged value of a zone's tunable field (R157). -/
def ZoneDyn.stagedField (d : ZoneDyn) (code : Nat) : Option Nat :=
  match code with
  | 17 => d.stagedStart
  | 18 => d.stagedDuration
  | 19 => d.stagedFlow
  | _ => none

/-! ## OUTPUT (table 3) -/

def outputKindOf : Nat → OutputKind
  | 0 => .fan
  | _ => .damper

def OutputKind.code : OutputKind → Nat
  | .fan => 0
  | .damper => 1

/-- Write one field of an output entry by its code; an entry holds the fields of both kinds (R138). -/
def OutputFields.set (f : OutputFields) (code : Nat) (v : Option Nat) : Written OutputFields :=
  match code with
  | 1 => withinOrAbsent 1 254 (fun n => { f with node := n.map (BitVec.ofNat 8) }) v
  | 2 => within 0 1 (fun n => { f with kind := outputKindOf n }) v
  | 3 => within 1 anyValue (fun n => { f with rated := n }) v
  | 4 => within 0 255 (fun n => { f with minStep := n }) v
  | 5 => within 50 100 (fun n => { f with proof := n }) v
  | 6 => within 5 120 (fun n => { f with startTimeout := n }) v
  | 7 => within 2 60 (fun n => { f with statusTimeout := n }) v
  | 8 => within 0 1 (fun n => { f with nonex := n == 1 }) v
  | 9 => within 10 600 (fun n => { f with retryInterval := n }) v
  | 10 => within 5 120 (fun n => { f with travelTimeout := n }) v
  | _ => .error .badField

/-- Read one field of an output entry by its code. -/
def OutputFields.get (f : OutputFields) (code : Nat) : Option (Option Nat) :=
  match code with
  | 1 => some (f.node.map BitVec.toNat)
  | 2 => some (some f.kind.code)
  | 3 => some (some f.rated)
  | 4 => some (some f.minStep)
  | 5 => some (some f.proof)
  | 6 => some (some f.startTimeout)
  | 7 => some (some f.statusTimeout)
  | 8 => some (some f.nonex.toNat)
  | 9 => some (some f.retryInterval)
  | 10 => some (some f.travelTimeout)
  | _ => none

/-! ## WINDOW (table 4) -/

/-- Write one field of a window entry by its code. -/
def WindowFields.set (f : WindowFields) (code : Nat) (v : Option Nat) : Written WindowFields :=
  match code with
  | 1 => within 0 127 (fun n => { f with dayMask := BitVec.ofNat 7 n }) v
  | 2 => within 0 1439 (fun n => { f with start := n }) v
  | 3 => within 0 1439 (fun n => { f with stop := n }) v
  | 4 => within 0 255 (fun n => { f with zoneMask := BitVec.ofNat 8 n }) v
  | 5 => within 0 anyValue (fun n => { f with floor := n }) v
  | _ => .error .badField

/-- Read one field of a window entry by its code. -/
def WindowFields.get (f : WindowFields) (code : Nat) : Option (Option Nat) :=
  match code with
  | 1 => some (some f.dayMask.toNat)
  | 2 => some (some f.start)
  | 3 => some (some f.stop)
  | 4 => some (some f.zoneMask.toNat)
  | 5 => some (some f.floor)
  | _ => none

/-! ## RESPONSE, PURGE_CLOCK and DEVICE (tables 5 to 7) -/

/-- Write one field of the response table's entry of level `l + 1` (R147): levels 1 to 3 have no confine field. -/
def Response.set (r : Response) (l : Fin 5) (code : Nat) (v : Option Nat) : Written Response :=
  match code with
  | 1 => within 0 3600 (fun n => { r with runOn := r.runOn.set l n }) v
  | 2 =>
    if l = 4 then within 0 1 (fun n => { r with confine5 := n == 1 }) v
    else if l = 3 then within 0 1 (fun n => { r with confine4 := n == 1 }) v
    else .error .badField
  | _ => .error .badField

/-- Read one field of the response table's entry of level `l + 1`. -/
def Response.get (r : Response) (l : Fin 5) (code : Nat) : Option (Option Nat) :=
  match code with
  | 1 => some (some r.runOn[l])
  | 2 =>
    if l = 4 then some (some r.confine5.toNat)
    else if l = 3 then some (some r.confine4.toNat)
    else none
  | _ => none

/-- A period value for a purge clock (R73, R184). -/
def periodValue (code : Nat) (v : Option Nat) : Written Nat :=
  match code with
  | 1 => within 5 240 (fun n => n) v
  | _ => .error .badField

/-- Read one field of a purge clock: its period in force. -/
def PurgeClock.get (c : PurgeClock) (code : Nat) : Option (Option Nat) :=
  match code with
  | 1 => some (some c.period)
  | _ => none

/-- A bit rate: 125, 250 or 500 kbit/s (R148). -/
def bitRate {φ : Type} (k : Nat → φ) : Option Nat → Written φ
  | some v => if v = 125 ∨ v = 250 ∨ v = 500 then .ok (k v) else .error .outOfRange
  | none => .error .outOfRange

/-- Write one field of a copy of the device record by its code (R148). -/
def DeviceRecord.set (r : DeviceRecord) (code : Nat) (v : Option Nat) : Written DeviceRecord :=
  match code with
  | 1 => within 1 254 (fun n => { r with node := BitVec.ofNat 8 n }) v
  | 2 => within 0 254 (fun n => { r with panelNode := BitVec.ofNat 8 n }) v
  | 3 => within 1 8 (fun n => { r with drivePeriod := n }) v
  | 4 => bitRate (fun n => { r with fieldRate := n }) v
  | 5 => bitRate (fun n => { r with trunkRate := n }) v
  | _ => .error .badField

/-- Read one field of a copy of the device record by its code. -/
def DeviceRecord.get (r : DeviceRecord) (code : Nat) : Option (Option Nat) :=
  match code with
  | 1 => some (some r.node.toNat)
  | 2 => some (some r.panelNode.toNat)
  | 3 => some (some r.drivePeriod)
  | 4 => some (some r.fieldRate)
  | 5 => some (some r.trunkRate)
  | _ => none

end Sys2Proof.Machine
end

