-- ==== Sys2Proof/Machine/Tables.lean ====
section
/-! DEFINITION. The seven tables (chapter 7): naming an entry, the checks of R152 in their order, the life cycle, and the
effect of each table request. A refusal answers its code and has no state, so that it changes nothing (R155). -/

namespace Sys2Proof.Machine

/-! ## Naming an entry (R152, checks 1 and 2) -/

/-- An index of a table of `n` entries, else BAD_INDEX. -/
def indexed {n : Nat} (k : Fin n → EntryRef) (index : Byte) : Except ReplyCode EntryRef :=
  match indexOf n index with
  | some i => .ok (k i)
  | none => .error .badIndex

/-- The entry of the response table for a level byte 1 to 5, else BAD_INDEX. -/
def responseRef (index : Byte) : Except ReplyCode EntryRef :=
  if index = 0 then .error .badIndex else indexed .response (index - 1)

/-- The entry a request names: table code 1 to 7, else BAD_TABLE; index within the table, else BAD_INDEX. -/
def entryRef (table index : Byte) : Except ReplyCode EntryRef :=
  match table.toNat with
  | 1 => indexed .point index
  | 2 => indexed .zone index
  | 3 => indexed .output index
  | 4 => indexed .window index
  | 5 => responseRef index
  | 6 => indexed .clock index
  | 7 => if index = 0 then .ok .device else .error .badIndex
  | _ => .error .badTable

/-- The entry of a life-cycle request: tables 5 to 7 do not take one (R147, R148, R152). -/
def lifeCycleRef (table index : Byte) : Except ReplyCode EntryRef :=
  if 1 ≤ table.toNat ∧ table.toNat ≤ 4 then entryRef table index else .error .badTable

/-- The entry of an ENTRY_TUNE: tables 2 and 6 only (R152). -/
def tuneRef (table index : Byte) : Except ReplyCode EntryRef :=
  if table = 2 ∨ table = 6 then entryRef table index else .error .badTable

/-- The life-cycle state of an entry (R136, R157). -/
def State.lifeCycle (s : State) : EntryRef → LifeCycle
  | .point i => s.points[i].lifeCycle
  | .zone z => s.zones[z].lifeCycle
  | .output i => s.outputs[i].lifeCycle
  | .window w => s.windows[w].lifeCycle
  | _ => .none

/-- A life-cycle request up to check 4 of R152: the entry, no SAVE in flight, and the state the request takes. -/
def State.lifeCycleEntry (s : State) (table index : Byte) (from_ : LifeCycle) : Except ReplyCode EntryRef :=
  match lifeCycleRef table index with
  | .error e => .error e
  | .ok r => if s.saving then .error .busy else if s.lifeCycle r = from_ then .ok r else .error .state

/-! ## ENTRY_OPEN and ENTRY_CLEAR (R137, R140) -/

/-- An entry is taken to DRAFT with its defaults (R137). -/
def State.openEntry (s : State) : EntryRef → State
  | .point i => s.setPoint i (.draft PointFields.default)
  | .zone z => s.setZone z (.draft ZoneFields.default)
  | .output i => s.setOutput i (.draft OutputFields.default)
  | .window w => s.setWindow w (.draft WindowFields.default)
  | _ => s

/-- ENTRY_OPEN (R137). -/
def State.entryOpen (s : State) (table index : Byte) : Except ReplyCode State :=
  (s.lifeCycleEntry table index .vacant).map s.openEntry

/-- An entry is taken to VACANT and its fields are discarded (R140). -/
def State.clearEntry (s : State) : EntryRef → State
  | .point i => s.setPoint i .vacant
  | .zone z => s.setZone z .vacant
  | .output i => s.setOutput i .vacant
  | .window w => s.setWindow w .vacant
  | _ => s

/-- ENTRY_CLEAR (R140). -/
def State.entryClear (s : State) (table index : Byte) : Except ReplyCode State :=
  (s.lifeCycleEntry table index .draft).map s.clearEntry

/-! ## Node sharing (R139, R148) -/

/-- A node is the node of another entry than `self` that is not VACANT, or of a copy of the device record (R139). -/
def State.nodeTaken (s : State) (self : EntryRef) (node : Byte) : Bool :=
  ((List.finRange 64).any fun j => s.pointNode j == some node && self != .point j)
    || ((List.finRange 24).any fun j => s.outputNode j == some node && self != .output j)
    || s.active.node == node || s.pendingRecord.node == node

/-- A written node may be refused as shared; the value the entry already holds, and absence, may not (R139). -/
def State.nodeRefused (s : State) (self : EntryRef) (old new : Option Byte) : Bool :=
  match new with
  | none => false
  | some n => new != old && s.nodeTaken self n

/-! ## Purge tunes (R72, R73) -/

/-- A zone's purge values fit a period (R73, R75): start below it, duration at most it. -/
def fits (start duration period : Nat) : Bool := decide (start < period) && decide (duration ≤ period)

/-- The period a clock will have after its next wrap (R73). -/
def PurgeClock.next (c : PurgeClock) : Nat := c.staged.getD c.period

/-- A period tune fits every IN_SERVICE zone bound to the clock, each value taken as staged where one is present (R73). -/
def State.periodFits (s : State) (j : Fin 2) (period : Nat) : Bool :=
  (List.finRange 8).all fun z =>
    match s.zones[z] with
    | .inService f d =>
      f.clock != some j || fits (d.stagedStart.getD f.purgeStart) (d.stagedDuration.getD f.purgeDuration) period
    | _ => true

/-- A period is staged (R72), by ENTRY_TUNE or ENTRY_SET on a purge clock. -/
def State.tunePeriod (s : State) (j : Fin 2) (code : Nat) (v : Option Nat) : Except ReplyCode State :=
  match periodValue code v with
  | .error e => .error e
  | .ok p =>
    if s.periodFits j p then .ok (s.setClock j { s.clocks[j] with staged := some p })
    else .error (.checkFailed .purgeRange)

/-- A tunable field of a zone is given a staged value: start 0–239, duration 1–240, purge_flow 0–65535 (R73); any other
field code is BAD_FIELD (R152). -/
def ZoneDyn.stage (d : ZoneDyn) (code : Nat) (v : Option Nat) : Written ZoneDyn :=
  match code with
  | 17 => within 0 239 (fun n => { d with stagedStart := some n }) v
  | 18 => within 1 240 (fun n => { d with stagedDuration := some n }) v
  | 19 => within 0 anyValue (fun n => { d with stagedFlow := some n }) v
  | _ => .error .badField

/-- ENTRY_TUNE of a zone (R72, R73): IN_SERVICE and bound to a clock, a tunable field, in range, and fitting the period
the clock will have after its next wrap. -/
def State.tuneZone (s : State) (z : Fin 8) (code : Nat) (v : Option Nat) : Except ReplyCode State :=
  match s.zones[z] with
  | .inService f d =>
    match f.clock with
    | none => .error .state
    | some j =>
      match d.stage code v with
      | .error e => .error e
      | .ok d' =>
        if fits (d'.stagedStart.getD f.purgeStart) (d'.stagedDuration.getD f.purgeDuration) s.clocks[j].next then
          .ok (s.setZone z (.inService f d'))
        else .error (.checkFailed .purgeRange)
  | _ => .error .state

/-- ENTRY_TUNE (R72, R73, R152). -/
def State.entryTune (s : State) (table index field : Byte) (value : BitVec 16) : Except ReplyCode State :=
  match tuneRef table index with
  | .error e => .error e
  | .ok r =>
    if s.saving then .error .busy
    else match r with
      | .zone z => s.tuneZone z field.toNat (some value.toNat)
      | .clock j => s.tunePeriod j field.toNat (some value.toNat)
      | _ => .error .badTable

/-! ## ENTRY_SET (R138, R147, R148, R152) -/

/-- The value of an ENTRY_SET: with presence 1 the value bytes are not read (R156). -/
def setValue (value : BitVec 16) (presence : Byte) : Option Nat :=
  if presence = 0 then some value.toNat else none

/-- A presence byte above 1 is refused once the field code is known (R152, R156). -/
def presenceChecked {φ : Type} (known : Bool) (presence : Byte) (k : Written φ) : Written φ :=
  if known then (if 1 < presence.toNat then .error .outOfRange else k) else .error .badField

/-- ENTRY_SET of a point's field. -/
def State.setPointField (s : State) (i : Fin 64) (code : Nat) (value : BitVec 16) (presence : Byte) :
    Except ReplyCode State :=
  match s.points[i] with
  | .draft f =>
    match presenceChecked (f.get code).isSome presence (f.set code (setValue value presence)) with
    | .error e => .error e
    | .ok f' =>
      if s.nodeRefused (.point i) f.node f'.node then .error (.checkFailed .nodeDuplicate)
      else .ok (s.setPoint i (.draft f'))
  | _ => .error .state

/-- ENTRY_SET of a zone's field. -/
def State.setZoneField (s : State) (z : Fin 8) (code : Nat) (value : BitVec 16) (presence : Byte) :
    Except ReplyCode State :=
  match s.zones[z] with
  | .draft f =>
    match presenceChecked (f.get code).isSome presence (f.set code (setValue value presence)) with
    | .error e => .error e
    | .ok f' => .ok (s.setZone z (.draft f'))
  | _ => .error .state

/-- ENTRY_SET of an output's field. -/
def State.setOutputField (s : State) (i : Fin 24) (code : Nat) (value : BitVec 16) (presence : Byte) :
    Except ReplyCode State :=
  match s.outputs[i] with
  | .draft f =>
    match presenceChecked (f.get code).isSome presence (f.set code (setValue value presence)) with
    | .error e => .error e
    | .ok f' =>
      if s.nodeRefused (.output i) f.node f'.node then .error (.checkFailed .nodeDuplicate)
      else .ok (s.setOutput i (.draft f'))
  | _ => .error .state

/-- ENTRY_SET of a window's field. -/
def State.setWindowField (s : State) (w : Fin 8) (code : Nat) (value : BitVec 16) (presence : Byte) :
    Except ReplyCode State :=
  match s.windows[w] with
  | .draft f =>
    match presenceChecked (f.get code).isSome presence (f.set code (setValue value presence)) with
    | .error e => .error e
    | .ok f' => .ok (s.setWindow w (.draft f'))
  | _ => .error .state

/-- ENTRY_SET on the response table (R147): LOCKED under the fire lock before the field and value are looked at (R152). -/
def State.setResponseField (s : State) (l : Fin 5) (code : Nat) (value : BitVec 16) (presence : Byte) :
    Except ReplyCode State :=
  if s.fireState then .error .locked
  else
    match presenceChecked (s.response.get l code).isSome presence
        (s.response.set l code (setValue value presence)) with
    | .error e => .error e
    | .ok r => .ok (s.setResponse r)

/-- ENTRY_SET on a purge clock (R72): the period is staged. -/
def State.setClockField (s : State) (j : Fin 2) (code : Nat) (value : BitVec 16) (presence : Byte) :
    Except ReplyCode State :=
  presenceChecked (s.clocks[j].get code).isSome presence (s.tunePeriod j code (setValue value presence))

/-- ENTRY_SET on the device record (R148): the pending copy is written; its node may not be that of a field entry. -/
def State.setDeviceField (s : State) (code : Nat) (value : BitVec 16) (presence : Byte) : Except ReplyCode State :=
  match presenceChecked (s.pendingRecord.get code).isSome presence
      (s.pendingRecord.set code (setValue value presence)) with
  | .error e => .error e
  | .ok r =>
    if code = 1 ∧ s.isKnownNode r.node then .error (.checkFailed .nodeDuplicate)
    else .ok (s.setPendingRecord r)

/-- ENTRY_SET (R138, R152). -/
def State.entrySet (s : State) (table index field : Byte) (value : BitVec 16) (presence : Byte) :
    Except ReplyCode State :=
  match entryRef table index with
  | .error e => .error e
  | .ok r =>
    if s.saving then .error .busy
    else match r with
      | .point i => s.setPointField i field.toNat value presence
      | .zone z => s.setZoneField z field.toNat value presence
      | .output i => s.setOutputField i field.toNat value presence
      | .window w => s.setWindowField w field.toNat value presence
      | .response l => s.setResponseField l field.toNat value presence
      | .clock j => s.setClockField j field.toNat value presence
      | .device => s.setDeviceField field.toNat value presence

/-! ## ENTRY_COMMISSION (R141 to R144) -/

/-- The first check that fails, in the order made (R141). -/
def firstFailing (checks : List (Bool × CheckReason)) : Option CheckReason :=
  (checks.find? fun c => !c.1).map Prod.snd

/-- Raw values strictly increase and reading values do not decrease (R142). -/
def pairsRise : List (Nat × Nat) → Bool
  | (r1, v1) :: (r2, v2) :: rest => decide (r1 < r2) && decide (v1 ≤ v2) && pairsRise ((r2, v2) :: rest)
  | _ => true

/-- CAL_ORDER (R142). -/
def PointFields.calOrder (f : PointFields) : Bool := (f.raw3.isSome || f.raw4.isNone) && pairsRise f.pairs

/-- CAL_WIDTH (R142). -/
def PointFields.calWidth (f : PointFields) : Bool := f.pairs.all fun p => decide (p.1 < 2 ^ f.width)

/-- THRESH_ORDER (R142). -/
def PointFields.threshOrder (f : PointFields) : Bool :=
  decide (f.fallA < f.riseA) &&
    match f.riseB with
    | none => true
    | some rb =>
      match f.fallB with
      | none => false
      | some fb => decide (f.riseA ≤ rb) && decide (f.fallA ≤ fb) && decide (fb < rb)

/-- The levels allowed for a kind (R2). -/
def PointKind.allows (k : PointKind) (l : Level) : Bool :=
  match k with
  | .co | .no2 => l == 1 || l == 2
  | .h2 => l == 3
  | .smoke | .heat => l == 4

/-- LEVEL_KIND (R142). -/
def PointFields.levelKind (f : PointFields) : Bool :=
  f.kind.allows f.levelA &&
    match f.riseB with
    | none => true
    | some _ =>
      match f.levelB with
      | none => false
      | some lb => f.kind.allows lb && decide (f.levelA ≤ lb)

/-- NODE_DUPLICATE (R142, R144): the node is present and not shared. -/
def State.nodeFree (s : State) (self : EntryRef) (node : Option Byte) : Bool :=
  match node with
  | none => false
  | some n => !s.nodeTaken self n

/-- The commission checks of a point (R142). -/
def State.pointChecks (s : State) (i : Fin 64) (f : PointFields) : List (Bool × CheckReason) :=
  [(f.calOrder, .calOrder), (f.calWidth, .calWidth), (f.threshOrder, .threshOrder), (f.levelKind, .levelKind),
    (s.nodeFree (.point i) f.node, .nodeDuplicate), (s.zones[f.zone].isInService, .zoneNotInService)]

/-- The output is IN_SERVICE and of a kind. -/
def State.outputIs (s : State) (i : Fin 24) (k : OutputKind) : Bool :=
  match s.outputs[i] with
  | .inService f _ => f.kind == k
  | _ => false

/-- OUTPUT_NOT_IN_SERVICE (R143): every fan and damper of the branches is IN_SERVICE. -/
def State.branchesInService (s : State) (f : ZoneFields) : Bool :=
  f.branches.all fun k =>
    s.outputs[f.fans[k]].isInService &&
      match f.dampers[k] with
      | some j => s.outputs[j].isInService
      | none => true

/-- KIND_MISMATCH (R143): every fan of the branches is a FAN, and every damper a DAMPER. -/
def State.branchKinds (s : State) (f : ZoneFields) : Bool :=
  f.branches.all fun k =>
    s.outputIs f.fans[k] .fan &&
      match f.dampers[k] with
      | some j => s.outputIs j .damper
      | none => true

/-- FLOW_ORDER (R143). -/
def ZoneFields.flowOrder (f : ZoneFields) : Bool :=
  decide (f.minFlow ≤ f.fumeLowFlow) && decide (f.fumeLowFlow ≤ f.fumeHighFlow) && decide (f.fumeHighFlow ≤ f.maxFlow)

/-- PURGE_RANGE at commission (R75, R143): the values fit the period in force and the staged period. -/
def State.purgeRange (s : State) (f : ZoneFields) : Bool :=
  match f.clock with
  | none => true
  | some j =>
    fits f.purgeStart f.purgeDuration s.clocks[j].period && fits f.purgeStart f.purgeDuration s.clocks[j].next

/-- The commission checks of a zone (R143). -/
def State.zoneChecks (s : State) (f : ZoneFields) : List (Bool × CheckReason) :=
  [(s.branchesInService f, .outputNotInService), (s.branchKinds f, .kindMismatch), (f.flowOrder, .flowOrder),
    (s.purgeRange f, .purgeRange)]

/-- A point enters service (R12): its state, its silence timer, and its zone's condition formed afresh. -/
def State.commissionPoint (s : State) (i : Fin 64) (f : PointFields) : State :=
  (s.setPoint i (.inService f f.initial)).reformZone f.zone

/-- A zone enters service with its report slot pending (R53). -/
def State.commissionZone (s : State) (z : Fin 8) (f : ZoneFields) : State :=
  (s.setZone z (.inService f ZoneDyn.initial)).setZoneSlot z Slot.fresh

/-- An output enters service (R117). -/
def State.commissionOutput (s : State) (i : Fin 24) (f : OutputFields) : State :=
  s.setOutput i (.inService f f.initial)

/-- A commission whose checks are these: the first failing reason, or the entry in service. -/
def checked (checks : List (Bool × CheckReason)) (s : State) : Except ReplyCode State :=
  match firstFailing checks with
  | some r => .error (.checkFailed r)
  | none => .ok s

/-- A DRAFT entry is checked and commissioned (R141). -/
def State.commissionEntry (s : State) : EntryRef → Except ReplyCode State
  | .point i =>
    match s.points[i] with
    | .draft f => checked (s.pointChecks i f) (s.commissionPoint i f)
    | _ => .error .state
  | .zone z =>
    match s.zones[z] with
    | .draft f => checked (s.zoneChecks f) (s.commissionZone z f)
    | _ => .error .state
  | .output i =>
    match s.outputs[i] with
    | .draft f => checked [(s.nodeFree (.output i) f.node, .nodeDuplicate)] (s.commissionOutput i f)
    | _ => .error .state
  | .window w =>
    match s.windows[w] with
    | .draft f => checked [(f.start != f.stop, .windowRange)] (s.setWindow w (.inService f ()))
    | _ => .error .state
  | _ => .error .badTable

/-- ENTRY_COMMISSION (R141, R152). -/
def State.entryCommission (s : State) (table index : Byte) : Except ReplyCode State :=
  match s.lifeCycleEntry table index .draft with
  | .error e => .error e
  | .ok r => s.commissionEntry r

/-! ## ENTRY_RETIRE (R145) -/

/-- A point leaves service (R12): its trouble slot is set when it was in FAULT, its contribution is removed, and its
zone's condition is formed afresh. -/
def State.retirePoint (s : State) (i : Fin 64) (f : PointFields) (d : PointDyn) : State :=
  let s := s.setPoint i (.draft f)
  let s := if d.state.isFault then s.markPoint i none else s
  s.reformZone f.zone

/-- The zone's report on offer, if any, is carried on without its slot (R54, R170). -/
def State.detachReport (s : State) (z : Fin 8) : State :=
  if s.onOffer (.zone z) then
    s.setTrunk { s.trunk with report := s.trunk.report.map fun r => { r with slot := none } }
  else s

/-- A zone leaves service (R54): its dynamic state, staged tunes (R75) and report slot are discarded. -/
def State.retireZone (s : State) (z : Fin 8) (f : ZoneFields) : State :=
  ((s.setZone z (.draft f)).setZoneSlot z Slot.cleared).detachReport z

/-- An output leaves service (R117): its waiting DRIVE is withdrawn, and its trouble slot is set when it was in FAULT or
had its NO_PATH mark set. -/
def State.retireOutput (s : State) (i : Fin 24) (f : OutputFields) (d : OutputDyn) : State :=
  let s := (s.setOutput i (.draft f)).withdrawDrive i
  if d.troubled then s.markOutput i none else s

/-- An IN_SERVICE entry passes the locked, referenced and E = 0 checks and returns to DRAFT (R145). -/
def State.retireEntry (s : State) : EntryRef → Except ReplyCode State
  | .point i =>
    match s.points[i] with
    | .inService f d => if isFire (s.zoneLevel f.zone) then .error .locked else .ok (s.retirePoint i f d)
    | _ => .error .state
  | .zone z =>
    match s.zones[z] with
    | .inService f d =>
      if s.zoneReferenced z then .error .referenced
      else if d.level = 0 then .ok (s.retireZone z f) else .error .state
    | _ => .error .state
  | .output i =>
    match s.outputs[i] with
    | .inService f d =>
      if s.outputLocked i then .error .locked
      else if s.outputReferenced i then .error .referenced
      else .ok (s.retireOutput i f d)
    | _ => .error .state
  | .window w =>
    match s.windows[w] with
    | .inService f _ => .ok (s.setWindow w (.draft f))
    | _ => .error .state
  | _ => .error .badTable

/-- ENTRY_RETIRE (R145, R152). -/
def State.entryRetire (s : State) (table index : Byte) : Except ReplyCode State :=
  match s.lifeCycleEntry table index .inService with
  | .error e => .error e
  | .ok r => s.retireEntry r

/-! ## ENTRY_GET (R157) -/

/-- The reply data of ENTRY_GET (R183): life-cycle state in bits 0–1, "value absent" in bit 2, "second value present" in
bit 3; then the value and the second value. -/
def getData (life : LifeCycle) (value second : Option Nat) : List Byte :=
  byte (life.code + 4 * value.isNone.toNat + 8 * second.isSome.toNat)
    :: (bytes2 (value.getD 0) ++ bytes2 (second.getD 0))

/-- The field is one the entry has, else BAD_FIELD. -/
def fieldData (life : LifeCycle) (value : Option (Option Nat)) (second : Option Nat) : Except ReplyCode (List Byte) :=
  match value with
  | none => .error .badField
  | some v => .ok (getData life v second)

/-- One field of an entry that has fields, or the reply for a VACANT entry, whose field code is still checked against the
table's (R157). -/
def entryData {φ δ : Type} (e : Entry φ δ) (default : φ) (get : φ → Option (Option Nat)) (second : Option Nat) :
    Except ReplyCode (List Byte) :=
  match e.fields? with
  | some f => fieldData e.lifeCycle (get f) second
  | none => fieldData .vacant ((get default).map fun _ => none) none

/-- The staged value of a zone's field, if it is IN_SERVICE. -/
def stagedOf (e : Entry ZoneFields ZoneDyn) (code : Nat) : Option Nat :=
  match e with
  | .inService _ d => d.stagedField code
  | _ => none

/-- ENTRY_GET (R157). -/
def State.entryGet (s : State) (table index field : Byte) : Except ReplyCode (List Byte) :=
  let code := field.toNat
  match entryRef table index with
  | .error e => .error e
  | .ok r =>
    match r with
    | .point i => entryData s.points[i] PointFields.default (PointFields.get · code) none
    | .zone z => entryData s.zones[z] ZoneFields.default (ZoneFields.get · code) (stagedOf s.zones[z] code)
    | .output i => entryData s.outputs[i] OutputFields.default (OutputFields.get · code) none
    | .window w => entryData s.windows[w] WindowFields.default (WindowFields.get · code) none
    | .response l => fieldData .none (s.response.get l code) none
    | .clock j => fieldData .none (s.clocks[j].get code) s.clocks[j].staged
    | .device => fieldData .none (s.active.get code) ((s.pendingRecord.get code).join)

end Sys2Proof.Machine
end

