-- ==== Sys2Proof/Machine/Requests.lean ====
section
/-! DEFINITION. The management unit (chapter 8): the zone, output, read and device requests, the decision of every request,
and the reply. The table requests are in Tables.lean. -/

namespace Sys2Proof.Machine

/-! ## Zone requests (R39, R46 to R48) -/

/-- The IN_SERVICE zone a request names: BAD_INDEX, then STATE. -/
def State.zoneNamed (s : State) (zone : Byte) : Except ReplyCode (Fin 8 × ZoneDyn) :=
  match indexOf 8 zone with
  | none => .error .badIndex
  | some z =>
    match s.zones[z] with
    | .inService _ d => .ok (z, d)
    | _ => .error .state

/-- ZONE_RELEASE (R39, R40). -/
def State.zoneRelease (s : State) (zone level : Byte) : Except ReplyCode State :=
  match s.zoneNamed zone with
  | .error e => .error e
  | .ok (z, d) =>
    if level ≠ 4 ∧ level ≠ 5 then .error .outOfRange
    else if d.level.val ≠ level.toNat then .error .notInForce
    else if d.level ≤ d.cond then .error .conditionPresent
    else .ok (s.updateZone z (ZoneDyn.consent s.response))

/-- ZONE_SUPPRESS (R46, R47). -/
def State.zoneSuppress (s : State) (zone setting : Byte) : Except ReplyCode State :=
  match s.zoneNamed zone with
  | .error e => .error e
  | .ok (z, _) =>
    if setting = 1 then .ok (s.updateZone z ZoneDyn.suppressOn)
    else if setting = 0 then .ok (s.updateZone z (ZoneDyn.suppressOff s.response))
    else .error .outOfRange

/-- ZONE_FORCE (R48). -/
def State.zoneForce (s : State) (zone level : Byte) : Except ReplyCode State :=
  match s.zoneNamed zone with
  | .error e => .error e
  | .ok (z, _) =>
    if 5 < level.toNat then .error .outOfRange
    else .ok (s.updateZone z (ZoneDyn.forced s.response (s.contributions z) (Fin.ofNat 6 level.toNat)))

/-! ## Output requests (R113 to R116) -/

/-- The IN_SERVICE output a request names: BAD_INDEX, then STATE. -/
def State.outputNamed (s : State) (output : Byte) : Except ReplyCode (Fin 24 × OutputDyn) :=
  match indexOf 24 output with
  | none => .error .badIndex
  | some i =>
    match s.outputs[i] with
    | .inService _ d => .ok (i, d)
    | _ => .error .state

/-- OUTPUT_HAND (R113). -/
def State.outputHand (s : State) (output setting : Byte) : Except ReplyCode State :=
  match s.outputNamed output with
  | .error e => .error e
  | .ok (i, _) =>
    if setting = 0 then .ok (s.handOff i)
    else if setting = 1 then (if s.outputLocked i then .error .locked else .ok (s.handOn i))
    else .error .outOfRange

/-- OUTPUT_RESET (R116). -/
def State.outputReset (s : State) (output : Byte) : Except ReplyCode State :=
  match s.outputNamed output with
  | .error e => .error e
  | .ok (i, .fan d) => if d.state.isFault then .ok (s.updateFan i fun _ => FanDyn.toStopped) else .error .state
  | .ok (i, .damper d) => if d.state = .hand then .error .state else .ok (s.updateDamper i DamperDyn.toTravelling)

/-! ## Read requests (R158 to R162) -/

/-- A page that the entry has, padded to five bytes; another page is OUT_OF_RANGE (R183). -/
def pageReply (p : Option (List Byte)) : Except ReplyCode (List Byte) :=
  match p with
  | some l => .ok (page l)
  | none => .error .outOfRange

/-- The pages of READ_ZONE (R158). -/
def zonePage (d : ZoneDyn) (x : Slot) : Nat → Option (List Byte)
  | 0 => some [byte d.cond.val, byte d.level.val, d.inForce.byte, packFlags [d.held1, d.held2], byte d.force.val]
  | 1 =>
    some ([packFlags [d.latch, d.suppress, d.releaseWait, d.accepted, d.short, decide (0 < d.force), x.pending,
      x.superseded], byte d.runOnCode] ++ bytes2 d.runOn.seconds)
  | 2 => some (bytes2 d.demand ++ bytes2 d.delivered)
  | 3 => some (bytes2 d.shares[0] ++ bytes2 d.shares[1])
  | 4 => some (bytes2 d.shares[2] ++ bytes2 d.shares[3])
  | _ => none

/-- READ_ZONE (R158). -/
def State.readZone (s : State) (index pg : Byte) : Except ReplyCode (List Byte) :=
  match s.zoneNamed index with
  | .error e => .error e
  | .ok (z, d) => pageReply (zonePage d s.zoneSlots[z] pg.toNat)

/-- The pages of READ_POINT (R159). -/
def pointPage (f : PointFields) (d : PointDyn) : Nat → Option (List Byte)
  | 0 =>
    some [byte d.state.code, byte d.state.reason.code, byte d.grade.code, byte d.run,
      packFlags [d.overMark, d.underMark, d.silence.isSome]]
  | 1 => some (bytes2 d.filtered ++ bytes2 d.lastRaw ++ [byte d.forwardCount])
  | 2 => some (bytes3 d.acc ++ bytes2 d.silence.seconds)
  | 3 => some (bytes2 d.badCount ++ [byte (contribution f d).val])
  | _ => none

/-- READ_POINT (R159). -/
def State.readPoint (s : State) (index pg : Byte) : Except ReplyCode (List Byte) :=
  match indexOf 64 index with
  | none => .error .badIndex
  | some i =>
    match s.points[i] with
    | .inService f d => pageReply (pointPage f d pg.toNat)
    | _ => .error .state

/-- The pages of READ_OUTPUT for a fan (R160). -/
def fanPage (d : FanDyn) : Nat → Option (List Byte)
  | 0 =>
    some [byte d.state.code, byte d.state.reason.code, byte (d.noPath.toNat + 2 * d.run.toNat + 4 * d.hold.code),
      byte d.below, byte d.retryCount]
  | 1 => some (bytes2 d.flow ++ bytes2 d.q ++ [byte d.dither.val])
  | 2 =>
    some ((match d.lastStatus with
      | some st => [packFlags [true, st.driveFault], st.step]
      | none => [0, 0]) ++ [byte d.runningTimer.1] ++ bytes2 d.runningTimer.2.seconds)
  | _ => none

/-- The pages of READ_OUTPUT for a damper (R160). -/
def damperPage (d : DamperDyn) : Nat → Option (List Byte)
  | 0 =>
    some [byte d.state.code, byte d.target.code, byte d.position.code, byte d.state.reason.code,
      byte d.runningTimer.1]
  | 1 => some (bytes2 d.runningTimer.2.seconds)
  | _ => none

/-- READ_OUTPUT (R160). -/
def State.readOutput (s : State) (index pg : Byte) : Except ReplyCode (List Byte) :=
  match s.outputNamed index with
  | .error e => .error e
  | .ok (_, .fan d) => pageReply (fanPage d pg.toNat)
  | .ok (_, .damper d) => pageReply (damperPage d pg.toNat)

/-- The counters of a port by number (R171). -/
def PortCounters.numbered (c : PortCounters) : Nat → Option Nat
  | 0 => some c.received
  | 1 => some c.forwarded
  | 2 => some c.droppedQueue
  | 3 => some c.droppedHop
  | 4 => some c.abandoned
  | 5 => some c.offEntries
  | 6 => some c.malformed
  | _ => none

/-- The device-wide counters by number (R172). -/
def DeviceCounters.numbered (c : DeviceCounters) : Nat → Option Nat
  | 0 => some c.stranger
  | 1 => some c.badSamples
  | 2 => some c.blockedDrive
  | 3 => some c.ignoredPanel
  | 4 => some c.ignoredTime
  | 5 => some c.mgmtDropped
  | _ => none

/-- The count of a counter that exists; another number is OUT_OF_RANGE. -/
def countReply (c : Option Nat) : Except ReplyCode (List Byte) :=
  match c with
  | some n => .ok (bytes2 n)
  | none => .error .outOfRange

/-- A point's counter (R161, R172). -/
def State.readPointCounter (s : State) (number index : Byte) : Except ReplyCode (List Byte) :=
  if number ≠ 0 then .error .outOfRange
  else
    match indexOf 64 index with
    | none => .error .badIndex
    | some i =>
      match s.points[i] with
      | .inService _ d => .ok (bytes2 d.badCount)
      | _ => .error .state

/-- READ_COUNTER (R161). -/
def State.readCounter (s : State) (cls number index : Byte) : Except ReplyCode (List Byte) :=
  match cls.toNat with
  | 0 => countReply (s.field.counters.numbered number.toNat)
  | 1 => countReply (s.trunk.counters.numbered number.toNat)
  | 2 => countReply (s.counters.numbered number.toNat)
  | 3 => s.readPointCounter number index
  | _ => .error .outOfRange

/-- The identification byte of every DX48 (R183). -/
def identification : Byte := 0x30

/-- What the last byte of a page of READ_DEVICE shows of a difference between the two copies of the device record (R149): 0,
which is the padding of R183, where they are equal or the page shows none, and otherwise another byte. Whether a page shows
it, which one, and by what value are left open (DESIGN CHOICE, log entry 28). -/
def State.differenceItem (s : State) (pg : Fin 2) : Byte :=
  if s.active ≠ s.pendingRecord ∧ Config.differencePage = some pg then
    byte ((Config.recordDifference s.active s.pendingRecord).val + 1)
  else 0

/-- READ_DEVICE (R162, R183): the items of its pages, and in the byte that each has left what R149 may have it show of a
difference between the two copies of the device record (log entry 28). -/
def State.readDevice (s : State) (pg : Byte) : Except ReplyCode (List Byte) :=
  pageReply (match pg.toNat with
    | 0 =>
      some [byte s.storeState.code, byte s.saving.toNat, byte s.fireState.toNat, identification, s.differenceItem 0]
    | 1 =>
      some ((match s.dayClock with
        | some c => byte c.day :: bytes2 c.minute
        | none => [255, 0, 0]) ++ [byte (Timer.seconds (some s.minuteTimer)), s.differenceItem 1])
    | _ => none)

/-! ## Device requests (R163 to R165) -/

/-- A point's bad-sample count becomes 0. -/
def clearBadCount : Entry PointFields PointDyn → Entry PointFields PointDyn
  | .inService f d => .inService f { d with badCount := 0 }
  | e => e

/-- COUNTERS_CLEAR (R163). -/
def State.countersClear (s : State) : State :=
  { s with
    field := { s.field with counters := PortCounters.zero }
    trunk := { s.trunk with counters := PortCounters.zero }
    counters := DeviceCounters.zero
    points := Vector.ofFn fun i => clearBadCount s.points[i] }

/-! ## The decision of a request (R153 to R155) -/

/-- How a decoded request is decided: refused, done with reply data, a SAVE accepted with no reply yet, or a RESTART
accepted. -/
inductive Decision where
  | refused (code : ReplyCode)
  | done (s : State) (data : List Byte)
  | saving (s : State)
  | restarting (s : State)

/-- A request whose DONE carries no data. -/
def Decision.ofChange : Except ReplyCode State → Decision
  | .error e => .refused e
  | .ok s => .done s []

/-- A request that reads. -/
def Decision.ofRead (s : State) : Except ReplyCode (List Byte) → Decision
  | .error e => .refused e
  | .ok data => .done s data

/-- The decision of a decoded request while no RESTART is pending. -/
def State.decide (s : State) : Request → Decision
  | .entryOpen t i => .ofChange (s.entryOpen t i)
  | .entrySet t i f v p => .ofChange (s.entrySet t i f v p)
  | .entryGet t i f => .ofRead s (s.entryGet t i f)
  | .entryCommission t i => .ofChange (s.entryCommission t i)
  | .entryRetire t i => .ofChange (s.entryRetire t i)
  | .entryClear t i => .ofChange (s.entryClear t i)
  | .entryTune t i f v => .ofChange (s.entryTune t i f v)
  | .zoneRelease z l => .ofChange (s.zoneRelease z l)
  | .zoneSuppress z v => .ofChange (s.zoneSuppress z v)
  | .zoneForce z l => .ofChange (s.zoneForce z l)
  | .outputHand o v => .ofChange (s.outputHand o v)
  | .outputReset o => .ofChange (s.outputReset o)
  | .readZone i p => .ofRead s (s.readZone i p)
  | .readPoint i p => .ofRead s (s.readPoint i p)
  | .readOutput i p => .ofRead s (s.readOutput i p)
  | .readCounter c n i => .ofRead s (s.readCounter c n i)
  | .readDevice p => .ofRead s (s.readDevice p)
  | .countersClear => .done s.countersClear []
  | .save => if s.saving then .refused .busy else .saving s
  | .restart => if s.saving then .refused .busy else if s.fireState then .refused .locked else .restarting s

/-- The reply of a refusal (R153). -/
def State.refuse (s : State) (src code tag : Byte) (c : ReplyCode) : State :=
  s.queueReply .reply src code tag c.code c.data

/-- A decoded request is taken (R153): BUSY while a RESTART is pending (R165), else decided, and answered with one
reply; an accepted SAVE is answered at its completion (R164), and an accepted RESTART is pending once its reply is
built. -/
def State.takeRequest (src tag : Byte) (r : Request) (s : State) : State :=
  if s.restartPending then s.refuse src r.code tag .busy
  else
    match s.decide r with
    | .refused c => s.refuse src r.code tag c
    | .done t data => t.queueReply .reply src r.code tag 0 data
    | .saving t => t.acceptSave src tag
    | .restarting t => (t.setRestartPending true).queueReply .restartReply src r.code tag 0 []

/-- A well-formed MGMT_REQ is decoded and taken; one that cannot be decoded is answered BAD_REQUEST (R154). -/
def State.takeEncoded (src code tag : Byte) (args : List Byte) (s : State) : State :=
  match decodeRequest code args with
  | some r => s.takeRequest src tag r
  | none => s.refuse src code tag .badRequest

end Sys2Proof.Machine
end

