-- ==== Sys2Proof/Machine/Frames.lean ====
section
/-! DEFINITION. The forwarding unit (section 6.4): what becomes of a frame received on each port: whether a block takes
it, whether it goes on, or both. -/

namespace Sys2Proof.Machine

/-! ## From the field -/

/-- A malformed frame is counted on the port that received it (R120, R182). -/
def State.countMalformed (s : State) (p : PortId) : State := s.setPort p (s.port p).countMalformed

/-- A well-formed sample of an IN_SERVICE point is taken: the point, its zone and the bad-sample counters (R4, R5). -/
def State.takeSample (s : State) (i : Fin 64) (v : SamplePayload) : State :=
  match s.points[i] with
  | .inService f _ =>
    let s := s.updatePoint i fun f d => d.takeSample f v.raw v.warm v.sensorFault
    if classify f v.raw v.warm v.sensorFault = .bad then s.countBadSample else s
  | _ => s

/-- The sample is due, changed or bad (R6). -/
def State.sampleGoesUp (s : State) (i : Fin 64) (v : SamplePayload) : Bool :=
  match s.points[i] with
  | .inService f d => sampleForwarded f d (d.takeSample f v.raw v.warm v.sensorFault) v.raw v.warm v.sensorFault
  | _ => true

/-- A SAMPLE received on the FIELD port (R130). -/
def State.receiveSample (s : State) (f : Frame) : State :=
  match s.pointAt f.src with
  | some i =>
    match samplePayload? f.data with
    | some v => if s.sampleGoesUp i v then (s.takeSample i v).forwardUp f else s.takeSample i v
    | none => (s.countMalformed .field).forwardUp f
  | none => if s.isPointNode f.src then s.forwardUp f else s.countStranger.forwardUp f

/-- A fan's STATUS (R131): taken when it is well-formed, and forwarded up by the fan as it stood before. -/
def State.receiveFanStatus (s : State) (i : Fin 24) (d : FanDyn) (f : Frame) : State :=
  match fanPayload? f.data with
  | some st =>
    let t := s.updateFan i fun g => FanDyn.takeStatus g st
    if fanStatusForwarded d st then t.forwardUp f else t
  | none => (s.countMalformed .field).forwardUp f

/-- A damper's STATUS (R131). -/
def State.receiveDamperStatus (s : State) (i : Fin 24) (d : DamperDyn) (f : Frame) : State :=
  match damperPayload? f.data with
  | some r =>
    let t := s.takeDamperStatus i r
    if damperStatusForwarded d r then t.forwardUp f else t
  | none => (s.countMalformed .field).forwardUp f

/-- A STATUS received on the FIELD port (R131): read by the kind of the output whose node sent it (R182). -/
def State.receiveStatus (s : State) (f : Frame) : State :=
  match s.outputAt f.src with
  | some i =>
    match s.outputs[i] with
    | .inService _ (.fan d) => s.receiveFanStatus i d f
    | .inService _ (.damper d) => s.receiveDamperStatus i d f
    | _ => s.forwardUp f
  | none => s.forwardUp f

/-- A frame received on the FIELD port (R130 to R132). -/
def State.fieldReceive (f : Frame) (s : State) : State :=
  if f.kind = kindMgmtReq then s.countMgmtDropped
  else if f.kind = kindSample then s.receiveSample f
  else if f.kind = kindStatus then s.receiveStatus f
  else s.forwardUp f

/-! ## From the trunk -/

/-- The output is IN_SERVICE and not in HAND: the DX48 is driving it (R135). -/
def State.drives (s : State) (node : Byte) : Bool :=
  match s.outputAt node with
  | some i => !s.inHand i
  | none => false

/-- A DRIVE from the trunk that may not go down: a broadcast (R134), or one to an output the DX48 is driving (R135). -/
def State.blocked (s : State) (f : Frame) : Bool := f.kind == kindDrive && (f.dst == 255 || s.drives f.dst)

/-- A frame from the trunk that is not for the DX48 goes down by its destination (R134, R135). -/
def State.passDown (s : State) (f : Frame) : State :=
  if f.dst = 255 ∨ s.isKnownNode f.dst = true then
    if s.blocked f then s.countBlockedDrive else s.forwardDown f
  else s

/-- A PANEL addressed to the DX48 (R133): accepted by source, then judged, then taken by the ladder. -/
def State.receivePanel (s : State) (f : Frame) : State :=
  if s.active.panelNode = 0 ∨ f.src = s.active.panelNode then
    match panelPayload? f.data with
    | none => s.countMalformed .trunk
    | some v =>
      if v.action = 1 then s.panelAlarm v.mask
      else if v.action = 2 then s.panelNormal v.mask
      else s.countIgnoredPanel
  else s.countIgnoredPanel

/-- A MGMT_REQ addressed to the DX48 (R133, R153). -/
def State.receiveRequest (s : State) (f : Frame) : State :=
  match requestPayload? f.data with
  | some v => s.takeEncoded f.src v.code v.tag v.args
  | none => s.countMalformed .trunk

/-- A TIME from the trunk is judged and taken whatever its destination (R134). -/
def State.receiveTime (s : State) (f : Frame) : State :=
  match timePayload? f.data with
  | some v => s.takeTime v.day v.minute v.second
  | none => s.countMalformed .trunk

/-- A frame received on the TRUNK port (R133 to R135). -/
def State.trunkReceive (f : Frame) (s : State) : State :=
  if f.dst = s.active.node then
    if f.kind = kindMgmtReq then s.receiveRequest f
    else if f.kind = kindPanel then s.receivePanel f
    else if f.kind = kindTime then s.receiveTime f
    else s
  else if f.kind = kindTime then (s.receiveTime f).passDown f
  else s.passDown f

/-! ## Frames of either line -/

/-- A frame with a standard identifier, or a remote frame: counted and neither taken nor forwarded (R181). -/
def State.receiveUnreadable (p : PortId) (s : State) : State := s.countMalformed p

/-- A management request of the opcode table: a MGMT_REQ to the DX48, received on the TRUNK port. -/
def onRequest (src tag : Byte) (r : Request) (s : State) : Result := onFrame .trunk (State.takeRequest src tag r) s

end Sys2Proof.Machine
end

