-- ==== Sys2Proof/Machine/DeviceRequests.lean ====
section
/-! DEFINITION. The device requests (section 8.5), each a MGMT_REQ to the DX48 on the TRUNK port. -/

namespace Sys2Proof.Machine

/-- COUNTERS_CLEAR (R163). -/
def execCountersClear (src tag : Byte) (s : State) : Result :=
  onRequest src tag .countersClear s

/-- SAVE (R164). -/
def execSave (src tag : Byte) (s : State) : Result :=
  onRequest src tag .save s

/-- RESTART (R165). -/
def execRestart (src tag : Byte) (s : State) : Result :=
  onRequest src tag .restart s

end Sys2Proof.Machine
end

