-- ==== Sys2Proof/Machine/EntryRequests.lean ====
section
/-! DEFINITION. The seven table requests (section 8.2), each a MGMT_REQ to the DX48 on the TRUNK port. -/

namespace Sys2Proof.Machine

/-- ENTRY_OPEN (R137). -/
def execEntryOpen (src tag table index : Byte) (s : State) : Result :=
  onRequest src tag (.entryOpen table index) s

/-- ENTRY_SET (R138, R139, R147, R148, R72). -/
def execEntrySet (src tag table index field : Byte) (value : BitVec 16) (presence : Byte) (s : State) : Result :=
  onRequest src tag (.entrySet table index field value presence) s

/-- ENTRY_GET (R157). -/
def execEntryGet (src tag table index field : Byte) (s : State) : Result :=
  onRequest src tag (.entryGet table index field) s

/-- ENTRY_COMMISSION (R141 to R144). -/
def execEntryCommission (src tag table index : Byte) (s : State) : Result :=
  onRequest src tag (.entryCommission table index) s

/-- ENTRY_RETIRE (R145). -/
def execEntryRetire (src tag table index : Byte) (s : State) : Result :=
  onRequest src tag (.entryRetire table index) s

/-- ENTRY_CLEAR (R140). -/
def execEntryClear (src tag table index : Byte) (s : State) : Result :=
  onRequest src tag (.entryClear table index) s

/-- ENTRY_TUNE (R72, R73). -/
def execEntryTune (src tag table index field : Byte) (value : BitVec 16) (s : State) : Result :=
  onRequest src tag (.entryTune table index field value) s

end Sys2Proof.Machine
end

