-- ==== Sys2Proof/Machine/FieldFrames.lean ====
section
/-! DEFINITION. The frames of the FIELD port: the rows SAMPLE, STATUS_FAN, STATUS_DAMPER, FIELD_FRAME and FIELD_MGMT_REQ, and
STANDARD_OR_REMOTE_FRAME of either port. Whatever row a frame is named by, the part decides it from its identifier and its
tables (log entry 11). -/

namespace Sys2Proof.Machine

/-- SAMPLE (R4, R130). -/
def execSample (hd : Header) (data : List Byte) (s : State) : Result :=
  onFrame .field (State.fieldReceive (hd.frame kindSample data)) s

/-- STATUS_FAN (R103 to R106, R131). -/
def execStatusFan (hd : Header) (data : List Byte) (s : State) : Result :=
  onFrame .field (State.fieldReceive (hd.frame kindStatus data)) s

/-- STATUS_DAMPER (R110, R131). -/
def execStatusDamper (hd : Header) (data : List Byte) (s : State) : Result :=
  onFrame .field (State.fieldReceive (hd.frame kindStatus data)) s

/-- FIELD_FRAME (R132). -/
def execFieldFrame (ident : BitVec 29) (data : List Byte) (s : State) : Result :=
  onFrame .field (State.fieldReceive (Frame.ofIdent ident data)) s

/-- FIELD_MGMT_REQ (R132). -/
def execFieldMgmtReq (hd : Header) (data : List Byte) (s : State) : Result :=
  onFrame .field (State.fieldReceive (hd.frame kindMgmtReq data)) s

/-- STANDARD_OR_REMOTE_FRAME (R181). -/
def execStandardOrRemoteFrame (port : PortId) (s : State) : Result := onFrame port (State.receiveUnreadable port) s

end Sys2Proof.Machine
end

