-- ==== Sys2Proof/Machine/Expiry.lean ====
section
/-! DEFINITION. The timers of the part: which of them run, which expiries are due, and what the passing of a quarter second
does (log entries 2 and 3). -/

namespace Sys2Proof.Machine

/-! ## The timer that an expiry names -/

/-- The silence timer of a point in AWAIT or LIVE (R11). -/
def State.silenceTimer (s : State) (i : Fin 64) : Timer :=
  match s.points[i] with
  | .inService _ d => if d.state.isFault then none else d.silence
  | _ => none

/-- The run-on timer of a zone (R35). -/
def State.runOnTimer (s : State) (z : Fin 8) : Timer :=
  match s.zones[z] with
  | .inService _ d => d.runOn
  | _ => none

/-- A timer of an IN_SERVICE fan, where the fan's state is the one it supervises. -/
def State.fanTimer (s : State) (i : Fin 24) (st : FanState → Bool) (timer : FanDyn → Timer) : Timer :=
  match s.fan? i with
  | some d => if st d.state then timer d else none
  | none => none

def State.pathTimer (s : State) (i : Fin 24) : Timer := s.fanTimer i (· == .pathWait) FanDyn.pathTimer
def State.startTimer (s : State) (i : Fin 24) : Timer := s.fanTimer i (· == .starting) FanDyn.startTimer
def State.fanStatusTimer (s : State) (i : Fin 24) : Timer := s.fanTimer i (· == .running) FanDyn.statusTimer
def State.stopTimer (s : State) (i : Fin 24) : Timer := s.fanTimer i (· == .stopping) FanDyn.stopTimer
def State.retryTimer (s : State) (i : Fin 24) : Timer := s.fanTimer i FanState.isFault FanDyn.retryTimer

/-- A timer of an IN_SERVICE damper, where the damper's state is the one it supervises. -/
def State.damperTimer (s : State) (i : Fin 24) (st : DamperState) (timer : DamperDyn → Timer) : Timer :=
  match s.damper? i with
  | some d => if d.state = st then timer d else none
  | none => none

def State.travelTimer (s : State) (i : Fin 24) : Timer := s.damperTimer i .travelling DamperDyn.travelTimer
def State.damperStatusTimer (s : State) (i : Fin 24) : Timer := s.damperTimer i .settled DamperDyn.statusTimer

/-- The recovery timer of a port that is OFF (R123). -/
def State.recoveryTimer (s : State) (p : PortId) : Timer := if (s.port p).on then none else (s.port p).recovery

/-! ## Expiries that are due -/

/-- The expiry events of the timers that have run out, in the order of this list only for want of another: which is taken
first is a free value (log entry 3). -/
def State.dueExpiries (s : State) : List Instr :=
  ((List.finRange 64).filter fun i => (s.silenceTimer i).due).map Instr.silenceTimerExpiry
  ++ ((List.finRange 8).filter fun z => (s.runOnTimer z).due).map Instr.runOnExpiry
  ++ (if s.minuteTimer = 0 then [Instr.minuteTimerExpiry] else [])
  ++ (if s.driveTimer = 0 then [Instr.drivePeriodExpiry] else [])
  ++ ((List.finRange 24).filter fun i => (s.pathTimer i).due).map Instr.pathTimerExpiry
  ++ ((List.finRange 24).filter fun i => (s.startTimer i).due).map Instr.startTimerExpiry
  ++ ((List.finRange 24).filter fun i => (s.fanStatusTimer i).due).map Instr.fanStatusTimerExpiry
  ++ ((List.finRange 24).filter fun i => (s.stopTimer i).due).map Instr.stopTimerExpiry
  ++ ((List.finRange 24).filter fun i => (s.retryTimer i).due).map Instr.retryTimerExpiry
  ++ ((List.finRange 24).filter fun i => (s.travelTimer i).due).map Instr.travelTimerExpiry
  ++ ((List.finRange 24).filter fun i => (s.damperStatusTimer i).due).map Instr.damperStatusTimerExpiry
  ++ ([PortId.field, PortId.trunk].filter fun p => (s.recoveryTimer p).due).map Instr.recoveryTimerExpiry

/-- The expiry that an idle part takes next, if one is due, and the state it meets: of several, the one at the free
value's place (log entry 3). -/
def State.nextExpiry (s : State) : Option (Instr × State) :=
  if s.works then
    match s.dueExpiries with
    | [] => none
    | [c] => some (c, s)
    | c :: cs =>
      some ((c :: cs).getD (Config.expiryOrder s.freeIndex % (cs.length + 1)) c, s.setFreeIndex (s.freeIndex + 1))
  else none

/-! ## A quarter second passes -/

def PointDyn.tick (d : PointDyn) : PointDyn := { d with silence := d.silence.tick }

def ZoneDyn.tick (d : ZoneDyn) : ZoneDyn := { d with runOn := d.runOn.tick }

def FanDyn.tick (d : FanDyn) : FanDyn :=
  { d with
    pathTimer := d.pathTimer.tick
    startTimer := d.startTimer.tick
    statusTimer := d.statusTimer.tick
    stopTimer := d.stopTimer.tick
    retryTimer := d.retryTimer.tick }

def DamperDyn.tick (d : DamperDyn) : DamperDyn :=
  { d with travelTimer := d.travelTimer.tick, statusTimer := d.statusTimer.tick }

def OutputDyn.tick : OutputDyn → OutputDyn
  | .fan d => .fan d.tick
  | .damper d => .damper d.tick

def Port.tick (p : Port) : Port := { p with recovery := p.recovery.tick }

/-- An entry's dynamic state, changed where it has one. -/
def Entry.mapDyn {φ δ : Type} (g : δ → δ) : Entry φ δ → Entry φ δ
  | .inService f d => .inService f (g d)
  | e => e

/-- A quarter second passes on every timer of a working part, and the arbiters choose where a transmitter is free (log
entries 2 and 6); a part that is held still does not change (R177). -/
def State.passTime (s : State) : State :=
  if s.works then
    { s with
      points := Vector.ofFn fun i => s.points[i].mapDyn PointDyn.tick
      zones := Vector.ofFn fun z => s.zones[z].mapDyn ZoneDyn.tick
      outputs := Vector.ofFn fun i => s.outputs[i].mapDyn OutputDyn.tick
      minuteTimer := s.minuteTimer - 1
      driveTimer := s.driveTimer - 1
      field := s.field.tick
      trunk := s.trunk.tick }.finish
  else s

end Sys2Proof.Machine
end

