-- ==== Sys2Proof/Machine/LineEvents.lean ====
section
/-! DEFINITION. The events of the lines (R122, R123). An end of an attempt acts when a frame is on offer at the port; otherwise nothing
happens (log entry 4). -/

namespace Sys2Proof.Machine

/-- The port is ON and one of its frames is on offer. -/
def Port.attempting (p : Port) : Bool := p.on && p.offering

/-- TRANSMIT_COMPLETE (R122). -/
def execTransmitComplete (port : PortId) (s : State) : Result :=
  onEvent (s.port port).attempting (State.completeOffer · port) s

/-- FAILED_ATTEMPT (R122); the 32nd abandons the frame (R123). -/
def execFailedAttempt (port : PortId) (s : State) : Result :=
  onEvent (s.port port).attempting (State.failOffer · port) s

/-- ARBITRATION_LOST (R122): not a failure; the frame stays on offer. -/
def execArbitrationLost (port : PortId) (s : State) : Result := onEvent (s.port port).attempting id s

/-- FRAME_ABANDON (R123): the frame on offer is abandoned, and the port goes OFF. -/
def execFrameAbandon (port : PortId) (s : State) : Result :=
  onEvent (s.port port).attempting (State.abandonOffer · port) s

/-- RECOVERY_TIMER_EXPIRY (R123): the port goes ON with its transmitter free. -/
def execRecoveryTimerExpiry (port : PortId) (s : State) : Result :=
  onEvent (s.recoveryTimer port).isSome (State.recover · port) s

end Sys2Proof.Machine
end

