-- ==== Sys2Proof/Machine/ReadRequests.lean ====
section
/-! DEFINITION. The read requests (section 8.4), each a MGMT_REQ to the DX48 on the TRUNK port. -/

namespace Sys2Proof.Machine

/-- READ_ZONE (R158). -/
def execReadZone (src tag index page : Byte) (s : State) : Result :=
  onRequest src tag (.readZone index page) s

/-- READ_POINT (R159). -/
def execReadPoint (src tag index page : Byte) (s : State) : Result :=
  onRequest src tag (.readPoint index page) s

/-- READ_OUTPUT (R160). -/
def execReadOutput (src tag index page : Byte) (s : State) : Result :=
  onRequest src tag (.readOutput index page) s

/-- READ_COUNTER (R161). -/
def execReadCounter (src tag cls number index : Byte) (s : State) : Result :=
  onRequest src tag (.readCounter cls number index) s

/-- READ_DEVICE (R162). -/
def execReadDevice (src tag page : Byte) (s : State) : Result :=
  onRequest src tag (.readDevice page) s

end Sys2Proof.Machine
end

