-- ==== Sys2Proof/Machine/StoreEvents.lean ====
section
/-! DEFINITION. The events of the store, the supply and the RESET line (R175 to R179). The three resets leave both transmitters free; the
arbiters choose at the end of the next event (log entry 6). -/

namespace Sys2Proof.Machine

/-- SAVE_COMPLETE (R175). -/
def execSaveComplete (matched : Bool) (s : State) : Result := onEvent s.saving (State.saveCompleted · matched) s

/-- RESTART_TAKES_EFFECT (R179): a pending RESTART, with its reply sent or lost (log entry 7). -/
def execRestartTakesEffect (s : State) : Result :=
  if s.works && s.restartPending then .next s.restarted else .next s

/-- Supply is applied to a part (R178): it starts, unless the RESET line holds it (log entry 9). -/
def State.powerUp (s : State) : State :=
  let t := s.breakSave.setPowered true
  if s.resetLine then t else t.startUp

/-- POWER_ON (R178). -/
def execPowerOn (s : State) : Result := .next s.powerUp

/-- SUPPLY_LOSS (R176): a SAVE in flight is broken off, and the part does nothing until power-on. -/
def execSupplyLoss (s : State) : Result := .next (s.breakSave.setPowered false)

/-- RESET_LINE_ASSERT (R177): the part is held still, and a SAVE in flight is broken off. -/
def execResetLineAssert (s : State) : Result := .next (s.breakSave.setResetLine true)

/-- The RESET line is released (R178): a part with supply starts. -/
def State.release (s : State) : State :=
  let t := s.breakSave.setResetLine false
  if s.powered then t.startUp else t

/-- RESET_LINE_RELEASE (R178). -/
def execResetLineRelease (s : State) : Result := .next s.release

end Sys2Proof.Machine
end

