-- ==== Sys2Proof/Machine/TimerEvents.lean ====
section
/-! DEFINITION. The timer expiries (R11, R35, R64, R70, R77, R101 to R111). An expiry acts when the timer it names is RUNNING, in the state
it supervises; otherwise nothing happens (log entry 4). -/

namespace Sys2Proof.Machine

/-- SILENCE_TIMER_EXPIRY (R11): a point in AWAIT or LIVE goes to FAULT with reason SILENT. -/
def execSilenceTimerExpiry (point : Fin 64) (s : State) : Result :=
  onEvent (s.silenceTimer point).isSome (State.updatePoint · point fun _ => PointDyn.silent) s

/-- RUN_ON_EXPIRY (R35, R36). -/
def execRunOnExpiry (zone : Fin 8) (s : State) : Result :=
  onEvent (s.runOnTimer zone).isSome (State.updateZone · zone (ZoneDyn.runOnExpired s.response)) s

/-- MINUTE_TIMER_EXPIRY (R64, R70): the minute timer runs at all times. -/
def execMinuteTimerExpiry (s : State) : Result := onEvent true State.minuteExpired s

/-- PURGE_CLOCK_WRAP (R70, R74): the wrap alone, where a minute expiry has not already made it (log entry 5). -/
def execPurgeClockWrap (clock : Fin 2) (s : State) : Result := onEvent true (State.wrapClock · clock) s

/-- DRIVE_PERIOD_EXPIRY (R77, R78). -/
def execDrivePeriodExpiry (s : State) : Result := onEvent true State.allocate s

/-- PATH_TIMER_EXPIRY (R102): a fan in PATH_WAIT is started under fire, and goes to FAULT with reason NO_PATH
otherwise. -/
def execPathTimerExpiry (output : Fin 24) (s : State) : Result :=
  onEvent (s.pathTimer output).isSome (State.pathExpired · output) s

/-- START_TIMER_EXPIRY (R103): a fan in STARTING goes to FAULT with reason START_FAIL. -/
def execStartTimerExpiry (output : Fin 24) (s : State) : Result :=
  onEvent (s.startTimer output).isSome (State.updateFan · output fun f => FanDyn.enterFault f .startFail) s

/-- FAN_STATUS_TIMER_EXPIRY (R104): a fan in RUNNING goes to FAULT with reason STATUS_SILENT. -/
def execFanStatusTimerExpiry (output : Fin 24) (s : State) : Result :=
  onEvent (s.fanStatusTimer output).isSome (State.updateFan · output fun f => FanDyn.enterFault f .statusSilent) s

/-- STOP_TIMER_EXPIRY (R105): a fan in STOPPING goes to FAULT with reason STOP_FAIL. -/
def execStopTimerExpiry (output : Fin 24) (s : State) : Result :=
  onEvent (s.stopTimer output).isSome (State.updateFan · output fun f => FanDyn.enterFault f .stopFail) s

/-- RETRY_TIMER_EXPIRY (R108). -/
def execRetryTimerExpiry (output : Fin 24) (s : State) : Result :=
  onEvent (s.retryTimer output).isSome (State.retryExpired · output) s

/-- TRAVEL_TIMER_EXPIRY (R111): a damper in TRAVELLING goes to FAULT with reason TRAVEL. -/
def execTravelTimerExpiry (output : Fin 24) (s : State) : Result :=
  onEvent (s.travelTimer output).isSome (State.updateDamper · output fun _ => DamperDyn.enterFault .travel) s

/-- DAMPER_STATUS_TIMER_EXPIRY (R111): a damper in SETTLED goes to FAULT with reason STATUS_SILENT. -/
def execDamperStatusTimerExpiry (output : Fin 24) (s : State) : Result :=
  onEvent (s.damperStatusTimer output).isSome
    (State.updateDamper · output fun _ => DamperDyn.enterFault .statusSilent) s

end Sys2Proof.Machine
end

