-- ==== Sys2Proof/Machine/TrunkFrames.lean ====
section
/-! DEFINITION. The frames of the TRUNK port that are not decoded requests: the rows PANEL_ALARM, PANEL_NORMAL, TIME,
TRUNK_FRAME and BAD_REQUEST. -/

namespace Sys2Proof.Machine

/-- PANEL_ALARM (R43, R133): the action byte is ALARM. -/
def execPanelAlarm (hd : Header) (rest : List Byte) (s : State) : Result :=
  onFrame .trunk (State.trunkReceive (hd.frame kindPanel (1 :: rest))) s

/-- PANEL_NORMAL (R44, R133): the action byte is NORMAL. -/
def execPanelNormal (hd : Header) (rest : List Byte) (s : State) : Result :=
  onFrame .trunk (State.trunkReceive (hd.frame kindPanel (2 :: rest))) s

/-- TIME (R65, R134). -/
def execTime (hd : Header) (data : List Byte) (s : State) : Result :=
  onFrame .trunk (State.trunkReceive (hd.frame kindTime data)) s

/-- TRUNK_FRAME (R133 to R135). -/
def execTrunkFrame (ident : BitVec 29) (data : List Byte) (s : State) : Result :=
  onFrame .trunk (State.trunkReceive (Frame.ofIdent ident data)) s

/-- BAD_REQUEST (R154): a request by its raw code and arguments; one that decodes after all is taken as it decodes. -/
def execBadRequest (src code tag : Byte) (args : List Byte) (s : State) : Result :=
  onFrame .trunk (State.takeEncoded src code tag args) s

end Sys2Proof.Machine
end

