-- ==== Sys2Proof/Machine/ZoneOutputRequests.lean ====
section
/-! DEFINITION. The zone and output requests (section 8.3), each a MGMT_REQ to the DX48 on the TRUNK port. -/

namespace Sys2Proof.Machine

/-- ZONE_RELEASE (R39, R40). -/
def execZoneRelease (src tag zone level : Byte) (s : State) : Result :=
  onRequest src tag (.zoneRelease zone level) s

/-- ZONE_SUPPRESS with setting 1 (R46). -/
def execZoneSuppressOn (src tag zone : Byte) (s : State) : Result :=
  onRequest src tag (.zoneSuppress zone 1) s

/-- ZONE_SUPPRESS with setting 0 (R47). -/
def execZoneSuppressOff (src tag zone : Byte) (s : State) : Result :=
  onRequest src tag (.zoneSuppress zone 0) s

/-- ZONE_FORCE (R48). -/
def execZoneForce (src tag zone level : Byte) (s : State) : Result :=
  onRequest src tag (.zoneForce zone level) s

/-- OUTPUT_HAND with setting 1 (R113, R114). -/
def execOutputHandOn (src tag output : Byte) (s : State) : Result :=
  onRequest src tag (.outputHand output 1) s

/-- OUTPUT_HAND with setting 0 (R113, R115). -/
def execOutputHandOff (src tag output : Byte) (s : State) : Result :=
  onRequest src tag (.outputHand output 0) s

/-- OUTPUT_RESET (R116). -/
def execOutputReset (src tag output : Byte) (s : State) : Result :=
  onRequest src tag (.outputReset output) s

end Sys2Proof.Machine
end

