-- ==== Sys2Proof/Machine/Dispatch.lean ====
section
/-! DEFINITION. One arm for each row of spec/opcode_table.json. -/

namespace Sys2Proof.Machine

def exec (i : Instr) (s : State) : Host.Outcome State Fault Refusal :=
  match i with
  | .sample hd data => Sys2Proof.Machine.execSample hd data s
  | .statusFan hd data => Sys2Proof.Machine.execStatusFan hd data s
  | .statusDamper hd data => Sys2Proof.Machine.execStatusDamper hd data s
  | .panelAlarm hd rest => Sys2Proof.Machine.execPanelAlarm hd rest s
  | .panelNormal hd rest => Sys2Proof.Machine.execPanelNormal hd rest s
  | .time hd data => Sys2Proof.Machine.execTime hd data s
  | .fieldFrame ident data => Sys2Proof.Machine.execFieldFrame ident data s
  | .fieldMgmtReq hd data => Sys2Proof.Machine.execFieldMgmtReq hd data s
  | .trunkFrame ident data => Sys2Proof.Machine.execTrunkFrame ident data s
  | .standardOrRemoteFrame port => Sys2Proof.Machine.execStandardOrRemoteFrame port s
  | .badRequest src code tag args => Sys2Proof.Machine.execBadRequest src code tag args s
  | .entryOpen src tag table index => Sys2Proof.Machine.execEntryOpen src tag table index s
  | .entrySet src tag table index field value presence => Sys2Proof.Machine.execEntrySet src tag table index field value presence s
  | .entryGet src tag table index field => Sys2Proof.Machine.execEntryGet src tag table index field s
  | .entryCommission src tag table index => Sys2Proof.Machine.execEntryCommission src tag table index s
  | .entryRetire src tag table index => Sys2Proof.Machine.execEntryRetire src tag table index s
  | .entryClear src tag table index => Sys2Proof.Machine.execEntryClear src tag table index s
  | .entryTune src tag table index field value => Sys2Proof.Machine.execEntryTune src tag table index field value s
  | .zoneRelease src tag zone level => Sys2Proof.Machine.execZoneRelease src tag zone level s
  | .zoneSuppressOn src tag zone => Sys2Proof.Machine.execZoneSuppressOn src tag zone s
  | .zoneSuppressOff src tag zone => Sys2Proof.Machine.execZoneSuppressOff src tag zone s
  | .zoneForce src tag zone level => Sys2Proof.Machine.execZoneForce src tag zone level s
  | .outputHandOn src tag output => Sys2Proof.Machine.execOutputHandOn src tag output s
  | .outputHandOff src tag output => Sys2Proof.Machine.execOutputHandOff src tag output s
  | .outputReset src tag output => Sys2Proof.Machine.execOutputReset src tag output s
  | .readZone src tag index page => Sys2Proof.Machine.execReadZone src tag index page s
  | .readPoint src tag index page => Sys2Proof.Machine.execReadPoint src tag index page s
  | .readOutput src tag index page => Sys2Proof.Machine.execReadOutput src tag index page s
  | .readCounter src tag cls number index => Sys2Proof.Machine.execReadCounter src tag cls number index s
  | .readDevice src tag page => Sys2Proof.Machine.execReadDevice src tag page s
  | .countersClear src tag => Sys2Proof.Machine.execCountersClear src tag s
  | .save src tag => Sys2Proof.Machine.execSave src tag s
  | .restart src tag => Sys2Proof.Machine.execRestart src tag s
  | .silenceTimerExpiry point => Sys2Proof.Machine.execSilenceTimerExpiry point s
  | .runOnExpiry zone => Sys2Proof.Machine.execRunOnExpiry zone s
  | .minuteTimerExpiry => Sys2Proof.Machine.execMinuteTimerExpiry s
  | .purgeClockWrap clock => Sys2Proof.Machine.execPurgeClockWrap clock s
  | .drivePeriodExpiry => Sys2Proof.Machine.execDrivePeriodExpiry s
  | .pathTimerExpiry output => Sys2Proof.Machine.execPathTimerExpiry output s
  | .startTimerExpiry output => Sys2Proof.Machine.execStartTimerExpiry output s
  | .fanStatusTimerExpiry output => Sys2Proof.Machine.execFanStatusTimerExpiry output s
  | .stopTimerExpiry output => Sys2Proof.Machine.execStopTimerExpiry output s
  | .retryTimerExpiry output => Sys2Proof.Machine.execRetryTimerExpiry output s
  | .travelTimerExpiry output => Sys2Proof.Machine.execTravelTimerExpiry output s
  | .damperStatusTimerExpiry output => Sys2Proof.Machine.execDamperStatusTimerExpiry output s
  | .transmitComplete port => Sys2Proof.Machine.execTransmitComplete port s
  | .failedAttempt port => Sys2Proof.Machine.execFailedAttempt port s
  | .arbitrationLost port => Sys2Proof.Machine.execArbitrationLost port s
  | .frameAbandon port => Sys2Proof.Machine.execFrameAbandon port s
  | .recoveryTimerExpiry port => Sys2Proof.Machine.execRecoveryTimerExpiry port s
  | .saveComplete matched => Sys2Proof.Machine.execSaveComplete matched s
  | .restartTakesEffect => Sys2Proof.Machine.execRestartTakesEffect s
  | .powerOn => Sys2Proof.Machine.execPowerOn s
  | .supplyLoss => Sys2Proof.Machine.execSupplyLoss s
  | .resetLineAssert => Sys2Proof.Machine.execResetLineAssert s
  | .resetLineRelease => Sys2Proof.Machine.execResetLineRelease s

end Sys2Proof.Machine
end

