-- ==== Sys2Proof/Machine/Step.lean ====
section
/-! DEFINITION. One step of the block: the command at the front of the queue, or, on an empty queue, an expiry that is due,
or the passing of a quarter second (log entry 2). -/

namespace Sys2Proof.Machine

/-- What the block does with an empty queue: the next expiry that is due happens; with none due, a quarter second
passes. -/
def State.idle (s : State) : Result :=
  match s.nextExpiry with
  | some (c, t) => exec c t
  | none => .next s.passTime

/-- One step: the command at the front of the queue is taken with the rest of the queue waiting. -/
def step (s : State) : Host.Outcome State Fault Refusal :=
  match s.pending with
  | c :: rest => exec c (s.setPending rest)
  | [] => s.idle

/-- The command that a word of the table spells, put at the front of the queue; the table gives no row bits, so no word
spells one, and the state is left as it is (log entry 19). -/
def State.withFetchWord (s : State) (nbits w : Nat) : State :=
  match decodeTableWord nbits w with
  | some c => s.setPending (c :: s.pending)
  | none => s

end Sys2Proof.Machine
end

