-- ==== Sys2Proof/Safety.lean ====
section
/-! DEFINITION. What counts as a sound part: the relations the manual says hold at all times, stated over the state, and the
words the claims use for what a command leaves unchanged. -/

namespace Sys2Proof.Machine

/-! ## What a claim says of the lines -/

/-- The frames of a queue with what each is, oldest first, whatever is on offer. -/
def Port.frames (p : Port) : List (Frame × Origin) := p.queue.map fun e => (e.frame, e.origin)

/-- Two ports that differ at most in which of their frames is on offer, and with how many failures. -/
abbrev Port.SameLine (p q : Port) : Prop :=
  q.on = p.on ∧ q.frames = p.frames ∧ q.recovery = p.recovery ∧ q.counters = p.counters

/-- The part works and hears the line of this port, and no RESTART takes effect at the end of the event. -/
abbrev State.Hears (s : State) (p : PortId) : Prop :=
  s.works = true ∧ (s.port p).on = true ∧ s.restartDue = false

/-- The part takes requests: no RESTART is pending, and its TRUNK queue has room for the reply. -/
abbrev State.Ready (s : State) : Prop :=
  s.Hears .trunk ∧ s.restartPending = false ∧ s.trunk.queue.length < trunkRoom

/-- The counters of a port that has received one more frame. -/
def PortCounters.heard (c : PortCounters) : PortCounters := { c with received := satInc c.received }

/-- The state as a block meets a frame of this port: the port has counted it as received (R121). -/
def State.heard (s : State) (p : PortId) : State := s.setPort p (s.port p).countReceived

/-- The MGMT_REPLY to a request of this code and tag from `dst` (R153, R119). -/
def State.replyFrame (s : State) (dst code tag : Byte) (result : Nat) (data : List Byte) : Frame :=
  s.originate 6 kindMgmtReply dst (code :: tag :: byte result :: data)

/-- Between `s` and `t` the port received one frame more, its own counters changed as given, and nothing else of it but
what is on offer. -/
abbrev Port.HeardOnly (p q : Port) (counters : PortCounters) : Prop :=
  q.on = p.on ∧ q.frames = p.frames ∧ q.recovery = p.recovery ∧ q.counters = counters

/-- Between `s` and `t` the port's queue took this frame as its newest, and its counters are as given. -/
abbrev Port.Joined (p q : Port) (f : Frame) (o : Origin) (counters : PortCounters) : Prop :=
  q.on = p.on ∧ q.frames = p.frames ++ [(f, o)] ∧ q.recovery = p.recovery ∧ q.counters = counters

/-- Between `s` and `t` the lines changed by one received request and one reply, added as the newest frame of the TRUNK
queue, and by what is on offer. -/
abbrev State.Answered (s t : State) (dst code tag : Byte) (result : Nat) (data : List Byte) : Prop :=
  s.field.SameLine t.field
    ∧ s.trunk.Joined t.trunk (s.replyFrame dst code tag result data) .reply s.trunk.counters.heard

/-- Between `p` and `q` a frame was to join the queue (R127): with room it is the newest frame; without, the port counts a
drop, and the frame is dropped when no frame of those looked at is less urgent, and otherwise joins in place of the newest of
the least urgent ones. Beside that the port's counters are as given. -/
abbrev Port.Met (p q : Port) (room : Prop) (looked : QEntry → Bool) (f : Frame) (o : Origin) (counters : PortCounters) :
    Prop :=
  q.on = p.on ∧ q.recovery = p.recovery
    ∧ (room → q.frames = p.frames ++ [(f, o)] ∧ q.counters = counters)
    ∧ (¬room → q.counters = { counters with droppedQueue := satInc counters.droppedQueue }
      ∧ ((∀ e ∈ p.queue, looked e = true → e.frame.prio ≤ f.prio) → q.frames = p.frames)
      ∧ ((∃ e ∈ p.queue, looked e = true ∧ f.prio < e.frame.prio) →
          ∃ (pre post : List QEntry) (x : QEntry), p.queue = pre ++ x :: post ∧ looked x = true
            ∧ (∀ e ∈ p.queue, looked e = true → e.frame.prio ≤ x.frame.prio)
            ∧ (∀ e ∈ post, looked e = true → e.frame.prio < x.frame.prio)
            ∧ q.frames = (pre ++ post).map (fun e => (e.frame, e.origin)) ++ [(f, o)]))

/-- Room in the TRUNK queue for one more frame (R125). -/
abbrev Port.TrunkHasRoom (p : Port) : Prop := p.queue.length < trunkRoom

/-- Room in the FIELD queue for one more forwarded frame (R127). -/
abbrev Port.FieldHasRoom (p : Port) : Prop := (p.queue.filter QEntry.isForwarded).length < fieldForwardedRoom

/-- A frame of this priority joins a queue: it has room, or holds a less urgent frame among those looked at (R127). -/
abbrev Port.Admits (p : Port) (room : Prop) (looked : QEntry → Bool) (prio : BitVec 3) : Prop :=
  room ∨ ∃ e ∈ p.queue, looked e = true ∧ prio < e.frame.prio

/-- Between `p` and `q` a frame was to join the TRUNK queue, whose every frame the full-queue rule looks at. -/
abbrev Port.MetTrunk (p q : Port) (f : Frame) (o : Origin) (counters : PortCounters) : Prop :=
  p.Met q p.TrunkHasRoom (fun _ => true) f o counters

/-- A frame that was received on the FIELD port is to go up (R127, R129): with hop count 15 it is counted as dropped for it;
otherwise it meets the TRUNK queue with its hop count one more, and is counted as forwarded when it joins. Beside that the
FIELD port's counters are as given. -/
abbrev State.Upward (s t : State) (f : Frame) (counters : PortCounters) : Prop :=
  let joins := s.trunk.Admits s.trunk.TrunkHasRoom (fun _ => true) f.prio
  (f.hop = 15 → s.trunk.SameLine t.trunk
      ∧ s.field.HeardOnly t.field { counters with droppedHop := satInc counters.droppedHop })
    ∧ (f.hop ≠ 15 → s.trunk.MetTrunk t.trunk (onward f) .forwarded s.trunk.counters
      ∧ (joins → s.field.HeardOnly t.field { counters with forwarded := satInc counters.forwarded })
      ∧ (¬joins → s.field.HeardOnly t.field counters))

/-- A frame was received on the FIELD port and did not go up. -/
abbrev State.StayedBelow (s t : State) : Prop :=
  s.trunk.SameLine t.trunk ∧ s.field.HeardOnly t.field s.field.counters.heard

/-- A frame that was received on the TRUNK port is to go down (R127, R129): with hop count 15 it is counted as dropped for it;
otherwise it meets the forwarded frames of the FIELD queue with its hop count one more, and is counted as forwarded when it
joins. Beside that the TRUNK port's counters are as given. -/
abbrev State.Downward (s t : State) (f : Frame) (counters : PortCounters) : Prop :=
  let joins := s.field.Admits s.field.FieldHasRoom QEntry.isForwarded f.prio
  (f.hop = 15 → s.field.SameLine t.field
      ∧ s.trunk.HeardOnly t.trunk { counters with droppedHop := satInc counters.droppedHop })
    ∧ (f.hop ≠ 15 →
      s.field.Met t.field s.field.FieldHasRoom QEntry.isForwarded (onward f) .forwarded s.field.counters
      ∧ (joins → s.trunk.HeardOnly t.trunk { counters with forwarded := satInc counters.forwarded })
      ∧ (¬joins → s.trunk.HeardOnly t.trunk counters))

/-- A frame was received on the TRUNK port and did not go down. -/
abbrev State.StayedAbove (s t : State) : Prop :=
  s.field.SameLine t.field ∧ s.trunk.HeardOnly t.trunk s.trunk.counters.heard

/-- Nothing of either line changed but what is on offer. -/
abbrev State.QuietLines (s t : State) : Prop := s.field.SameLine t.field ∧ s.trunk.SameLine t.trunk

/-- Between `s` and `t` nothing changed but the lines: every table, all dynamic state, every slot, clock and timer, the
store and the modes are as they were. -/
abbrev State.OnlyLines (s t : State) : Prop := t = { s with field := t.field, trunk := t.trunk }

/-- The command is a request that is answered DONE with these data, and takes `s` to `u` but for the lines. -/
abbrev State.Done (s : State) (c : Instr) (src code tag : Byte) (data : List Byte) (u : State) : Prop :=
  ∃ t, exec c s = .next t ∧ s.Answered t src code tag 0 data ∧ u.OnlyLines t

/-- The command is a request that is refused with this result and changes nothing but the lines (R155). -/
abbrev State.Refuses (s : State) (c : Instr) (src code tag : Byte) (r : ReplyCode) : Prop :=
  ∃ t, exec c s = .next t ∧ s.Answered t src code tag r.code r.data ∧ s.OnlyLines t

/-- The frame is the part's own DRIVE of this output. -/
def Origin.isDriveOf (o : Origin) (i : Fin 24) : Bool :=
  match o with
  | .drive j _ => j == i
  | _ => false

/-- The frames of a queue once a DRIVE of this output has joined them (R91): in the place of the one that waited, or newest. -/
def withDrive (frames : List (Frame × Origin)) (i : Fin 24) (run : Bool) (f : Frame) : List (Frame × Origin) :=
  if frames.any (·.2.isDriveOf i) then frames.map fun x => if x.2.isDriveOf i then (f, .drive i run) else x
  else frames ++ [(f, .drive i run)]

/-- Between `s` and `t` the DRIVE of an output with this payload joined the FIELD queue, if the output has a node, and nothing
else of the lines changed but what is on offer. -/
abbrev State.DriveJoined (s t : State) (i : Fin 24) (node : Option Byte) (run : Bool) (data : List Byte) : Prop :=
  s.trunk.SameLine t.trunk ∧ t.field.on = s.field.on ∧ t.field.recovery = s.field.recovery
    ∧ t.field.counters = s.field.counters
    ∧ t.field.frames = (match node with
        | some n => withDrive s.field.frames i run (s.originate 2 kindDrive n data)
        | none => s.field.frames)

/-- The slot of an output's trouble report once an event has set it, with the reason an event marked "raised" writes
(R166, R168). -/
def State.outputMarked (s : State) (i : Fin 24) (reason : Reason) : TroubleSlot :=
  { slot := s.outputSlots[i].slot.mark (s.onOffer (.output i)), lastReason := reason }

/-- What every one of the three resets leaves of the dynamic state, the ports, the timers, the slots and the counters (R24,
R55, R76, R77, R94, R118, R121, R170, R173, R178, R179). -/
abbrev State.JustReset (t : State) : Prop :=
  t.minuteTimer = 240 ∧ t.driveTimer = t.active.drivePeriod ∧ t.restartPending = false
    ∧ t.field = ⟨true, [], none, none, ⟨0, 0, 0, 0, 0, 0, 0⟩⟩ ∧ t.trunk = ⟨true, [], none, none, ⟨0, 0, 0, 0, 0, 0, 0⟩⟩
    ∧ t.counters = ⟨0, 0, 0, 0, 0, 0⟩
    ∧ (∀ j : Fin 2, t.clocks[j].counter = 0 ∧ t.clocks[j].staged = none)
    ∧ (∀ (i : Fin 64) (f : PointFields) (d : PointDyn), t.points[i] = .inService f d → d = f.initial)
    ∧ (∀ (z : Fin 8) (f : ZoneFields) (d : ZoneDyn), t.zones[z] = .inService f d → d = ZoneDyn.initial)
    ∧ (∀ (i : Fin 24) (f : OutputFields) (d : OutputDyn), t.outputs[i] = .inService f d → d = f.initial)
    ∧ (∀ z : Fin 8, t.zoneSlots[z] = ⟨t.zones[z].isInService, false, false⟩)
    ∧ (∀ i : Fin 64, t.pointSlots[i] = ⟨⟨false, false, false⟩, .none⟩)
    ∧ (∀ i : Fin 24, t.outputSlots[i] = ⟨⟨false, false, false⟩, .none⟩)
    ∧ t.deviceSlot = ⟨t.storeState != .valid, false, false⟩

/-! ## What a claim says of a zone (R30 to R38, R56) -/

/-- The ladder's relations in one zone: RUNNING, RELEASE_WAIT and release accepted exclude each other as R37 says; the held
set is filled only under suppression (R47); E is at least c but for suppressed fume conditions, which are held (R32); a level
whose condition has gone is in run-on or waits for release, and one whose condition is present is in neither (R33, R34). -/
abbrev ZoneDyn.Sound (d : ZoneDyn) : Prop :=
  (d.releaseWait = true → d.runOn = none ∧ d.accepted = false ∧ isFire d.level = true)
    ∧ (d.accepted = true → isFire d.level = true)
    ∧ (d.suppress = false → d.held1 = false ∧ d.held2 = false)
    ∧ (d.level < d.cond → d.cond ≤ 2 ∧ d.suppress = true ∧ (d.cond = 1 → d.held1 = true) ∧ (d.cond = 2 → d.held2 = true))
    ∧ (d.cond < d.level → d.runOn.isSome = true ∨ d.releaseWait = true)
    ∧ (d.level ≤ d.cond → d.runOn = none ∧ d.accepted = false ∧ d.releaseWait = false)

/-- Nothing that R56 watches differs between the two: the in-force set and so E, c, RELEASE_WAIT, release accepted, SHORT,
the suppress flag, whether the held set is empty, and TEST. -/
abbrev ZoneDyn.SameReport (d d' : ZoneDyn) : Prop :=
  d'.inForce = d.inForce ∧ d'.cond = d.cond ∧ d'.releaseWait = d.releaseWait ∧ d'.accepted = d.accepted
    ∧ d'.short = d.short ∧ d'.suppress = d.suppress ∧ (d'.held1 || d'.held2) = (d.held1 || d.held2)
    ∧ (d'.force = 0 ↔ d.force = 0)

/-- The report slot of a zone after an event that took its ladder from `d` to `d'`: set once when something that R56
watches has changed, and otherwise as it was. -/
def State.zoneSlotAfter (s : State) (z : Fin 8) (d d' : ZoneDyn) : Slot :=
  if d.SameReport d' then s.zoneSlots[z] else s.zoneSlots[z].mark (s.onOffer (.zone z))

/-- What the removal of E from a zone with c below E leaves (R38, R30). The levels below stay, and the highest of them is the
new E. When it is not above c, or has a run-on that is not 0 s, or is a fire level, the removal ends with it: c is taken in or
held when it is above (R31, R32), and when c is below, the run-on of the new E starts, or for a fire level with a run-on of 0 s
the wait for its release (R34, R36). A fume or FLAMMABLE level above c with a run-on of 0 s is removed in turn (R35). -/
inductive ZoneDyn.Removes (r : Response) : ZoneDyn → ZoneDyn → Prop where
  | ends (d d' : ZoneDyn) (rest : LevelSet) (below : Level)
    (hrest : rest = d.inForce.erase d.level) (hbelow : below = rest.highest)
    (hend : below ≤ d.cond ∨ r.runOnOf below ≠ 0 ∨ 4 ≤ below)
    (hd' : d' = { d with
      inForce := if below < d.cond ∧ (3 ≤ d.cond ∨ d.suppress = false) then rest.insert d.cond else rest
      held1 := d.held1 || decide (below < d.cond ∧ d.cond = 1 ∧ d.suppress = true)
      held2 := d.held2 || decide (below < d.cond ∧ d.cond = 2 ∧ d.suppress = true)
      runOn := if d.cond < below ∧ r.runOnOf below ≠ 0 then timerOf (r.runOnOf below) else none
      accepted := false
      releaseWait := decide (d.cond < below ∧ r.runOnOf below = 0) }) : ZoneDyn.Removes r d d'
  | chains (d d' : ZoneDyn) (rest : LevelSet) (below : Level)
    (hrest : rest = d.inForce.erase d.level) (hbelow : below = rest.highest)
    (hcond : d.cond < below) (hnow : r.runOnOf below = 0) (hlow : below < 4)
    (hnext : ZoneDyn.Removes r { d with inForce := rest, runOn := none, accepted := false, releaseWait := false } d') :
    ZoneDyn.Removes r d d'

/-- What becomes of a zone whose condition, formed afresh, is `c` (R28, R30): above E it is taken in (R31) or held (R32);
at E it undoes a run-on or a wait (R33); below E it starts the run-on of E with the seconds of the response table, while
the in-force set stays, and a run-on or a wait that stands goes on (R34). A run-on of 0 s expires at once (R35, R36). -/
abbrev ZoneDyn.Reforms (r : Response) (c : Level) (d d' : ZoneDyn) : Prop :=
  (c = d.cond → d' = d)
  ∧ (c ≠ d.cond →
    let e : ZoneDyn := { d with cond := c }
    (d.level < c → 3 ≤ c ∨ d.suppress = false →
        d' = { e with inForce := d.inForce.insert c, runOn := none, accepted := false, releaseWait := false })
    ∧ (d.level < c → c ≤ 2 → d.suppress = true →
        d' = { e with
          held1 := d.held1 || c == 1, held2 := d.held2 || c == 2
          runOn := none, accepted := false, releaseWait := false })
    ∧ (c = d.level → d' = { e with runOn := none, accepted := false, releaseWait := false })
    ∧ (c < d.level → d.runOn.isSome = true ∨ d.releaseWait = true → d' = e)
    ∧ (c < d.level → d.runOn = none → d.releaseWait = false →
        (r.runOnOf d.level ≠ 0 → d' = { e with runOn := timerOf (r.runOnOf d.level) })
        ∧ (r.runOnOf d.level = 0 → 4 ≤ d.level → d' = { e with releaseWait := true })
        ∧ (r.runOnOf d.level = 0 → d.level < 4 → e.Removes r d')))

/-- An event that formed the condition of a zone afresh (R27, R28): from a sound ladder the zone reforms to the greatest of
its inputs, and its report slot follows. -/
abbrev State.ZoneReformed (s t : State) (z : Fin 8) : Prop :=
  ∀ (f : ZoneFields) (d : ZoneDyn), s.zones[z] = .inService f d → d.Sound →
    ∃ d' : ZoneDyn, t.zones[z] = .inService f d' ∧ t.zoneSlots[z] = s.zoneSlotAfter z d d'
      ∧ d.Reforms s.response (max d.force (max (if d.latch then 5 else 0) (t.contributions z))) d'

/-! ## What a claim says of fire and of the tables -/

/-- The zone is in fire (R50): IN_SERVICE with E of 4 or 5. -/
abbrev State.ZoneInFire (s : State) (z : Fin 8) : Prop := ∃ f d, s.zones[z] = .inService f d ∧ 4 ≤ d.level

/-- The zone is IN_SERVICE, and a branch of it names the output, as its fan or its damper (R113, R145). -/
abbrev State.ZoneNames (s : State) (z : Fin 8) (i : Fin 24) : Prop :=
  ∃ f d, s.zones[z] = .inService f d ∧ ∃ k ∈ f.branches, f.fans[k] = i ∨ f.dampers[k] = some i

/-- An entry that is not VACANT has the node (R139). -/
abbrev State.PointHasNode (s : State) (i : Fin 64) (node : Byte) : Prop :=
  ∃ f, (s.points[i] = .draft f ∨ ∃ d, s.points[i] = .inService f d) ∧ f.node = some node

/-- An entry that is not VACANT has the node (R139). -/
abbrev State.OutputHasNode (s : State) (i : Fin 24) (node : Byte) : Prop :=
  ∃ f, (s.outputs[i] = .draft f ∨ ∃ d, s.outputs[i] = .inService f d) ∧ f.node = some node

/-- The node is that of another entry than the ones given, or of a copy of the device record (R139). -/
abbrev State.NodeInUse (s : State) (point : Option (Fin 64)) (output : Option (Fin 24)) (node : Byte) : Prop :=
  (∃ i, point ≠ some i ∧ s.PointHasNode i node) ∨ (∃ i, output ≠ some i ∧ s.OutputHasNode i node)
    ∨ s.active.node = node ∨ s.pendingRecord.node = node

/-- Every IN_SERVICE zone bound to the clock fits a period of it, each purge value as it is staged, or else in force (R73). -/
abbrev State.PeriodFits (s : State) (j : Fin 2) (period : Nat) : Prop :=
  ∀ (z : Fin 8) (f : ZoneFields) (d : ZoneDyn), s.zones[z] = .inService f d → f.clock = some j →
    d.stagedStart.getD f.purgeStart < period ∧ d.stagedDuration.getD f.purgeDuration ≤ period

/-! ## What a claim says of an allocation -/

/-- The flow a zone takes from a fan in the latest allocation: the sum of its shares over the branches that name it. -/
def State.drawnBy (s : State) (i : Fin 24) (z : Fin 8) : Nat :=
  match s.zones[z] with
  | .inService f d => ((f.branches.filter fun k => f.fans[k] == i).map fun k => d.shares[k]).sum
  | _ => 0

/-- The flow the zones take from a fan in the latest allocation: the sum of the shares of the branches that name it (R85). -/
def State.drawnFrom (s : State) (i : Fin 24) : Nat := ((List.finRange 8).map (s.drawnBy i)).sum

/-- A zone comes before another in the order of service (R79): its E is higher, or equal with a lower number. -/
abbrev State.Precedes (s : State) (y z : Fin 8) : Prop :=
  s.zoneLevel z < s.zoneLevel y ∨ (s.zoneLevel y = s.zoneLevel z ∧ y < z)

/-! ## What a claim says of time (log entry 2) -/

/-- The timer whose expiry the command is runs, in the state it supervises, and has nothing left (R11, R35, R64, R77, R102 to
R105, R108, R111, R123). No other command is such an expiry. -/
def State.RunOut (s : State) (c : Instr) : Prop :=
  let fan (i : Fin 24) (is : FanState → Prop) (timer : FanDyn → Timer) : Prop :=
    ∃ f d, s.outputs[i] = .inService f (.fan d) ∧ is d.state ∧ timer d = some 0
  let damper (i : Fin 24) (st : DamperState) (timer : DamperDyn → Timer) : Prop :=
    ∃ f d, s.outputs[i] = .inService f (.damper d) ∧ d.state = st ∧ timer d = some 0
  match c with
  | .silenceTimerExpiry i => ∃ f d, s.points[i] = .inService f d ∧ d.state.isFault = false ∧ d.silence = some 0
  | .runOnExpiry z => ∃ f d, s.zones[z] = .inService f d ∧ d.runOn = some 0
  | .minuteTimerExpiry => s.minuteTimer = 0
  | .drivePeriodExpiry => s.driveTimer = 0
  | .pathTimerExpiry i => fan i (· = .pathWait) FanDyn.pathTimer
  | .startTimerExpiry i => fan i (· = .starting) FanDyn.startTimer
  | .fanStatusTimerExpiry i => fan i (· = .running) FanDyn.statusTimer
  | .stopTimerExpiry i => fan i (· = .stopping) FanDyn.stopTimer
  | .retryTimerExpiry i => fan i (·.isFault = true) FanDyn.retryTimer
  | .travelTimerExpiry i => damper i .travelling DamperDyn.travelTimer
  | .damperStatusTimerExpiry i => damper i .settled DamperDyn.statusTimer
  | .recoveryTimerExpiry p => (s.port p).on = false ∧ (s.port p).recovery = some 0
  | _ => False

/-- Between `s` and `t` a quarter second passed: every timer that runs has a quarter second less, and nothing else changed
but what is on offer. -/
abbrev State.QuarterPassed (s t : State) : Prop :=
  let less (x : Timer) : Timer := x.map fun q => q - 1
  t = { s with
      points := t.points, zones := t.zones, outputs := t.outputs
      minuteTimer := s.minuteTimer - 1, driveTimer := s.driveTimer - 1, field := t.field, trunk := t.trunk }
    ∧ (∀ i : Fin 64, (s.points[i].isInService = false → t.points[i] = s.points[i])
        ∧ ∀ f d, s.points[i] = .inService f d → t.points[i] = .inService f { d with silence := less d.silence })
    ∧ (∀ z : Fin 8, (s.zones[z].isInService = false → t.zones[z] = s.zones[z])
        ∧ ∀ f d, s.zones[z] = .inService f d → t.zones[z] = .inService f { d with runOn := less d.runOn })
    ∧ (∀ i : Fin 24, (s.outputs[i].isInService = false → t.outputs[i] = s.outputs[i])
        ∧ (∀ f d, s.outputs[i] = .inService f (.fan d) → t.outputs[i] = .inService f (.fan
            { d with
              pathTimer := less d.pathTimer, startTimer := less d.startTimer, statusTimer := less d.statusTimer
              stopTimer := less d.stopTimer, retryTimer := less d.retryTimer }))
        ∧ ∀ f d, s.outputs[i] = .inService f (.damper d) → t.outputs[i] = .inService f (.damper
            { d with travelTimer := less d.travelTimer, statusTimer := less d.statusTimer }))
    ∧ ∀ p, (t.port p).on = (s.port p).on ∧ (t.port p).frames = (s.port p).frames
        ∧ (t.port p).counters = (s.port p).counters ∧ (t.port p).recovery = less (s.port p).recovery

/-! ## Counters (R173) -/

abbrev PortCounters.Bounded (c : PortCounters) : Prop :=
  c.received ≤ 65535 ∧ c.forwarded ≤ 65535 ∧ c.droppedQueue ≤ 65535 ∧ c.droppedHop ≤ 65535
    ∧ c.abandoned ≤ 65535 ∧ c.offEntries ≤ 65535 ∧ c.malformed ≤ 65535

abbrev DeviceCounters.Bounded (c : DeviceCounters) : Prop :=
  c.stranger ≤ 65535 ∧ c.badSamples ≤ 65535 ∧ c.blockedDrive ≤ 65535 ∧ c.ignoredPanel ≤ 65535
    ∧ c.ignoredTime ≤ 65535 ∧ c.mgmtDropped ≤ 65535

/-- The dynamic state of an IN_SERVICE entry. -/
def Entry.dyn? {φ δ : Type} : Entry φ δ → Option δ
  | .inService _ d => some d
  | _ => none

/-- The fields of an IN_SERVICE entry. -/
def Entry.served? {φ δ : Type} : Entry φ δ → Option φ
  | .inService f _ => some f
  | _ => none

/-- No counter exceeds 65535 (R173). -/
abbrev State.CountersBounded (s : State) : Prop :=
  s.field.counters.Bounded ∧ s.trunk.counters.Bounded ∧ s.counters.Bounded
    ∧ ∀ i : Fin 64, ∀ d ∈ s.points[i].dyn?, d.badCount ≤ 65535

/-! ## Ports and queues (R91, R122, R123, R125) -/

/-- How many of a port's frames are on offer. -/
def Port.offers (p : Port) : Nat := (p.queue.filter QEntry.onOffer).length + p.report.isSome.toNat

/-- The transmitter of a port (R122, R123): one frame on offer at most, with fewer than 32 failures; none while the port is
OFF, and the recovery timer runs exactly then. -/
abbrev Port.Sound (p : Port) : Prop :=
  p.offers ≤ 1 ∧ p.failures < attemptLimit ∧ (p.on = false → p.offers = 0) ∧ p.recovery.isSome = !p.on

/-- The frame is a DRIVE of the part's own. -/
def QEntry.isDrive (e : QEntry) : Bool :=
  match e.origin with
  | .drive _ _ => true
  | _ => false

/-- The queues keep their bounds (R91, R125): at most 24 frames for the TRUNK and no DRIVE of the part's own among them;
for the FIELD only forwarded frames, at most 16, and DRIVE frames, at most one for each output. A RESTART's reply is in the
TRUNK queue only while the RESTART is pending, and once at most (R165). -/
abbrev State.QueuesSound (s : State) : Prop :=
  s.trunk.queue.length ≤ trunkRoom ∧ (∀ e ∈ s.trunk.queue, e.isDrive = false)
    ∧ (∀ e ∈ s.field.queue, e.isForwarded = true ∨ e.isDrive = true)
    ∧ (s.field.queue.filter QEntry.isForwarded).length ≤ fieldForwardedRoom
    ∧ (∀ i : Fin 24, (s.field.queue.filter (·.isDriveOf i)).length ≤ 1)
    ∧ (s.trunk.queue.filter fun e => e.origin == .restartReply).length ≤ s.restartPending.toNat
    ∧ s.field.Sound ∧ s.trunk.Sound

/-! ## The zone ladder (R27, R32, R37, R47) -/

/-- Every IN_SERVICE zone keeps the ladder's relations. -/
abbrev State.LadderSound (s : State) : Prop := ∀ z : Fin 8, ∀ d ∈ s.zones[z].dyn?, d.Sound

/-- The condition of every IN_SERVICE zone is the greatest of its inputs (R27). -/
abbrev State.ConditionsFormed (s : State) : Prop :=
  ∀ z : Fin 8, ∀ d ∈ s.zones[z].dyn?, d.cond = d.formed (s.contributions z)

/-! ## The state machines of points, fans and dampers (R3, R97, R98) -/

/-- The value of the last calibration pair that is present: value_n (R3). -/
def PointFields.lastValue (f : PointFields) : Nat := (f.pairs.getLastD (f.raw2, f.val2)).2

/-- A point's grade, run counter and silence timer fit its state (R9, R11), the run counter is below the confirm count
(R21), the forward counter below forward every (R3), and the filter within the calibration values (R3, R16): up to
value_n × 2^k always, and from value_1 × 2^k in LIVE, with the filtered reading between value_1 and value_n. -/
abbrev PointDyn.Sound (f : PointFields) (d : PointDyn) : Prop :=
  (d.silence.isSome = !d.state.isFault) ∧ (d.state ≠ .live → d.grade = .clear ∧ d.run = 0)
    ∧ d.run < f.confirm ∧ d.forwardCount < max 1 f.forwardEvery
    ∧ d.acc ≤ f.lastValue * 2 ^ f.depth ∧ d.filtered ≤ f.lastValue
    ∧ (d.state = .live → f.val1 * 2 ^ f.depth ≤ d.acc ∧ f.val1 ≤ d.filtered)

/-- An IN_SERVICE point is sound; an entry out of service has no dynamic state. -/
def pointSound : Entry PointFields PointDyn → Bool
  | .inService f d => decide (d.Sound f)
  | _ => true

/-- A fan has at most one timer running, the one of its state (R97). -/
abbrev FanDyn.Sound (d : FanDyn) : Prop :=
  d.pathTimer.isSome = (d.state == .pathWait) ∧ d.startTimer.isSome = (d.state == .starting)
    ∧ d.statusTimer.isSome = (d.state == .running) ∧ d.stopTimer.isSome = (d.state == .stopping)
    ∧ d.retryTimer.isSome = d.state.isFault
    ∧ d.below < belowLimit ∧ (d.state ≠ .running → d.below = 0)
    ∧ (d.noPath = true → d.state = .starting ∨ d.state = .running ∨ d.state = .stopping)
    ∧ d.retryCount ≤ 255

/-- A damper's timers fit its state (R98). -/
abbrev DamperDyn.Sound (d : DamperDyn) : Prop :=
  d.travelTimer.isSome = (d.state == .travelling) ∧ d.statusTimer.isSome = (d.state == .settled)

/-- The machine of an output is of its entry's kind, and sound. -/
def OutputDyn.Sound (f : OutputFields) : OutputDyn → Bool
  | .fan d => decide (f.kind = .fan ∧ d.Sound)
  | .damper d => decide (f.kind = .damper ∧ d.Sound)

/-- An IN_SERVICE output's machine is sound; an entry out of service has none. -/
def outputSound : Entry OutputFields OutputDyn → Bool
  | .inService f d => d.Sound f
  | _ => true

/-- Every point and output machine is sound. -/
abbrev State.MachinesSound (s : State) : Prop :=
  (∀ i : Fin 64, pointSound s.points[i] = true) ∧ ∀ i : Fin 24, outputSound s.outputs[i] = true

/-! ## The ranges of the fields (R138, R184) -/

/-- Every field of a point entry is within its range (R184). -/
abbrev PointFields.InRange (f : PointFields) : Prop :=
  (∀ n ∈ f.node, 1 ≤ n.toNat ∧ n.toNat ≤ 254) ∧ 9 ≤ f.width ∧ f.width ≤ 16 ∧ f.raw1 ≤ 65535 ∧ f.raw2 ≤ 65535
    ∧ (∀ n ∈ f.raw3, n ≤ 65535) ∧ (∀ n ∈ f.raw4, n ≤ 65535) ∧ f.val1 ≤ 65535 ∧ f.val2 ≤ 65535 ∧ f.val3 ≤ 65535
    ∧ f.val4 ≤ 65535 ∧ f.depth ≤ 4 ∧ f.riseA ≤ 65535 ∧ f.fallA ≤ 65535 ∧ 1 ≤ f.levelA ∧ f.levelA ≤ 4
    ∧ (∀ n ∈ f.riseB, n ≤ 65535) ∧ (∀ n ∈ f.fallB, n ≤ 65535) ∧ (∀ l ∈ f.levelB, 1 ≤ l ∧ l ≤ 4)
    ∧ 1 ≤ f.confirm ∧ f.confirm ≤ 8 ∧ f.gain ≤ 255 ∧ 1 ≤ f.interval ∧ f.interval ≤ 60 ∧ 2 ≤ f.silenceMult
    ∧ f.silenceMult ≤ 8 ∧ f.faultLevel ≤ 3 ∧ f.forwardEvery ≤ 15

/-- Every field of a zone entry is within its range (R184). -/
abbrev ZoneFields.InRange (f : ZoneFields) : Prop :=
  1 ≤ f.count ∧ f.count ≤ 4 ∧ f.minFlow ≤ 65535 ∧ f.fumeLowFlow ≤ 65535 ∧ f.fumeHighFlow ≤ 65535 ∧ f.maxFlow ≤ 65535
    ∧ f.flammableFlow ≤ 65535 ∧ f.fireFlow ≤ 65535 ∧ f.purgeStart ≤ 239 ∧ 1 ≤ f.purgeDuration ∧ f.purgeDuration ≤ 240
    ∧ f.purgeFlow ≤ 65535

/-- Every field of an output entry is within its range (R184). -/
abbrev OutputFields.InRange (f : OutputFields) : Prop :=
  (∀ n ∈ f.node, 1 ≤ n.toNat ∧ n.toNat ≤ 254) ∧ 1 ≤ f.rated ∧ f.rated ≤ 65535 ∧ f.minStep ≤ 255 ∧ 50 ≤ f.proof
    ∧ f.proof ≤ 100 ∧ 5 ≤ f.startTimeout ∧ f.startTimeout ≤ 120 ∧ 2 ≤ f.statusTimeout ∧ f.statusTimeout ≤ 60
    ∧ 10 ≤ f.retryInterval ∧ f.retryInterval ≤ 600 ∧ 5 ≤ f.travelTimeout ∧ f.travelTimeout ≤ 120

/-- Every field of a window entry is within its range (R184). -/
abbrev WindowFields.InRange (f : WindowFields) : Prop := f.start ≤ 1439 ∧ f.stop ≤ 1439 ∧ f.floor ≤ 65535

/-- Every field of the response table is within its range (R184). -/
abbrev Response.InRange (r : Response) : Prop := ∀ l : Fin 5, r.runOn[l] ≤ 3600

/-- Every field of a copy of the device record is within its range (R184). -/
abbrev DeviceRecord.InRange (r : DeviceRecord) : Prop :=
  1 ≤ r.node.toNat ∧ r.node.toNat ≤ 254 ∧ r.panelNode.toNat ≤ 254 ∧ 1 ≤ r.drivePeriod ∧ r.drivePeriod ≤ 8
    ∧ r.fieldRate ∈ [125, 250, 500] ∧ r.trunkRate ∈ [125, 250, 500]

/-- Every staged tune of a zone is within its field's range (R73). -/
abbrev ZoneDyn.StagedInRange (d : ZoneDyn) : Prop :=
  (∀ n ∈ d.stagedStart, n ≤ 239) ∧ (∀ n ∈ d.stagedDuration, 1 ≤ n ∧ n ≤ 240) ∧ ∀ n ∈ d.stagedFlow, n ≤ 65535

/-! ## The tables (R139, R141 to R143) -/

/-- What the tables' relations are read from: a state's tables, or an image's. -/
structure Tables where
  points : Fin 64 → Option PointFields × Bool
  zones : Fin 8 → Option ZoneFields × Bool
  outputs : Fin 24 → Option OutputFields × Bool
  windows : Fin 8 → Option WindowFields × Bool
  nodes : List Byte

/-- An entry as the tables' relations see it: its fields, and whether it is IN_SERVICE. -/
def Entry.seen {φ δ : Type} (e : Entry φ δ) : Option φ × Bool := (e.fields?, e.isInService)

/-- The tables of a state; the part's own nodes are those of both copies of the device record. -/
def State.tables (s : State) : Tables where
  points i := s.points[i].seen
  zones z := s.zones[z].seen
  outputs i := s.outputs[i].seen
  windows w := s.windows[w].seen
  nodes := [s.active.node, s.pendingRecord.node]

/-- The tables of an image. -/
def Image.tables (img : Image) : Tables where
  points i := img.points[i].seen
  zones z := img.zones[z].seen
  outputs i := img.outputs[i].seen
  windows w := img.windows[w].seen
  nodes := [img.device.node]

/-- The node of a point entry that is not VACANT and has one. -/
def Tables.pointNode (t : Tables) (i : Fin 64) : Option Byte := (t.points i).1.bind (·.node)

/-- The node of an output entry that is not VACANT and has one. -/
def Tables.outputNode (t : Tables) (i : Fin 24) : Option Byte := (t.outputs i).1.bind (·.node)

/-- No two entries that are not VACANT share a node, and none uses a node of the part's own (R139). -/
abbrev Tables.NodesUnshared (t : Tables) : Prop :=
  (∀ i j : Fin 64, i ≠ j → t.pointNode i ≠ none → t.pointNode i ≠ t.pointNode j)
    ∧ (∀ i j : Fin 24, i ≠ j → t.outputNode i ≠ none → t.outputNode i ≠ t.outputNode j)
    ∧ (∀ (i : Fin 64) (j : Fin 24), t.pointNode i ≠ none → t.pointNode i ≠ t.outputNode j)
    ∧ (∀ i : Fin 64, ∀ n ∈ t.pointNode i, n ∉ t.nodes) ∧ (∀ i : Fin 24, ∀ n ∈ t.outputNode i, n ∉ t.nodes)

/-- The output is IN_SERVICE and of a kind. -/
def Tables.serves (t : Tables) (i : Fin 24) (k : OutputKind) : Bool :=
  (t.outputs i).2 && ((t.outputs i).1.any fun f => f.kind == k)

/-- Every branch of the zone names an IN_SERVICE fan, and an IN_SERVICE damper or none (R143). -/
def Tables.branchesServed (t : Tables) (f : ZoneFields) : Bool :=
  f.branches.all fun k =>
    t.serves f.fans[k] .fan && (match f.dampers[k] with
      | some j => t.serves j .damper
      | none => true)

/-- Every IN_SERVICE entry passes its commission checks but for the purge range (R141 to R144): the calibration, thresholds,
levels, node and zone of a point; the outputs and flows of a zone; the node of an output; the ends of a window. -/
abbrev Tables.Checked (t : Tables) : Prop :=
  (∀ i : Fin 64, (t.points i).2 = true → ∀ f ∈ (t.points i).1,
      f.calOrder = true ∧ f.calWidth = true ∧ f.threshOrder = true ∧ f.levelKind = true ∧ f.node ≠ none
        ∧ (t.zones f.zone).2 = true)
    ∧ (∀ z : Fin 8, (t.zones z).2 = true → ∀ f ∈ (t.zones z).1, t.branchesServed f = true ∧ f.flowOrder = true)
    ∧ (∀ i : Fin 24, (t.outputs i).2 = true → ∀ f ∈ (t.outputs i).1, f.node ≠ none)
    ∧ (∀ w : Fin 8, (t.windows w).2 = true → ∀ f ∈ (t.windows w).1, f.start ≠ f.stop)

/-- Every field of an entry that is not VACANT is within its range (R138, R184). -/
abbrev Tables.InRange (t : Tables) : Prop :=
  (∀ i : Fin 64, ∀ f ∈ (t.points i).1, f.InRange) ∧ (∀ z : Fin 8, ∀ f ∈ (t.zones z).1, f.InRange)
    ∧ (∀ i : Fin 24, ∀ f ∈ (t.outputs i).1, f.InRange) ∧ ∀ w : Fin 8, ∀ f ∈ (t.windows w).1, f.InRange

/-- The staged tunes are within range, and each purge clock counts within its period (R70, R73). -/
abbrev State.ClocksInRange (s : State) : Prop :=
  (∀ z : Fin 8, ∀ d ∈ s.zones[z].dyn?, d.StagedInRange)
    ∧ ∀ j : Fin 2, 5 ≤ s.clocks[j].period ∧ s.clocks[j].period ≤ 240 ∧ s.clocks[j].counter < s.clocks[j].period
        ∧ ∀ n ∈ s.clocks[j].staged, 5 ≤ n ∧ n ≤ 240

/-- The purge values of an IN_SERVICE zone fit its clock, now and after its next wrap (R73, R75). -/
abbrev State.PurgeFits (s : State) : Prop :=
  ∀ z : Fin 8, ∀ f ∈ s.zones[z].served?, ∀ d ∈ s.zones[z].dyn?, ∀ j ∈ f.clock,
    fits f.purgeStart f.purgeDuration s.clocks[j].period = true
      ∧ fits (f.adopt d).purgeStart (f.adopt d).purgeDuration s.clocks[j].next = true

/-- The purge values of an image fit its periods. -/
abbrev Image.PurgeFits (img : Image) : Prop :=
  ∀ z : Fin 8, ∀ f ∈ img.zones[z].served?, ∀ j ∈ f.clock,
    fits f.purgeStart f.purgeDuration img.periods[j] = true

/-- An image is consistent: what R178 says of the tables restored from it. -/
abbrev Image.Consistent (img : Image) : Prop :=
  img.tables.Checked ∧ img.tables.NodesUnshared ∧ img.tables.InRange ∧ img.PurgeFits
    ∧ img.response.InRange ∧ img.device.InRange
    ∧ ∀ j : Fin 2, 5 ≤ img.periods[j] ∧ img.periods[j] ≤ 240

/-- The image in the store, if it holds a whole one. -/
def StoreContent.image? : StoreContent → Option Image
  | .image img _ => some img
  | _ => none

/-- The tables are consistent, and so is every image the part holds or is writing (R141, R143, R178). -/
abbrev State.TablesConsistent (s : State) : Prop :=
  s.tables.Checked ∧ s.tables.NodesUnshared ∧ s.tables.InRange ∧ s.PurgeFits ∧ s.ClocksInRange
    ∧ s.response.InRange ∧ s.active.InRange ∧ s.pendingRecord.InRange
    ∧ (∀ img ∈ s.store.image?, img.Consistent) ∧ (∀ v ∈ s.save, v.image.Consistent)

end Sys2Proof.Machine
end

