-- ==== Sys2Proof/Certificates/Slice0/Obligations.lean ====
section
/-! DEFINITION. The statements about the DX48, grouped as the manual's chapters are. Each docstring names the rules it
formalises; the words `Hears`, `Ready`, `Answered`, `Upward` and the like are defined in Safety.lean. -/

open Sys2Proof Sys2Proof.Machine

/-! ## The block and its queue of commands -/

/-- The command at the front of the queue is what a step runs, with the rest of the queue waiting. The queue is the
model's interface (log entry 19). -/
def Obligations.StepTakesTheFrontCommand : Prop :=
  ∀ (c : Instr) (rest : List Instr) (s : State), step (s.setPending (c :: rest)) = exec c (s.setPending rest)

/-- Every command answers a next state in every state, and leaves the queue of waiting commands as it was. The totality is
the model's: the manual gives the part no event that stops it. -/
def Obligations.CommandsCompleteAndKeepTheQueue : Prop :=
  ∀ (c : Instr) (s : State), ∃ t, exec c s = .next t ∧ t.pending = s.pending

/-- A part without supply, or with its RESET line asserted, takes nothing but supply and RESET line events, and its time
stands still (R177, log entry 9); a port that is OFF sees no frame of its line (R121). -/
def Obligations.HeldPartAndOffPortTakeNothing : Prop :=
  (∀ (c : Instr) (s : State), s.works = false →
      c ∉ [.powerOn, .supplyLoss, .resetLineAssert, .resetLineRelease] → exec c s = .next s)
  ∧ (∀ s : State, s.works = false → s.pending = [] → step s = .next s)
  ∧ (∀ (s : State) (hd : Header) (ident : BitVec 29) (data : List Byte), s.field.on = false →
      ∀ c ∈ [Instr.sample hd data, .statusFan hd data, .statusDamper hd data, .fieldFrame ident data,
        .fieldMgmtReq hd data, .standardOrRemoteFrame .field], exec c s = .next s)
  ∧ (∀ (s : State) (hd : Header) (ident : BitVec 29) (data : List Byte) (src code tag : Byte), s.trunk.on = false →
      (∀ c ∈ [Instr.panelAlarm hd data, .panelNormal hd data, .time hd data, .trunkFrame ident data,
        .badRequest src code tag data, .standardOrRemoteFrame .trunk], exec c s = .next s)
      ∧ ∀ r c, Request.instr src tag r = some c → exec c s = .next s)

/-! ## Chapter 1: detector points -/

/-- SAMPLE: a well-formed sample from the node of an IN_SERVICE point is taken by that point alone. Its zone is touched
only when the contribution changes, and then its condition is formed afresh (R22, R27, R28), its trouble slot only when it
enters or leaves FAULT, and the device-wide bad-sample counter only by a bad sample; everything else but the lines is as
it was (R4, R5, R9, R10, R22). -/
def Obligations.SampleTakenByItsPoint : Prop :=
  ∀ (s : State) (hd : Header) (data : List Byte) (i : Fin 64) (f : PointFields) (d : PointDyn) (v : SamplePayload),
    s.Hears .field → (s.restartPending = false ∨ s.trunk.queue.length < trunkRoom) →
    s.pointAt hd.src = some i → s.points[i] = .inService f d → samplePayload? data = some v →
    let d' := d.takeSample f v.raw v.warm v.sensorFault
    ∃ t, exec (.sample hd data) s = .next t
      ∧ t = { s with
          points := s.points.set i (.inService f d')
          zones := t.zones, zoneSlots := t.zoneSlots, pointSlots := t.pointSlots
          counters := if classify f v.raw v.warm v.sensorFault = .bad
            then { s.counters with badSamples := satInc s.counters.badSamples } else s.counters
          field := t.field, trunk := t.trunk }
      ∧ (∀ z : Fin 8, z ≠ f.zone ∨ contribution f d' = contribution f d →
          t.zones[z] = s.zones[z] ∧ t.zoneSlots[z] = s.zoneSlots[z])
      ∧ (contribution f d' ≠ contribution f d → s.ZoneReformed t f.zone)
      ∧ (∀ j : Fin 64, j ≠ i ∨ d'.state.isFault = d.state.isFault → t.pointSlots[j] = s.pointSlots[j])
      ∧ (d'.state.isFault ≠ d.state.isFault →
          t.pointSlots[i] = { slot := s.pointSlots[i].slot.mark (s.onOffer (.point i)),
                              lastReason := if d'.state.isFault then .sensor else s.pointSlots[i].lastReason })

/-- What one sample does to the point that takes it, by its class (R4, R5, R7 to R10), with the filter of R15: it is
started by the sample that takes the point to LIVE, updated by each later valid sample, and left alone by the other
classes. A valid sample is graded from the grade and run it meets in LIVE, and from CLEAR and 0 otherwise (R7, R8, R10,
R21). -/
def Obligations.FilterFollowsValidSamples : Prop :=
  ∀ (f : PointFields) (d : PointDyn) (raw : Nat) (warm sensorFault : Bool),
    let d' := d.takeSample f raw warm sensorFault
    let v := (calibrate f raw).value
    let k := f.depth
    let c := classify f raw warm sensorFault
    d'.lastRaw = raw
    ∧ (c = .valid ↔ sensorFault = false ∧ warm = false ∧ raw < 2 ^ f.width)
    ∧ (c = .valid →
        d'.state = .live ∧ d'.silence = timerOf (f.interval * f.silenceMult)
        ∧ d'.acc = (if d.state = .live then d.acc - d.acc / 2 ^ k + v else v * 2 ^ k)
        ∧ d'.filtered = (if k = 0 then d'.acc else (d'.acc + 2 ^ (k - 1)) / 2 ^ k)
        ∧ (d.state ≠ .live → d'.filtered = v) ∧ (k = 0 → d'.filtered = v)
        ∧ d'.overMark = (calibrate f raw).overMark ∧ d'.underMark = (calibrate f raw).underMark
        ∧ (d.state = .live → (d'.grade, d'.run) = gradeStep f d'.overMark d'.filtered d.grade d.run)
        ∧ (d.state ≠ .live → (d'.grade, d'.run) = gradeStep f d'.overMark d'.filtered .clear 0))
    ∧ (c ≠ .valid → d'.acc = d.acc ∧ d'.filtered = d.filtered ∧ d'.overMark = d.overMark ∧ d'.underMark = d.underMark)
    ∧ (c = .bad → d'.state = d.state ∧ d'.grade = d.grade ∧ d'.run = d.run ∧ d'.silence = d.silence
        ∧ d'.badCount = min (d.badCount + 1) 65535)
    ∧ (c = .warmUp → d'.state = d.state ∧ d'.grade = d.grade ∧ d'.run = d.run
        ∧ d'.silence = (if d.state.isFault then d.silence else timerOf (f.interval * f.silenceMult)))
    ∧ (c = .sensorFault → d.state.isFault = true →
        d'.state = d.state ∧ d'.grade = d.grade ∧ d'.run = d.run ∧ d'.silence = d.silence)
    ∧ (c = .sensorFault → d.state.isFault = false →
        d'.state = .fault .sensor ∧ d'.grade = .clear ∧ d'.run = 0 ∧ d'.silence = none)
    ∧ (c ≠ .bad → d'.badCount = d.badCount)

/-- The reading of a raw count between the first and the last calibration pair (R13): the value of the pair it equals, or
the rounded point of the one segment it lies in, which is between that segment's values. Below the first pair it is that
pair's value, marked UNDER, above the last pair that pair's value, marked OVER, and no mark is set in between (R14). -/
def Obligations.CalibrationInterpolates : Prop :=
  ∀ f : PointFields, f.calOrder = true →
    (∀ p ∈ f.pairs, (calibrate f p.1).value = p.2)
    ∧ (∀ (p q : Nat × Nat) (raw : Nat), [p, q] <:+: f.pairs → p.1 < raw → raw < q.1 →
        let num := (raw - p.1) * (q.2 - p.2)
        let den := q.1 - p.1
        (calibrate f raw).value = p.2 + (2 * num + den) / (2 * den)
        ∧ p.2 ≤ (calibrate f raw).value ∧ (calibrate f raw).value ≤ q.2)
    ∧ (∀ raw : Nat, f.raw1 ≤ raw → (∃ p ∈ f.pairs, raw ≤ p.1) →
        (∃ p ∈ f.pairs, p.1 = raw) ∨ ∃! pq : (Nat × Nat) × (Nat × Nat),
          [pq.1, pq.2] <:+: f.pairs ∧ pq.1.1 < raw ∧ raw < pq.2.1)
    ∧ (∀ raw : Nat, f.val1 ≤ (calibrate f raw).value ∧ (calibrate f raw).value ≤ f.lastValue
        ∧ (raw < f.raw1 → calibrate f raw = ⟨f.val1, false, true⟩)
        ∧ ((∀ p ∈ f.pairs, p.1 < raw) → calibrate f raw = ⟨f.lastValue, true, false⟩)
        ∧ (f.raw1 ≤ raw → (∃ p ∈ f.pairs, raw ≤ p.1) →
            (calibrate f raw).overMark = false ∧ (calibrate f raw).underMark = false))

/-- How a valid sample grades the point (R18, R19, R20), with the candidate of R17. The counter of a run is below the
confirm count whenever a sample arrives (R21). -/
def Obligations.GradeRisesAndFalls : Prop :=
  ∀ (f : PointFields) (ov : Bool) (v run : Nat), run < f.confirm →
    let cand := candidate f ov v
    let below (t : Nat) : Prop := ov = false ∧ v < t
    (cand = .b ↔ ∃ b, f.riseB = some b ∧ (ov = true ∨ b ≤ v))
    ∧ (cand = .a ↔ ¬(∃ b, f.riseB = some b ∧ (ov = true ∨ b ≤ v)) ∧ (ov = true ∨ f.riseA ≤ v))
    ∧ (cand = .clear → gradeStep f ov v .clear run = (.clear, 0))
    ∧ (cand ≠ .clear → run + 1 < f.confirm → gradeStep f ov v .clear run = (.clear, run + 1))
    ∧ (cand ≠ .clear → run + 1 = f.confirm → gradeStep f ov v .clear run = (cand, 0))
    ∧ (below f.fallA → gradeStep f ov v .a run = (.clear, 0))
    ∧ (¬below f.fallA → cand = .b → run + 1 < f.confirm → gradeStep f ov v .a run = (.a, run + 1))
    ∧ (¬below f.fallA → cand = .b → run + 1 = f.confirm → gradeStep f ov v .a run = (.b, 0))
    ∧ (¬below f.fallA → cand ≠ .b → gradeStep f ov v .a run = (.a, 0))
    ∧ (below f.fallA → gradeStep f ov v .b run = (.clear, 0))
    ∧ (¬below f.fallA → (∃ b, f.fallB = some b ∧ below b) → gradeStep f ov v .b run = (.a, 0))
    ∧ (¬below f.fallA → ¬(∃ b, f.fallB = some b ∧ below b) → gradeStep f ov v .b run = (.b, 0))

/-- The filtered reading stays between the first and the last calibration value (R16): the accumulator stays between
value_1 × 2^k and value_n × 2^k under every update by a reading in that range, and the filtered reading follows. -/
def Obligations.FilterStaysInRange : Prop :=
  ∀ k lo hi acc v : Nat, lo ≤ v → v ≤ hi → lo * 2 ^ k ≤ acc → acc ≤ hi * 2 ^ k →
    (lo * 2 ^ k ≤ filterStep k acc v ∧ filterStep k acc v ≤ hi * 2 ^ k)
    ∧ (lo ≤ filterOutput k acc ∧ filterOutput k acc ≤ hi)
    ∧ filterOutput k (filterStart k v) = v
    ∧ (filterStep k acc v = acc ↔ v * 2 ^ k ≤ acc ∧ acc < v * 2 ^ k + 2 ^ k)

/-- SAMPLE: which samples go up (R130, R6): from an IN_SERVICE point a well-formed one that is due, changed or bad, and
every malformed one; from a point in DRAFT every one; from any other source every one, counted as a stranger. One that has
come with hop count 15 is dropped and counted instead (R129), and one that meets a full TRUNK queue is decided by the
full-queue rule (R127). A malformed sample and one that no IN_SERVICE point takes change nothing else. -/
def Obligations.SamplesForwardedByIndication : Prop :=
  ∀ (s : State) (hd : Header) (data : List Byte),
    s.Hears .field → (s.restartPending = false ∨ s.trunk.TrunkHasRoom) →
    let fr := hd.frame kindSample data
    let heard := s.field.counters.heard
    (∀ (i : Fin 64) (f : PointFields) (d : PointDyn) (v : SamplePayload), s.pointAt hd.src = some i →
        s.points[i] = .inService f d → samplePayload? data = some v →
        let d' := d.takeSample f v.raw v.warm v.sensorFault
        let due : Prop := 1 ≤ f.forwardEvery ∧ d.forwardCount + 1 = f.forwardEvery
        let goesUp : Prop := due ∨ d'.state.code ≠ d.state.code ∨ d'.grade ≠ d.grade
          ∨ classify f v.raw v.warm v.sensorFault = .bad
        d'.forwardCount = (if f.forwardEvery = 0 then d.forwardCount
          else if d.forwardCount + 1 = f.forwardEvery then 0 else d.forwardCount + 1)
        ∧ ∃ t, exec (.sample hd data) s = .next t ∧ (goesUp → s.Upward t fr heard) ∧ (¬goesUp → s.StayedBelow t))
    ∧ (∀ i, s.pointAt hd.src = some i → samplePayload? data = none →
        ∃ t, exec (.sample hd data) s = .next t ∧ s.OnlyLines t
          ∧ s.Upward t fr { heard with malformed := satInc heard.malformed })
    ∧ (s.pointAt hd.src = none → s.isPointNode hd.src = true →
        ∃ t, exec (.sample hd data) s = .next t ∧ s.OnlyLines t ∧ s.Upward t fr heard)
    ∧ (s.isPointNode hd.src = false →
        ∃ t, exec (.sample hd data) s = .next t
          ∧ (s.setCounters { s.counters with stranger := satInc s.counters.stranger }).OnlyLines t ∧ s.Upward t fr heard)

/-- SILENCE_TIMER_EXPIRY: a point in AWAIT or LIVE whose silence timer runs goes to FAULT with reason SILENT: grade CLEAR,
run counter 0, timer stopped, filter and marks kept, trouble slot set (R9, R11). Its zone is touched only when the
contribution changes, and then its condition is formed afresh (R22, R27, R28). The expiry is taken whenever the timer runs
(the model's choice, log entry 4). -/
def Obligations.SilenceTakesThePointToFault : Prop :=
  ∀ (s : State) (i : Fin 64) (f : PointFields) (d : PointDyn),
    s.works = true → s.restartDue = false → s.points[i] = .inService f d → d.state.isFault = false →
    d.silence.isSome = true →
    let d' : PointDyn := { d with state := .fault .silent, grade := .clear, run := 0, silence := none }
    ∃ t, exec (.silenceTimerExpiry i) s = .next t ∧ s.QuietLines t
      ∧ t = { s with
          points := s.points.set i (.inService f d')
          pointSlots := s.pointSlots.set i
            { slot := s.pointSlots[i].slot.mark (s.onOffer (.point i)), lastReason := .silent }
          zones := t.zones, zoneSlots := t.zoneSlots, field := t.field, trunk := t.trunk }
      ∧ (∀ z : Fin 8, z ≠ f.zone ∨ contribution f d = f.faultLevel →
          t.zones[z] = s.zones[z] ∧ t.zoneSlots[z] = s.zoneSlots[z])
      ∧ (contribution f d ≠ f.faultLevel → s.ZoneReformed t f.zone)
      ∧ contribution f d' = f.faultLevel

/-! ## Chapter 2: the zone ladder -/

/-- RUN_ON_EXPIRY: a fire level without consent waits in RELEASE_WAIT; any other level is taken out, and the zone is
evaluated with the E below it: c is taken in when it is above, or held back when the zone is suppressed, and the run-on of
the new E starts when c is below it (R35, R36, R38, R32). A run-on of 0 s of the new E chains on. The zone's slot is set,
and nothing else changes. The expiry is taken whenever the timer runs (the model's choice, log entry 4). -/
def Obligations.RunOnExpiryRemovesOrWaits : Prop :=
  ∀ (s : State) (z : Fin 8) (f : ZoneFields) (d : ZoneDyn),
    s.works = true → s.restartDue = false → s.zones[z] = .inService f d → d.Sound → d.runOn.isSome = true →
    ∃ (t : State) (d' : ZoneDyn), exec (.runOnExpiry z) s = .next t ∧ s.QuietLines t
      ∧ t = { s with
          zones := s.zones.set z (.inService f d')
          zoneSlots := s.zoneSlots.set z (s.zoneSlots[z].mark (s.onOffer (.zone z)))
          field := t.field, trunk := t.trunk }
      ∧ (4 ≤ d.level → d.accepted = false → d' = { d with runOn := none, releaseWait := true })
      ∧ (d.level < 4 ∨ d.accepted = true → d'.level < d.level ∧ d.Removes s.response d')

/-- PANEL_ALARM: an accepted ALARM latches each IN_SERVICE zone of its mask whose latch is clear, and that zone stands at
c = 5 and E = 5 with no run-on, consent or RELEASE_WAIT, and its report slot is set when something that R56 watches has
changed (log entry 8); a latched zone, a zone out of the mask and an entry out of service are untouched, and so is
everything else but the lines (R43, R133). -/
def Obligations.PanelAlarmLatchesItsZones : Prop :=
  ∀ (s : State) (hd : Header) (mask : Byte),
    s.Hears .trunk → s.LadderSound → s.ConditionsFormed → hd.dst = s.active.node →
    (s.active.panelNode = 0 ∨ hd.src = s.active.panelNode) →
    ∃ t, exec (.panelAlarm hd [mask]) s = .next t ∧ s.StayedAbove t
      ∧ t = { s with zones := t.zones, zoneSlots := t.zoneSlots, field := t.field, trunk := t.trunk }
      ∧ ∀ z : Fin 8,
        (∀ f d, s.zones[z] = .inService f d → mask.getLsbD z.val = true → d.latch = false →
          ∃ d', t.zones[z] = .inService f d' ∧ t.zoneSlots[z] = s.zoneSlotAfter z d d' ∧ d'.level = 5
            ∧ d' = { d with latch := true, cond := 5, inForce := d.inForce.insert 5, runOn := none, accepted := false,
                            releaseWait := false })
        ∧ ((s.zones[z].isInService = false ∨ mask.getLsbD z.val = false ∨ (∃ d ∈ s.zones[z].dyn?, d.latch = true)) →
          t.zones[z] = s.zones[z] ∧ t.zoneSlots[z] = s.zoneSlots[z])

/-- PANEL_NORMAL: an accepted NORMAL clears the latch of each IN_SERVICE zone of its mask and forms its condition from the
other inputs; a zone at E = 5 whose condition is then below 5 has its consent: level 5 leaves at once when it waits for
release, and otherwise the consent is kept while the run-on runs, which starts with this event when the condition was
present (R44). Its report slot is set once when something that R56 watches has changed (log entry 8). A zone at another E,
out of the mask or out of service keeps its ladder. -/
def Obligations.PanelNormalGivesConsent : Prop :=
  ∀ (s : State) (hd : Header) (mask : Byte),
    s.Hears .trunk → s.LadderSound → s.ConditionsFormed → hd.dst = s.active.node →
    (s.active.panelNode = 0 ∨ hd.src = s.active.panelNode) →
    ∃ t, exec (.panelNormal hd [mask]) s = .next t ∧ s.StayedAbove t
      ∧ t = { s with zones := t.zones, zoneSlots := t.zoneSlots, field := t.field, trunk := t.trunk }
      ∧ ∀ z : Fin 8,
        (∀ f d, s.zones[z] = .inService f d → mask.getLsbD z.val = true →
          let c := max d.force (s.contributions z)
          ∃ d', t.zones[z] = .inService f d' ∧ t.zoneSlots[z] = s.zoneSlotAfter z d d' ∧ d'.latch = false
            ∧ (d.level ≠ 5 → d' = d)
            ∧ (d.level = 5 → d'.cond = c)
            ∧ (d.level = 5 → c = 5 → d' = { d with latch := false })
            ∧ (d.level = 5 → c < 5 → (d.releaseWait = true ∨ (d.cond = 5 ∧ s.response.runOnOf 5 = 0)) →
                d'.inForce.l5 = false ∧ ({ d with latch := false, cond := c } : ZoneDyn).Removes s.response d')
            ∧ (d.level = 5 → c < 5 → d.releaseWait = false → (d.cond = 5 → s.response.runOnOf 5 ≠ 0) →
                d' = { d with
                  latch := false, cond := c, accepted := true
                  runOn := if d.cond = 5 then timerOf (s.response.runOnOf 5) else d.runOn }))
        ∧ ((s.zones[z].isInService = false ∨ mask.getLsbD z.val = false) →
          t.zones[z] = s.zones[z] ∧ t.zoneSlots[z] = s.zoneSlots[z])

/-- A PANEL frame to the DX48 that is not accepted by its source is counted as ignored whatever its length; an accepted
one of another length than two bytes is malformed; an accepted one of two bytes whose action is neither ALARM nor NORMAL
is counted as ignored; none does anything else (R133, R182). -/
def Obligations.PanelIgnoredOrMalformed : Prop :=
  (∀ (s : State) (ident : BitVec 29) (action mask : Byte),
    let f := Frame.ofIdent ident [action, mask]
    s.Hears .trunk → f.kind = kindPanel → f.dst = s.active.node →
    s.active.panelNode = 0 ∨ f.src = s.active.panelNode → action ≠ 1 → action ≠ 2 →
      ∃ t, exec (.trunkFrame ident [action, mask]) s = .next t ∧ s.StayedAbove t
        ∧ (s.setCounters { s.counters with ignoredPanel := satInc s.counters.ignoredPanel }).OnlyLines t)
  ∧ ∀ (s : State) (hd : Header) (rest : List Byte) (c : Instr),
    s.Hears .trunk → hd.dst = s.active.node → c ∈ [Instr.panelAlarm hd rest, .panelNormal hd rest] →
    (s.active.panelNode ≠ 0 → hd.src ≠ s.active.panelNode →
      ∃ t, exec c s = .next t ∧ s.StayedAbove t
        ∧ (s.setCounters { s.counters with ignoredPanel := satInc s.counters.ignoredPanel }).OnlyLines t)
    ∧ (s.active.panelNode = 0 ∨ hd.src = s.active.panelNode → rest.length ≠ 1 →
      ∃ t, exec c s = .next t ∧ s.OnlyLines t ∧ s.field.SameLine t.field
        ∧ s.trunk.HeardOnly t.trunk
            { s.trunk.counters.heard with malformed := satInc s.trunk.counters.malformed })

/-- ZONE_RELEASE for the fire level that is E while c is below it: in RELEASE_WAIT the level leaves at once; with the
run-on RUNNING the consent is recorded and nothing else of the zone changes (R39, R40, R38). The zone's report slot is set
once when something that R56 watches has changed. The checks before it are answered BAD_INDEX, STATE, OUT_OF_RANGE,
NOT_IN_FORCE and CONDITION_PRESENT in this order. -/
def Obligations.ZoneReleaseGivesConsent : Prop :=
  ∀ (s : State) (src tag zone level : Byte), s.Ready →
    (∀ (z : Fin 8) (f : ZoneFields) (d : ZoneDyn), indexOf 8 zone = some z → s.zones[z] = .inService f d → d.Sound →
        (level = 4 ∨ level = 5) →
      d.level.val = level.toNat → d.cond < d.level →
      ∃ (t : State) (d' : ZoneDyn), exec (.zoneRelease src tag zone level) s = .next t
        ∧ s.Answered t src 16 tag 0 []
        ∧ t = { s with zones := s.zones.set z (.inService f d'), zoneSlots := t.zoneSlots, field := t.field,
                       trunk := t.trunk }
        ∧ t.zoneSlots = s.zoneSlots.set z (s.zoneSlotAfter z d d')
        ∧ (d.releaseWait = false → d' = { d with accepted := true })
        ∧ (d.releaseWait = true → d'.level < d.level ∧ d.Removes s.response d'))
    ∧ (∀ code, s.zoneRelease zone level = .error code ↔
        (indexOf 8 zone = none ∧ code = .badIndex)
        ∨ ∃ z : Fin 8, indexOf 8 zone = some z ∧
          ((s.zones[z].isInService = false ∧ code = .state)
          ∨ ∃ f d, s.zones[z] = .inService f d ∧
            ((level ≠ 4 ∧ level ≠ 5 ∧ code = .outOfRange)
            ∨ ((level = 4 ∨ level = 5) ∧ d.level.val ≠ level.toNat ∧ code = .notInForce)
            ∨ ((level = 4 ∨ level = 5) ∧ d.level.val = level.toNat ∧ d.level ≤ d.cond ∧ code = .conditionPresent))))

/-- ZONE_SUPPRESS: setting 1 sets the flag alone; setting 0 clears it, takes in the highest held level alone when it is
above E, empties the held set and evaluates the zone, which starts the run-on of the level taken in when c is below it, or
takes it out at once when that run-on is 0 s (R46, R47, R30, R38). Everything else of the zone is kept. A setting that is
already so changes nothing. -/
def Obligations.SuppressionHoldsFumeLevels : Prop :=
  ∀ (s : State) (src tag zone : Byte) (z : Fin 8) (f : ZoneFields) (d : ZoneDyn),
    s.Ready → indexOf 8 zone = some z → s.zones[z] = .inService f d → d.Sound →
    (∃ t, exec (.zoneSuppressOn src tag zone) s = .next t ∧ s.Answered t src 17 tag 0 []
      ∧ t = { s with
          zones := s.zones.set z (.inService f { d with suppress := true })
          zoneSlots := if d.suppress then s.zoneSlots
            else s.zoneSlots.set z (s.zoneSlots[z].mark (s.onOffer (.zone z)))
          field := t.field, trunk := t.trunk })
    ∧ (∃ (t : State) (d' : ZoneDyn), exec (.zoneSuppressOff src tag zone) s = .next t
      ∧ s.Answered t src 17 tag 0 []
      ∧ t = { s with
          zones := s.zones.set z (.inService f d')
          zoneSlots := if d.suppress then s.zoneSlots.set z (s.zoneSlots[z].mark (s.onOffer (.zone z)))
            else s.zoneSlots
          field := t.field, trunk := t.trunk }
      ∧ d'.suppress = false ∧ d'.held1 = false ∧ d'.held2 = false ∧ d'.cond = d.cond ∧ d'.force = d.force
      ∧ d.cond ≤ d'.level
      ∧ (d.suppress = false → d' = d)
      ∧ (d.suppress = true →
          let lifted : ZoneDyn := { d with suppress := false, held1 := false, held2 := false }
          let top : Level := if d.held2 = true then 2 else if d.held1 = true then 1 else 0
          let taken : ZoneDyn :=
            { lifted with inForce := d.inForce.insert top, runOn := none, accepted := false, releaseWait := false }
          (top ≤ d.level → d' = lifted)
          ∧ (d.level < top →
            (d.cond = top → d' = taken)
            ∧ (d.cond < top → s.response.runOnOf top ≠ 0 →
                d' = { taken with runOn := timerOf (s.response.runOnOf top) })
            ∧ (d.cond < top → s.response.runOnOf top = 0 → taken.Removes s.response d')
            ∧ d.cond ≤ top)))

/-- ZONE_FORCE: the force level is written and the condition is the greatest of the inputs with the new force (R48, R27);
with an unchanged condition nothing else of the zone changes, and a condition of 3 or more is at most the new E, whatever
the suppress flag (R31). A condition that falls below E leaves E in force and starts its run-on (R30, R34), and one that
returns to E undoes it (R33). The zone's report slot is set once when something that R56 watches has changed. -/
def Obligations.ForceWritesAnInput : Prop :=
  ∀ (s : State) (src tag zone level : Byte) (z : Fin 8) (f : ZoneFields) (d : ZoneDyn),
    s.Ready → indexOf 8 zone = some z → s.zones[z] = .inService f d → d.Sound → level.toNat ≤ 5 →
    let v : Level := Fin.ofNat 6 level.toNat
    let c := max v (max (if d.latch then 5 else 0) (s.contributions z))
    ∃ (t : State) (d' : ZoneDyn), exec (.zoneForce src tag zone level) s = .next t ∧ s.Answered t src 18 tag 0 []
      ∧ t = { s with zones := s.zones.set z (.inService f d'), zoneSlots := t.zoneSlots, field := t.field,
                     trunk := t.trunk }
      ∧ t.zoneSlots = s.zoneSlots.set z (s.zoneSlotAfter z d d')
      ∧ ({ d with force := v } : ZoneDyn).Reforms s.response c d'
      ∧ d'.force = v ∧ d'.cond = c ∧ d'.latch = d.latch ∧ d'.suppress = d.suppress
      ∧ (c = d.cond → d' = { d with force := v })
      ∧ (3 ≤ c ∨ d.suppress = false → c ≤ d'.level)
      ∧ (d.level < c → 3 ≤ c ∨ d.suppress = false →
          d' = { d with force := v, cond := c, inForce := d.inForce.insert c, runOn := none, accepted := false,
                        releaseWait := false })
      ∧ (d.level < c → c ≤ 2 → d.suppress = true →
          d'.inForce = d.inForce ∧ d'.held1 = (d.held1 || c == 1) ∧ d'.held2 = (d.held2 || c == 2))

/-! ## Chapter 3: demand and clocks -/

/-- The purge phase of a zone is the `duration` minutes from m = start onwards, past P − 1 to 0 where it reaches that far
(R71), for values that fit the clock's period (R75). -/
def Obligations.PurgePhaseIsItsMinutes : Prop :=
  ∀ (s : State) (f : ZoneFields) (j : Fin 2), f.clock = some j →
    fits f.purgeStart f.purgeDuration s.clocks[j].period = true → s.clocks[j].counter < s.clocks[j].period →
    (s.purgePhase f = true ↔
      ∃ n, n < f.purgeDuration ∧ (f.purgeStart + n) % s.clocks[j].period = s.clocks[j].counter)

/-- The demand of a calm zone is the greatest of min_flow, the schedule floor and, in its purge phase, purge_flow (R58);
the schedule floor is the greatest floor of the IN_SERVICE windows that hold the zone and cover the day clock, and 0 with
none or with the clock UNSET (R69); a window covers the minutes from its start to its end on its days, past midnight where
its end is below its start (R67, R68); at FLAMMABLE and in fire the demand is the level's own flow (R61); at a fume level
it is the greater of the floor and the level's flow with the proportional term, limited by max_flow (R59), and that term
is the greatest of 0 and the terms of the zone's offering points (R60). -/
def Obligations.DemandFollowsTheLevel : Prop :=
  ∀ (s : State) (z : Fin 8) (f : ZoneFields) (d : ZoneDyn),
    let D := s.demandOf z f d
    let floor := s.scheduleFloor z
    let active (w : WindowFields) : Prop :=
      (∃ i : Fin 8, s.windows[i] = .inService w ()) ∧ w.zoneMask.getLsbD z.val = true
        ∧ ∃ c, s.dayClock = some c ∧ w.covers c = true
    let offers (g : PointFields) (p : PointDyn) : Prop :=
      (∃ i : Fin 64, s.points[i] = .inService g p) ∧ g.zone = z ∧ p.state = .live
        ∧ ((p.grade = .a ∧ (g.levelA = 1 ∨ g.levelA = 2)) ∨ (p.grade = .b ∧ (g.levelB = some 1 ∨ g.levelB = some 2)))
    let term (g : PointFields) (p : PointDyn) : Int := ((p.filtered : Int) - g.riseA) * g.gain / 16
    (∀ w, active w → w.floor ≤ floor) ∧ (floor ≠ 0 → ∃ w, active w ∧ w.floor = floor)
    ∧ (d.level = 0 → s.purgePhase f = false → D = max f.minFlow floor)
    ∧ (d.level = 0 → s.purgePhase f = true → D = max f.minFlow (max floor f.purgeFlow))
    ∧ (d.level = 3 → D = f.flammableFlow) ∧ (4 ≤ d.level → D = f.fireFlow)
    ∧ (d.level = 1 ∨ d.level = 2 →
        let flow := if d.level = 1 then f.fumeLowFlow else f.fumeHighFlow
        ∃ P : Nat, D = min f.maxFlow (max (flow + P) floor)
          ∧ (∀ g p, offers g p → term g p ≤ P) ∧ (P = 0 ∨ ∃ g p, offers g p ∧ term g p = P))
    ∧ ∀ (w : WindowFields) (c : DayClock), c.day ≤ 6 →
        let on (day : Nat) : Prop := w.dayMask.getLsbD day = true
        (w.start < w.stop → (w.covers c = true ↔ on c.day ∧ w.start ≤ c.minute ∧ c.minute < w.stop))
        ∧ (w.stop < w.start → (w.covers c = true ↔ (on c.day ∧ w.start ≤ c.minute)
            ∨ ∃ day, day ≤ 6 ∧ (day + 1) % 7 = c.day ∧ on day ∧ c.minute < w.stop))

/-- MINUTE_TIMER_EXPIRY and PURGE_CLOCK_WRAP: the minute timer starts again with 60 s, a set day clock advances by a
minute, and each purge counter by one; the counter that was P − 1 wraps to 0, and its clock adopts its staged period and
the staged values of the IN_SERVICE zones bound to it, and of no other zone (R64, R70, R74). That a minute expiry makes
the wrap itself, and a wrap by its own row is taken at any counter, is the model's choice (log entries 4 and 5). Time: on
an empty queue a part at work takes one of the expiries of the timers that have run out (R11, R35, R64, R77, R101 to R111,
R123), and where there is none every running timer loses a quarter second and nothing else changes but what is on offer.
That time passes on an empty queue, and which of several expiries is taken, is the model's choice (log entries 2 and 3).
-/
def Obligations.MinutesAdvanceTheClocks : Prop :=
  ∀ s : State, s.works = true → s.restartDue = false →
    let adopted (j : Fin 2) (e : Entry ZoneFields ZoneDyn) : Entry ZoneFields ZoneDyn :=
      match e with
      | .inService f d =>
        if f.clock = some j then
          .inService { f with
              purgeStart := d.stagedStart.getD f.purgeStart
              purgeDuration := d.stagedDuration.getD f.purgeDuration
              purgeFlow := d.stagedFlow.getD f.purgeFlow }
            { d with stagedStart := none, stagedDuration := none, stagedFlow := none }
        else e
      | _ => e
    let wraps (j : Fin 2) : Prop := s.clocks[j].period ≤ s.clocks[j].counter + 1
    let wrapped (j : Fin 2) : PurgeClock := ⟨s.clocks[j].staged.getD s.clocks[j].period, 0, none⟩
    (∃ t, exec .minuteTimerExpiry s = .next t ∧ s.QuietLines t
      ∧ t = { s with minuteTimer := 240, dayClock := t.dayClock, clocks := t.clocks, zones := t.zones, field := t.field,
                     trunk := t.trunk }
      ∧ (s.dayClock = none → t.dayClock = none)
      ∧ (∀ c, s.dayClock = some c → t.dayClock = some
          (if c.minute + 1 = 1440 then ⟨(c.day + 1) % 7, 0⟩ else ⟨c.day, c.minute + 1⟩))
      ∧ (∀ j : Fin 2, (wraps j → t.clocks[j] = wrapped j)
          ∧ (¬wraps j → t.clocks[j] = { s.clocks[j] with counter := s.clocks[j].counter + 1 }))
      ∧ (∀ z : Fin 8,
          (∀ j, zoneClock s.zones[z] = some j → wraps j → t.zones[z] = adopted j s.zones[z])
          ∧ ((∀ j, zoneClock s.zones[z] = some j → ¬wraps j) → t.zones[z] = s.zones[z])))
    ∧ (∀ j : Fin 2, ∃ t, exec (.purgeClockWrap j) s = .next t ∧ s.QuietLines t
      ∧ t = { s with clocks := s.clocks.set j (wrapped j), zones := t.zones, field := t.field, trunk := t.trunk }
      ∧ ∀ z : Fin 8, t.zones[z] = adopted j s.zones[z])
    ∧ (∀ c, c ∈ s.dueExpiries ↔ s.RunOut c)
    ∧ (s.pending = [] → s.dueExpiries ≠ [] → ∃ c ∈ s.dueExpiries, ∃ n, step s = exec c (s.setFreeIndex n))
    ∧ (s.pending = [] → s.dueExpiries = [] → ∃ t, step s = .next t ∧ s.QuarterPassed t)

/-- TIME: a TIME frame from the trunk sets the day clock and starts the minute timer with 60 − second seconds when its
three values are in range, and otherwise is counted as ignored; a malformed one is counted as malformed (R65, R134, R182).
Whatever its contents it is forwarded by its destination and counted so; with hop count 15 it is taken all the same but
dropped and counted instead (R129), and one that meets a full FIELD queue is decided by the full-queue rule (R127). -/
def Obligations.TimeFrameSetsTheClock : Prop :=
  ∀ (s : State) (hd : Header) (data : List Byte), s.Hears .trunk →
    let heard := s.trunk.counters.heard
    let counted : PortCounters :=
      if data.length = 4 then heard else { heard with malformed := satInc heard.malformed }
    let goesDown : Prop := hd.dst ≠ s.active.node ∧ (hd.dst = 255 ∨ s.isKnownNode hd.dst = true)
    ∃ t, exec (.time hd data) s = .next t
      ∧ t = { s with dayClock := t.dayClock, minuteTimer := t.minuteTimer, counters := t.counters, field := t.field,
                     trunk := t.trunk }
      ∧ (∀ day lo hi second, data = [day, lo, hi, second] →
          let minute := (word16 lo hi).toNat
          let good : Prop := day.toNat ≤ 6 ∧ minute ≤ 1439 ∧ second.toNat ≤ 59
          (good → t.dayClock = some ⟨day.toNat, minute⟩ ∧ t.minuteTimer = 4 * (60 - second.toNat)
              ∧ t.counters = s.counters)
          ∧ (¬good → t.dayClock = s.dayClock ∧ t.minuteTimer = s.minuteTimer
              ∧ t.counters = { s.counters with ignoredTime := satInc s.counters.ignoredTime }))
      ∧ (data.length ≠ 4 → t.dayClock = s.dayClock ∧ t.minuteTimer = s.minuteTimer ∧ t.counters = s.counters)
      ∧ (goesDown → s.Downward t (hd.frame kindTime data) counted)
      ∧ (¬goesDown → s.field.SameLine t.field ∧ s.trunk.HeardOnly t.trunk counted)

/-! ## Chapter 4: allocation -/

/-- DRIVE_PERIOD_EXPIRY: the timer starts again with the active drive period, and every IN_SERVICE zone takes its part of
the allocation and keeps its ladder, its report slot set when SHORT has changed (R77, R84); each IN_SERVICE fan's flow is
what the zones take from it, and its speed follows from that flow, its rated flow, its minimum step and its hold mark
(R85, R86, R90). The fan moves by its result (R100), and one that then waits for its path and has it proved is started in
the same allocation (R101). A damper whose target differs travels to it, unless it is in FAULT or HAND (R89, R109). No
trouble slot changes. The expiry is taken whenever it is commanded (the model's choice, log entry 4). -/
def Obligations.AllocationIsDelivered : Prop :=
  ∀ s : State, s.works = true → s.restartDue = false →
    ∃ t, exec .drivePeriodExpiry s = .next t
      ∧ t = { s with
          driveTimer := s.active.drivePeriod
          zones := t.zones, zoneSlots := t.zoneSlots, outputs := t.outputs, outputSlots := t.outputSlots
          field := t.field, trunk := t.trunk }
      ∧ s.trunk.SameLine t.trunk ∧ t.field.counters = s.field.counters ∧ t.field.on = s.field.on
      ∧ t.field.recovery = s.field.recovery
      ∧ (s.MachinesSound → t.outputSlots = s.outputSlots)
      ∧ (∀ z : Fin 8, s.zones[z].isInService = false → t.zones[z] = s.zones[z] ∧ t.zoneSlots[z] = s.zoneSlots[z])
      ∧ (∀ (z : Fin 8) (f : ZoneFields) (d : ZoneDyn), s.zones[z] = .inService f d →
          let shares := s.sharing.shares[z]
          let d' : ZoneDyn := { d with
            demand := s.demandOf z f d
            shares := shares
            delivered := sumShares shares
            short := decide (sumShares shares < s.demandOf z f d) }
          t.zones[z] = .inService f d'
          ∧ t.zoneSlots[z] = if d'.short = d.short then s.zoneSlots[z] else s.zoneSlots[z].mark (s.onOffer (.zone z)))
      ∧ (∀ i : Fin 24, s.outputs[i].isInService = false → t.outputs[i] = s.outputs[i])
      ∧ (∀ (i : Fin 24) (f : OutputFields) (d : FanDyn), s.outputs[i] = .inService f (.fan d) → ∃ d' : FanDyn,
          t.outputs[i] = .inService f (.fan d') ∧ d'.flow = t.drawnFrom i ∧ d'.hold = s.holdMark i
          ∧ d'.lastStatus = d.lastStatus ∧ d'.retryCount = d.retryCount
          ∧ (0 < t.drawnFrom i → d'.run = true ∧ d'.q = max (t.drawnFrom i * 4080 / f.rated) (f.minStep * 16))
          ∧ (t.drawnFrom i = 0 → s.holdMark i = .heldRunning → d'.run = true ∧ d'.q = f.minStep * 16)
          ∧ (t.drawnFrom i = 0 → s.holdMark i ≠ .heldRunning → d'.run = false ∧ d'.q = 0)
          ∧ (d.Sound →
              let told : FanDyn := { d with flow := d'.flow, q := d'.q, run := d'.run, hold := d'.hold }
              let proved : Prop := ∃ (z : Fin 8) (g : ZoneFields) (e : ZoneDyn), ∃ k ∈ g.branches,
                t.zones[z] = .inService g e ∧ g.fans[k] = i ∧ 0 < e.shares[k]
                  ∧ ∀ j ∈ g.dampers[k], ∃ h x, s.outputs[j] = .inService h (.damper x) ∧ x.position = .opened
              let starting : FanDyn := { told with
                state := .starting, pathTimer := none, stopTimer := none, startTimer := timerOf f.startTimeout }
              (d.state = .stopped → d'.run = true →
                (proved → d' = { starting with dither := 0 })
                ∧ (¬proved → d' = { told with
                    state := .pathWait, dither := 0, noPath := false, pathTimer := timerOf f.startTimeout }))
              ∧ (d.state = .pathWait → d'.run = true → (proved → d' = starting) ∧ (¬proved → d' = told))
              ∧ (d.state = .pathWait → d'.run = false → d' = { told with state := .stopped, pathTimer := none })
              ∧ (d.state = .starting ∨ d.state = .running → d'.run = false →
                  d' = { told with
                    state := .stopping, below := 0, startTimer := none, statusTimer := none
                    stopTimer := timerOf f.startTimeout })
              ∧ (d.state = .stopping → d'.run = true → d' = starting)
              ∧ (d.state = .stopped ∨ d.state = .stopping → d'.run = false → d' = told)
              ∧ (d.state = .starting ∨ d.state = .running → d'.run = true → d' = told)
              ∧ (d.state.isFault = true ∨ d.state = .hand → d' = told)))
      ∧ (∀ (i : Fin 24) (f : OutputFields) (d : DamperDyn), s.outputs[i] = .inService f (.damper d) → ∃ d' : DamperDyn,
          t.outputs[i] = .inService f (.damper d') ∧ d'.position = d.position
          ∧ (d'.target = d.target → d' = d)
          ∧ (d'.target ≠ d.target → d.state = .settled ∨ d.state = .travelling →
              d' = { d with
                target := d'.target, state := .travelling, statusTimer := none, travelTimer := timerOf f.travelTimeout })
          ∧ (d'.target ≠ d.target → d.state.isFault = true ∨ d.state = .hand → d' = { d with target := d'.target })
          ∧ (d'.target = .opened ↔ ∃ (z : Fin 8) (g : ZoneFields) (e : ZoneDyn), ∃ k ∈ g.branches,
              t.zones[z] = .inService g e ∧ g.dampers[k] = some i ∧ 0 < e.shares[k]))

/-- After an allocation every IN_SERVICE output that has a node and is not in HAND has its DRIVE in the FIELD queue, to
its node at priority 2, carrying what its state calls for: run with a dithered step for a fan in STARTING or RUNNING and
stop for any other fan, open or close for a damper (R90, R101). The DRIVE of an output takes the place of the one that
waited for it, or is added as the newest frame, in ascending order of the outputs; every other frame of the queue stays in
its place (R91). -/
def Obligations.AllocationQueuesTheDrives : Prop :=
  ∀ s : State, s.works = true → s.restartDue = false →
    ∃ t, exec .drivePeriodExpiry s = .next t
      ∧ (∀ (i : Fin 24) (f : OutputFields) (d : FanDyn) (node : Byte), t.outputs[i] = .inService f (.fan d) →
          f.node = some node → d.state ≠ .hand →
          ∃ e ∈ t.field.queue, e.isDriveOf i = true
            ∧ e.frame = s.originate 2 kindDrive node
              (if d.state = .starting ∨ d.state = .running then [1, byte (ditheredStep d.q d.dither)] else [0, 0]))
      ∧ (∀ (i : Fin 24) (f : OutputFields) (d : DamperDyn) (node : Byte), t.outputs[i] = .inService f (.damper d) →
          f.node = some node → d.state ≠ .hand →
          ∃ e ∈ t.field.queue, e.isDriveOf i = true
            ∧ e.frame = s.originate 2 kindDrive node [if d.target = .opened then 1 else 0, 0])
      ∧ (let drive (f : OutputFields) : OutputDyn → Option (Bool × List Byte)
          | .fan d =>
            if d.state = .hand then none
            else if d.state = .starting ∨ d.state = .running then some (true, [1, byte (ditheredStep d.q d.dither)])
            else some (false, [0, 0])
          | .damper d => if d.state = .hand then none else some (false, [if d.target = .opened then 1 else 0, 0])
        let joined (frames : List (Frame × Origin)) (i : Fin 24) : List (Frame × Origin) :=
          match t.outputs[i] with
          | .inService f d => match f.node, drive f d with
            | some node, some (run, data) => withDrive frames i run (s.originate 2 kindDrive node data)
            | _, _ => frames
          | _ => frames
        t.field.frames = (List.finRange 24).foldl joined s.field.frames)

/-- In every allocation the shares taken from a fan add up to at most its rated flow, and a fan in FAULT, in HAND or held
stopped gives none; a zone's shares add up to at most its demand, and to exactly its demand unless it is SHORT; and a zone
takes nothing from a fan that is claimed by other zones only (R80, R81, R83, R84). Each share is the lesser of what the
zone still needs after its earlier branches and what the fan has left after the zones that come before it in the order of
service and after those branches (R79, R82, R83). A zone claims the fans of its branches while it is in fire and the
confine flag of its E is set (R80); a NONEX fan with a zone in reach at FLAMMABLE and none in fire is held as it stands
(R81). The expiry is taken whenever it is commanded (the model's choice, log entry 4). -/
def Obligations.SharesStayWithinFansAndDemands : Prop :=
  (∀ (s : State) (z : Fin 8) (i : Fin 24), s.claims z i = true ↔ ∃ f d, s.zones[z] = .inService f d
    ∧ (∃ k ∈ f.branches, f.fans[k] = i)
    ∧ ((d.level = 4 ∧ s.response.confine4 = true) ∨ (d.level = 5 ∧ s.response.confine5 = true)))
  ∧ (∀ (s : State) (i : Fin 24) (f : OutputFields) (d : FanDyn), s.outputs[i] = .inService f (.fan d) →
    let reaches (z : Fin 8) : Prop := ∃ g e, s.zones[z] = .inService g e ∧ ∃ k ∈ g.branches, g.fans[k] = i
    let held : Prop := f.nonex = true ∧ (∃ z, reaches z ∧ s.zoneLevel z = 3) ∧ ∀ z, reaches z → s.zoneLevel z < 4
    (¬held → s.holdMark i = .none)
    ∧ (held → (d.state ∈ [.stopped, .pathWait, .stopping] → s.holdMark i = .heldStopped)
        ∧ (d.state ∈ [.starting, .running] → s.holdMark i = .heldRunning)
        ∧ (d.state.isFault = true ∨ d.state = .hand → s.holdMark i = .none)))
  ∧ ∀ s : State, s.works = true → s.restartDue = false →
    ∃ t, exec .drivePeriodExpiry s = .next t
      ∧ (∀ (i : Fin 24) (f : OutputFields) (d : FanDyn), s.outputs[i] = .inService f (.fan d) → t.drawnFrom i ≤ f.rated
          ∧ (d.state.isFault = true ∨ d.state = .hand ∨ s.holdMark i = .heldStopped → t.drawnFrom i = 0))
      ∧ (∀ i : Fin 24, s.fan? i = none → t.drawnFrom i = 0)
      ∧ (∀ (z : Fin 8) (f : ZoneFields) (d : ZoneDyn), t.zones[z] = .inService f d →
          sumShares d.shares = d.delivered ∧ d.delivered ≤ d.demand ∧ (d.short = false ↔ d.delivered = d.demand))
      ∧ (∀ (z y : Fin 8) (k : Fin 4) (f : ZoneFields) (d : ZoneDyn), t.zones[z] = .inService f d →
          s.claims y f.fans[k] = true →
          s.claims z f.fans[k] = false → d.shares[k] = 0)
      ∧ (∀ (z : Fin 8) (k : Fin 4) (f : ZoneFields) (d : ZoneDyn), t.zones[z] = .inService f d →
          let i := f.fans[k]
          let earlier := (List.finRange 4).filter fun j => j < k
          let need := d.demand - (earlier.map fun j => d.shares[j]).sum
          let served := (((List.finRange 8).filter fun y => s.Precedes y z).map (t.drawnBy i)).sum
          let capacity (g : OutputFields) (x : FanDyn) : Nat :=
            if x.state.isFault = true ∨ x.state = .hand ∨ s.holdMark i = .heldStopped then 0 else g.rated
          (f.count ≤ k.val → d.shares[k] = 0)
          ∧ (k.val < f.count → s.claims z i = true ∨ (∀ y, s.claims y i = false) →
              (∀ g x, s.outputs[i] = .inService g (.fan x) → d.shares[k] =
                min need (capacity g x - served - ((earlier.filter fun j => f.fans[j] = i).map fun j => d.shares[j]).sum))
              ∧ (s.fan? i = none → d.shares[k] = 0)))

/-- The step of a run frame (R87): the whole part of q or one more, at most 255, and over sixteen consecutive indices from
any start the steps add up to q; run frames are built with the fan's index, and a stop frame carries step 0. -/
def Obligations.DitherSpreadsTheFraction : Prop :=
  (∀ (q : Nat) (c : Fin 16),
    ditheredStep q c = q / 16 + ((c.val + 1) * (q % 16) / 16 - c.val * (q % 16) / 16)
    ∧ (ditheredStep q c = q / 16 ∨ ditheredStep q c = q / 16 + 1)
    ∧ (q ≤ 4080 → ditheredStep q c ≤ 255) ∧ (q = 4080 → ditheredStep q c = 255))
  ∧ (∀ (q : Nat) (c : Fin 16), ((List.range 16).map fun n => ditheredStep q (c + Fin.ofNat 16 n)).sum = q)
  ∧ (∀ (s : State) (i : Fin 24) (f : OutputFields) (d : FanDyn) (e : QEntry),
      s.outputs[i] = .inService f (.fan d) → s.driveEntry i = some e →
      (d.state = .starting ∨ d.state = .running → e.frame.data = [1, byte (ditheredStep d.q d.dither)])
      ∧ (¬(d.state = .starting ∨ d.state = .running) → e.frame.data = [0, 0]))

/-! ## Chapter 5: outputs -/

/-- STATUS_FAN: a well-formed STATUS from the node of an IN_SERVICE fan is recorded and moves that fan by its state: a
proved one starts it, three below proof in a row or a drive fault lose it, step 0 stops it (R103 to R107). Its trouble
slot is set on entry to FAULT and when the NO_PATH mark is cleared (R168); the frame goes up in HAND or with new content
(R131), is dropped and counted when it has come with hop count 15 (R129), and is decided by the full-queue rule when the
TRUNK queue is full (R127); everything else but the lines is as it was. -/
def Obligations.FanStatusMovesItsFan : Prop :=
  ∀ (s : State) (hd : Header) (data : List Byte) (i : Fin 24) (f : OutputFields) (d : FanDyn) (st : FanStatus),
    s.Hears .field → (s.restartPending = false ∨ s.trunk.queue.length < trunkRoom) →
    s.outputAt hd.src = some i → s.outputs[i] = .inService f (.fan d) → fanPayload? data = some st → d.Sound →
    let proved : Prop := d.q / 16 * f.proof / 100 ≤ st.step.toNat
    let seen : FanDyn := { d with lastStatus := some st }
    let lost (r : FanFault) : FanDyn :=
      { seen with
        state := .fault r, noPath := false, below := 0, statusTimer := none, retryTimer := timerOf f.retryInterval }
    ∃ (t : State) (d' : FanDyn), exec (.statusFan hd data) s = .next t
      ∧ t = { s with
          outputs := s.outputs.set i (.inService f (.fan d')), outputSlots := t.outputSlots
          field := t.field, trunk := t.trunk }
      ∧ (d.state = .starting → proved → st.driveFault = false →
          d' = { seen with state := .running, below := 0, startTimer := none, statusTimer := timerOf f.statusTimeout })
      ∧ (d.state = .starting → ¬proved ∨ st.driveFault = true → d' = seen)
      ∧ (d.state = .running → st.driveFault = true → d' = lost .driveFault)
      ∧ (d.state = .running → st.driveFault = false → proved →
          d' = { seen with below := 0, statusTimer := timerOf f.statusTimeout })
      ∧ (d.state = .running → st.driveFault = false → ¬proved → d.below + 1 < 3 →
          d' = { seen with below := d.below + 1, statusTimer := timerOf f.statusTimeout })
      ∧ (d.state = .running → st.driveFault = false → ¬proved → d.below + 1 = 3 → d' = lost .flowLost)
      ∧ (d.state = .stopping → st.step = 0 → d' = { seen with state := .stopped, noPath := false, stopTimer := none })
      ∧ (d.state = .stopping → st.step ≠ 0 → d' = seen)
      ∧ (d.state ≠ .starting → d.state ≠ .running → d.state ≠ .stopping → d' = seen)
      ∧ (∀ j : Fin 24, j ≠ i → t.outputSlots[j] = s.outputSlots[j])
      ∧ (∀ r, d'.state = .fault r → d.state = .running → t.outputSlots[i] = s.outputMarked i r.reason)
      ∧ (d.noPath = true → d'.state = .stopped → t.outputSlots[i] = s.outputMarked i s.outputSlots[i].lastReason)
      ∧ (d'.state.isFault = d.state.isFault → d'.noPath = d.noPath → t.outputSlots[i] = s.outputSlots[i])
      ∧ (d.state = .hand ∨ d.lastStatus ≠ some st → s.Upward t (hd.frame kindStatus data) s.field.counters.heard)
      ∧ (d.state ≠ .hand → d.lastStatus = some st → s.StayedBelow t)

/-- STATUS_DAMPER: a well-formed STATUS from the node of an IN_SERVICE damper sets its position and moves it by its state
(R110). A report of OPEN starts every fan in PATH_WAIT that a branch with a share serves through the damper, and no other,
and their run frames join the FIELD queue in ascending order under the one-per-output rule (R101, R91). The frame goes up
in HAND, when JAMMED or with another position (R131), is dropped and counted when it has come with hop count 15 (R129),
and is decided by the full-queue rule when the TRUNK queue is full (R127). -/
def Obligations.DamperStatusMovesItsDamper : Prop :=
  ∀ (s : State) (hd : Header) (data : List Byte) (i : Fin 24) (f : OutputFields) (d : DamperDyn) (r : DamperReport),
    s.Hears .field → (s.restartPending = false ∨ s.trunk.queue.length < trunkRoom) →
    s.outputAt hd.src = some i → s.outputs[i] = .inService f (.damper d) → damperPayload? data = some r →
    let seen : DamperDyn := { d with position := r.position }
    let there : Prop := (r = .opened ∧ d.target = .opened) ∨ (r = .closed ∧ d.target = .closed)
    let moves : Prop := d.state = .travelling ∨ d.state = .settled
    let starts (j : Fin 24) : Prop :=
      r = .opened ∧ s.fanIs j .pathWait = true ∧ ∃ (z : Fin 8) (g : ZoneFields) (e : ZoneDyn), ∃ k ∈ g.branches,
        s.zones[z] = .inService g e ∧ g.fans[k] = j ∧ g.dampers[k] = some i ∧ 0 < e.shares[k]
    ∃ (t : State) (d' : DamperDyn), exec (.statusDamper hd data) s = .next t
      ∧ t = { s with outputs := t.outputs, outputSlots := t.outputSlots, field := t.field, trunk := t.trunk }
      ∧ t.outputs[i] = .inService f (.damper d')
      ∧ (¬moves → d' = seen)
      ∧ (moves → r = .jammed → d' = { seen with state := .fault .jammed, travelTimer := none, statusTimer := none })
      ∧ (moves → there → d' = { seen with state := .settled, travelTimer := none, statusTimer := timerOf f.statusTimeout })
      ∧ (d.state = .travelling → r ≠ .jammed → ¬there → d' = seen)
      ∧ (d.state = .settled → r ≠ .jammed → ¬there →
          d' = { seen with state := .travelling, travelTimer := timerOf f.travelTimeout, statusTimer := none })
      ∧ (∀ j : Fin 24, j ≠ i →
          t.outputSlots[j] = s.outputSlots[j]
          ∧ (¬starts j → t.outputs[j] = s.outputs[j])
          ∧ (∀ (g : OutputFields) (e : FanDyn), starts j → s.outputs[j] = .inService g (.fan e) →
              t.outputs[j] = .inService g (.fan (e.toStarting g))
              ∧ ∀ node, g.node = some node → ∃ x ∈ t.field.queue, x.isDriveOf j = true
                ∧ x.frame = s.originate 2 kindDrive node [1, byte (ditheredStep e.q e.dither)]))
      ∧ t.outputSlots[i] = (if d'.state.isFault = true ∧ d.state.isFault = false then s.outputMarked i .jammed
          else s.outputSlots[i])
      ∧ t.field.on = s.field.on ∧ t.field.recovery = s.field.recovery
      ∧ (∃ started : List (Fin 24), started.Pairwise (· < ·) ∧ (∀ j, j ∈ started ↔ starts j)
          ∧ t.field.frames = started.foldl (fun frames j =>
              match s.outputs[j] with
              | .inService g (.fan e) => match g.node with
                | some node =>
                  withDrive frames j true (s.originate 2 kindDrive node [1, byte (ditheredStep e.q e.dither)])
                | none => frames
              | _ => frames) s.field.frames)
      ∧ (let fr := hd.frame kindStatus data
        let heard := s.field.counters.heard
        let goesUp : Prop := d.state = .hand ∨ r = .jammed ∨ d.position ≠ r.position
        let joins : Prop := s.trunk.Admits s.trunk.TrunkHasRoom (fun _ => true) fr.prio
        (¬goesUp → s.trunk.SameLine t.trunk ∧ t.field.counters = heard)
        ∧ (goesUp → hd.hop = 15 →
            s.trunk.SameLine t.trunk ∧ t.field.counters = { heard with droppedHop := satInc heard.droppedHop })
        ∧ (goesUp → hd.hop ≠ 15 → s.trunk.MetTrunk t.trunk (onward fr) .forwarded s.trunk.counters
            ∧ (joins → t.field.counters = { heard with forwarded := satInc heard.forwarded })
            ∧ (¬joins → t.field.counters = heard)))

/-- The expiry of a fan's timer (R102 to R105, R108): without fire in reach, which is a zone in fire that names the fan in
a branch (R50, R99), the path timer ends in FAULT NO_PATH, and with fire the fan is started with its mark set and a run
frame queued; the start, status and stop timers end in their faults; the retry timer starts again without fire, and under
fire the fan goes to STOPPED with a stop frame queued. A damper's travel timer ends in FAULT TRAVEL and its status timer
in FAULT STATUS_SILENT, with target and position kept and the trouble slot set (R111). Nothing else but the lines changes.
An expiry is taken whenever its timer runs (the model's choice, log entry 4). -/
def Obligations.OutputTimersExpire : Prop :=
  (∀ (s : State) (i : Fin 24) (f : OutputFields) (d : FanDyn),
    s.works = true → s.restartDue = false → s.outputs[i] = .inService f (.fan d) → d.Sound →
    let fire : Prop := ∃ (z : Fin 8) (g : ZoneFields) (e : ZoneDyn), ∃ k ∈ g.branches,
      s.zones[z] = .inService g e ∧ g.fans[k] = i ∧ 4 ≤ e.level
    let gone (r : FanFault) : FanDyn :=
      { d with
        state := .fault r, noPath := false, below := 0, pathTimer := none, startTimer := none, statusTimer := none
        stopTimer := none, retryTimer := timerOf f.retryInterval }
    let becomes (t : State) (d' : FanDyn) : Prop :=
      t = { s with
        outputs := s.outputs.set i (.inService f (.fan d')), outputSlots := t.outputSlots
        field := t.field, trunk := t.trunk }
    let marked (t : State) (reason : Reason) : Prop := t.outputSlots = s.outputSlots.set i (s.outputMarked i reason)
    (d.state = .pathWait → ∃ t, exec (.pathTimerExpiry i) s = .next t
      ∧ marked t .noPath
      ∧ (¬fire → becomes t (gone .noPath) ∧ s.QuietLines t)
      ∧ (fire →
          becomes t { d with
            state := .starting, noPath := true, pathTimer := none, startTimer := timerOf f.startTimeout }
          ∧ s.DriveJoined t i f.node true [1, byte (ditheredStep d.q d.dither)]))
    ∧ (d.state = .starting → ∃ t, exec (.startTimerExpiry i) s = .next t
      ∧ becomes t (gone .startFail) ∧ marked t .startFail ∧ s.QuietLines t)
    ∧ (d.state = .running → ∃ t, exec (.fanStatusTimerExpiry i) s = .next t
      ∧ becomes t (gone .statusSilent) ∧ marked t .statusSilent ∧ s.QuietLines t)
    ∧ (d.state = .stopping → ∃ t, exec (.stopTimerExpiry i) s = .next t
      ∧ becomes t (gone .stopFail) ∧ marked t .stopFail ∧ s.QuietLines t)
    ∧ (d.state.isFault = true → ∃ t, exec (.retryTimerExpiry i) s = .next t
      ∧ (¬fire → becomes t { d with retryTimer := timerOf f.retryInterval } ∧ s.QuietLines t
          ∧ t.outputSlots = s.outputSlots)
      ∧ (fire →
          becomes t { d with state := .stopped, retryTimer := none, retryCount := min (d.retryCount + 1) 255 }
          ∧ marked t s.outputSlots[i].lastReason ∧ s.DriveJoined t i f.node false [0, 0])))
  ∧ ∀ (s : State) (i : Fin 24) (f : OutputFields) (d : DamperDyn),
    s.works = true → s.restartDue = false → s.outputs[i] = .inService f (.damper d) → d.Sound →
    let fails (c : Instr) (r : DamperFault) : Prop :=
      ∃ t, exec c s = .next t ∧ s.QuietLines t
        ∧ t = { s with
            outputs := s.outputs.set i
              (.inService f (.damper { d with state := .fault r, travelTimer := none, statusTimer := none }))
            outputSlots := s.outputSlots.set i (s.outputMarked i r.reason)
            field := t.field, trunk := t.trunk }
    (d.state = .travelling → fails (.travelTimerExpiry i) .travel)
    ∧ (d.state = .settled → fails (.damperStatusTimerExpiry i) .statusSilent)

/-- OUTPUT_HAND: setting 1 puts an output that no zone in fire holds into HAND, with its timers stopped, its below-proof
count 0, its NO_PATH mark clear and its waiting DRIVE withdrawn; a fan that was STOPPED has its dither index set to 0.
Setting 0 takes a fan in HAND to STOPPED and a damper in HAND to TRAVELLING. A setting that is already so changes nothing
(R113 to R115, R88, R93). That a fan's dither index becomes 0 on leaving STOPPED for HAND is read from R88 (log entry 26).
-/
def Obligations.HandTakesAndGivesBack : Prop :=
  ∀ (s : State) (src tag output : Byte) (i : Fin 24) (f : OutputFields),
    s.Ready → indexOf 24 output = some i →
    let becomes (t : State) (d' : OutputDyn) : Prop :=
      t = { s with
        outputs := s.outputs.set i (.inService f d'), outputSlots := t.outputSlots, field := t.field, trunk := t.trunk }
    let withdrawn (t : State) : Prop :=
      s.trunk.Joined t.trunk (s.replyFrame src 24 tag 0 []) .reply s.trunk.counters.heard
        ∧ t.field.frames = (s.field.queue.filter fun e => !e.isDriveOf i).map (fun e => (e.frame, e.origin))
        ∧ t.field.counters = s.field.counters ∧ t.field.on = s.field.on
    let slot (t : State) (troubled : Bool) : Prop :=
      t.outputSlots = if troubled then s.outputSlots.set i (s.outputMarked i s.outputSlots[i].lastReason)
        else s.outputSlots
    (∀ d : FanDyn, s.outputs[i] = .inService f (.fan d) → d.state ≠ .hand → s.outputLocked i = false →
      ∃ t, exec (.outputHandOn src tag output) s = .next t ∧ withdrawn t ∧ slot t (d.state.isFault || d.noPath)
        ∧ becomes t (.fan { d with
            state := .hand, noPath := false, below := 0, pathTimer := none, startTimer := none, statusTimer := none
            stopTimer := none, retryTimer := none, dither := if d.state = .stopped then 0 else d.dither }))
    ∧ (∀ d : DamperDyn, s.outputs[i] = .inService f (.damper d) → d.state ≠ .hand → s.outputLocked i = false →
      ∃ t, exec (.outputHandOn src tag output) s = .next t ∧ withdrawn t ∧ slot t d.state.isFault
        ∧ becomes t (.damper { d with state := .hand, travelTimer := none, statusTimer := none }))
    ∧ (∀ d : OutputDyn, s.outputs[i] = .inService f d → d.inHand = true → s.outputLocked i = false →
      s.Done (.outputHandOn src tag output) src 24 tag [] s)
    ∧ (∀ d : FanDyn, s.outputs[i] = .inService f (.fan d) → d.state = .hand → d.Sound →
      s.Done (.outputHandOff src tag output) src 24 tag []
        (s.setOutput i (.inService f (.fan { d with state := .stopped }))))
    ∧ (∀ d : DamperDyn, s.outputs[i] = .inService f (.damper d) → d.state = .hand → d.Sound →
      s.Done (.outputHandOff src tag output) src 24 tag []
        (s.setOutput i (.inService f (.damper { d with state := .travelling, travelTimer := timerOf f.travelTimeout }))))
    ∧ (∀ d : OutputDyn, s.outputs[i] = .inService f d → d.inHand = false →
      s.Done (.outputHandOff src tag output) src 24 tag [] s)

/-- OUTPUT_RESET (R116): a fan in FAULT goes to STOPPED with its timers stopped and its trouble slot set; a damper that is
not in HAND goes to TRAVELLING with its full travel timeout, with its slot set when it leaves FAULT; a fan that is not in
FAULT and a damper in HAND are answered STATE. -/
def Obligations.OutputResetRecovers : Prop :=
  ∀ (s : State) (src tag output : Byte) (i : Fin 24) (f : OutputFields),
    s.Ready → indexOf 24 output = some i →
    let c := Instr.outputReset src tag output
    (∀ d : FanDyn, s.outputs[i] = .inService f (.fan d) → d.Sound → d.state.isFault = true →
      s.Done c src 25 tag []
        ((s.setOutput i (.inService f (.fan { d with state := .stopped, retryTimer := none }))).setOutputSlot i
          (s.outputMarked i s.outputSlots[i].lastReason)))
    ∧ (∀ d : FanDyn, s.outputs[i] = .inService f (.fan d) → d.state.isFault = false →
      s.Refuses c src 25 tag .state)
    ∧ (∀ d : DamperDyn, s.outputs[i] = .inService f (.damper d) → d.state ≠ .hand →
      let moved : Entry OutputFields OutputDyn := .inService f (.damper
        { d with state := .travelling, travelTimer := timerOf f.travelTimeout, statusTimer := none })
      (d.state.isFault = false → s.Done c src 25 tag [] (s.setOutput i moved))
      ∧ (d.state.isFault = true → s.Done c src 25 tag []
          ((s.setOutput i moved).setOutputSlot i (s.outputMarked i s.outputSlots[i].lastReason))))
    ∧ (∀ d : DamperDyn, s.outputs[i] = .inService f (.damper d) → d.state = .hand →
      s.Refuses c src 25 tag .state)

/-! ## Chapter 6: the lines -/

/-- FIELD_FRAME, FIELD_MGMT_REQ and STANDARD_OR_REMOTE_FRAME: a frame of a kind the part does not judge, and a STATUS from
a node that is no IN_SERVICE output, goes up with its hop count one more; with hop count 15 it is dropped and counted, and
when the TRUNK queue is full it is decided by the full-queue rule (R127); a malformed STATUS is counted and goes up in the
same way; a MGMT_REQ from the field is counted and dropped; a standard or remote frame is counted as malformed on its
port. None changes anything else (R129, R131, R132, R181, R182). -/
def Obligations.FieldFramesGoUp : Prop :=
  ∀ (s : State) (ident : BitVec 29) (data : List Byte),
    let f := Frame.ofIdent ident data
    let heard := s.field.counters.heard
    (s.Hears .field → (s.restartPending = false ∨ s.trunk.TrunkHasRoom) →
      (f.kind ∉ [kindSample, kindStatus, kindMgmtReq] ∨ (f.kind = kindStatus ∧ s.outputAt f.src = none) →
        ∃ t, exec (.fieldFrame ident data) s = .next t ∧ s.OnlyLines t ∧ s.Upward t f heard)
      ∧ (∀ (i : Fin 24) (g : OutputFields) (d : OutputDyn), f.kind = kindStatus → s.outputAt f.src = some i →
          s.outputs[i] = .inService g d →
          (match d with
            | .fan _ => fanPayload? data = none
            | .damper _ => damperPayload? data = none) →
        ∃ t, exec (.fieldFrame ident data) s = .next t ∧ s.OnlyLines t
          ∧ s.Upward t f { heard with malformed := satInc heard.malformed }))
    ∧ (∀ hd : Header, s.Hears .field → ∃ t, exec (.fieldMgmtReq hd data) s = .next t ∧ s.StayedBelow t
        ∧ (s.setCounters { s.counters with mgmtDropped := satInc s.counters.mgmtDropped }).OnlyLines t)
    ∧ (s.Hears .field → ∃ t, exec (.standardOrRemoteFrame .field) s = .next t ∧ s.OnlyLines t
        ∧ s.trunk.SameLine t.trunk
        ∧ s.field.HeardOnly t.field { s.field.counters.heard with malformed := satInc s.field.counters.malformed })
    ∧ (s.Hears .trunk → ∃ t, exec (.standardOrRemoteFrame .trunk) s = .next t ∧ s.OnlyLines t
        ∧ s.field.SameLine t.field
        ∧ s.trunk.HeardOnly t.trunk { s.trunk.counters.heard with malformed := satInc s.trunk.counters.malformed })

/-- TRUNK_FRAME, for a frame that is no TIME: to another node than the part's own it goes down when the destination is
broadcast or a known field node, with its hop count one more; with hop count 15 it is dropped and counted, and when the
FIELD queue holds 16 forwarded frames it is decided by the full-queue rule (R127); a DRIVE that is broadcast or to an
output the part is driving is counted as blocked and does not go down; to an unknown node nothing happens, and neither
does a frame to the part of a kind it does not take (R129, R133 to R135). A MGMT_REQ to the part without its code and tag
is counted as malformed, and is neither answered nor forwarded (R120, R182). -/
def Obligations.TrunkFramesGoDown : Prop :=
  ∀ (s : State) (ident : BitVec 29) (data : List Byte),
    let f := Frame.ofIdent ident data
    let known : Prop := f.dst = 255 ∨ s.isKnownNode f.dst = true
    let driven : Prop := f.kind = kindDrive
      ∧ (f.dst = 255 ∨ ∃ i : Fin 24, s.outputAt f.dst = some i ∧ s.inHand i = false)
    s.Hears .trunk → f.kind ≠ kindTime →
    ∃ t, exec (.trunkFrame ident data) s = .next t
      ∧ (f.dst ≠ s.active.node → ¬known → s.OnlyLines t ∧ s.StayedAbove t)
      ∧ (f.dst ≠ s.active.node → known → driven → s.StayedAbove t
          ∧ (s.setCounters { s.counters with blockedDrive := satInc s.counters.blockedDrive }).OnlyLines t)
      ∧ (f.dst ≠ s.active.node → known → ¬driven → s.OnlyLines t ∧ s.Downward t f s.trunk.counters.heard)
      ∧ (f.dst = s.active.node → f.kind ∉ [kindMgmtReq, kindPanel] → s.OnlyLines t ∧ s.StayedAbove t)
      ∧ (f.dst = s.active.node → f.kind = kindMgmtReq → data.length < 2 → s.OnlyLines t ∧ s.field.SameLine t.field
          ∧ s.trunk.HeardOnly t.trunk { s.trunk.counters.heard with malformed := satInc s.trunk.counters.malformed })

/-- The full-queue rule (R125, R127): the TRUNK queue is full at 24 frames, and the FIELD queue for a forwarded frame at
16 forwarded frames. A frame that goes up or down into a full queue, the reply to a request, the reply to one that cannot
be decoded, and the reply of a SAVE at its completion: with no frame less urgent among those looked at it is dropped;
otherwise the newest of the least urgent ones is evicted and the frame joins, a forwarded frame being counted as
forwarded; either way the queue's port counts a drop. The effect of a request whose reply is dropped stands. SAMPLE,
STATUS, TIME and DRIVE frames that meet a full queue do so in the same words in the statements of their rows. -/
def Obligations.FullQueueEvictsTheLeastUrgent : Prop :=
  (trunkRoom = 24 ∧ fieldForwardedRoom = 16)
  ∧ (∀ (s : State) (ident : BitVec 29) (data : List Byte), s.restartPending = false →
    let f := Frame.ofIdent ident data
    f.hop ≠ 15 →
    (s.Hears .field → trunkRoom ≤ s.trunk.queue.length → f.kind ∉ [kindSample, kindStatus, kindMgmtReq] →
      ∃ t, exec (.fieldFrame ident data) s = .next t ∧ s.OnlyLines t ∧ s.Upward t f s.field.counters.heard)
    ∧ (s.Hears .trunk → fieldForwardedRoom ≤ (s.field.queue.filter QEntry.isForwarded).length →
        f.dst ≠ s.active.node → f.dst = 255 ∨ s.isKnownNode f.dst = true →
        f.kind ≠ kindTime →
        (f.kind = kindDrive → f.dst ≠ 255 ∧ ∀ i, s.outputAt f.dst = some i → s.inHand i = true) →
      ∃ t, exec (.trunkFrame ident data) s = .next t ∧ s.OnlyLines t ∧ s.Downward t f s.trunk.counters.heard))
  ∧ (∀ (s : State) (src code tag : Byte), s.Hears .trunk → s.restartPending = false → trunkRoom ≤ s.trunk.queue.length →
    let replied (u t : State) (result : Nat) (data : List Byte) : Prop :=
      u.field.SameLine t.field
        ∧ u.trunk.MetTrunk t.trunk (s.replyFrame src code tag result data) .reply u.trunk.counters
    (∀ args, decodeRequest code args = none → ∃ t, exec (.badRequest src code tag args) s = .next t
      ∧ s.OnlyLines t ∧ replied (s.heard .trunk) t 1 [])
    ∧ ∀ (r : Request) (c : Instr), Request.instr src tag r = some c → r.code = code →
      (∀ u data, (s.heard .trunk).decide r = .done u data →
        ∃ t, exec c s = .next t ∧ u.OnlyLines t ∧ replied u t 0 data)
      ∧ (∀ rc, (s.heard .trunk).decide r = .refused rc →
        ∃ t, exec c s = .next t ∧ s.OnlyLines t ∧ replied (s.heard .trunk) t rc.code rc.data))
  ∧ ∀ (s : State) (v : SaveInFlight) (matched : Bool),
    s.works = true → s.restartPending = false → trunkRoom ≤ s.trunk.queue.length → s.save = some v →
    ∃ t, exec (.saveComplete matched) s = .next t ∧ t.save = none ∧ s.field.SameLine t.field
      ∧ s.trunk.MetTrunk t.trunk (s.replyFrame v.requester 49 v.tag (if matched then 0 else 13) []) .reply s.trunk.counters

/-- The arbiter (R122, R126): a transmitter that is free takes the most urgent candidate. On the FIELD port that is the
oldest frame of the most urgent priority; on the TRUNK port a pending slot goes before a queued frame of its priority,
zone slots by zone number and trouble slots by points, outputs and the device, and its report is built from the values
held now. A zone report has the priority of its E, 1 in fire, 2 at FLAMMABLE, 4 at a fume level and 5 at CALM, and carries
the zone's levels, flags, demand and delivered flow; a trouble report has priority 3 and carries class, index, state,
reason, its marks and a fan's retry count (R119, R167, R169, section 11.2), with the other bits of byte 4 sent as 0
(chapter 11). That a point's report carries the code of its grade in two of those bits of byte 4, against the opening
sentence of chapter 11, is the model's choice for R3, whichever two they are (log entry 27). Every event that leaves the
part at work ends with both arbiters, nothing but they puts a frame on offer, and a reset leaves both transmitters free;
that the arbiters choose at the end of each event is the model's choice (log entry 6). -/
def Obligations.ArbitersTakeTheMostUrgent : Prop :=
  (∀ s : State,
    let t := s.arbitrate
    let oldest (p q : Port) (pre : List QEntry) (e : QEntry) (post : List QEntry) : Prop :=
      p.queue = pre ++ e :: post ∧ q.queue = pre ++ { e with attempt := some 0 } :: post
      ∧ (∀ x ∈ p.queue, e.frame.prio ≤ x.frame.prio) ∧ ∀ x ∈ pre, e.frame.prio < x.frame.prio
    (s.field.on = true → s.field.offers = 0 →
      (s.field.queue = [] → t.field = s.field)
      ∧ (s.field.queue ≠ [] → ∃ pre e post, oldest s.field t.field pre e post))
    ∧ (s.trunk.on = true → s.trunk.offers = 0 →
      (∀ r, t.trunk.report = some r → ∃ id : SlotId, r.slot = some id ∧ (s.slot id).pending = true
        ∧ s.report? id = some r.frame ∧ r.superseded = (s.slot id).superseded ∧ r.failures = 0
        ∧ t.trunk.queue = s.trunk.queue ∧ (∀ x ∈ s.trunk.queue, r.frame.prio ≤ x.frame.prio)
        ∧ (∀ id' f', (s.slot id').pending = true → s.report? id' = some f' → r.frame.prio ≤ f'.prio)
        ∧ (∀ (z y : Fin 8) (f' : Frame), id = .zone z → s.zoneSlots[y].pending = true → s.report? (.zone y) = some f' →
            f'.prio = r.frame.prio → z ≤ y)
        ∧ (∀ i j : Fin 64, id = .point i → s.pointSlots[j].slot.pending = true → i ≤ j)
        ∧ (∀ i j : Fin 24, id = .output i → s.outputSlots[j].slot.pending = true → i ≤ j)
        ∧ (id = .device ∨ (∃ i, id = .output i) → ∀ j : Fin 64, s.pointSlots[j].slot.pending = false)
        ∧ (id = .device → ∀ j : Fin 24, s.outputSlots[j].slot.pending = false))
      ∧ (t.trunk.report = none → s.trunk.queue ≠ [] → ∃ pre e post, oldest s.trunk t.trunk pre e post
          ∧ ∀ id' f', (s.slot id').pending = true → s.report? id' = some f' → e.frame.prio < f'.prio)
      ∧ (t.trunk.report = none → s.trunk.queue = [] →
          ∀ id', (s.slot id').pending = true → s.report? id' = none)))
  ∧ (∃ place : Nat, 2 ≤ place ∧ place ≤ 6 ∧ ∀ s : State,
    let marks (l : List Bool) : Byte := byte (l.foldr (fun b n => b.toNat + 2 * n) 0)
    let grade (g : Grade) : Nat := match g with
      | .clear => 0
      | .a => 1
      | .b => 2
    let troubledAt (g : Grade) (id : SlotId) (cls index state : Nat) (reason : Reason) (raised : Bool) (retries : Nat) :
        Prop :=
      s.report? id = some ⟨3, 21, 0, 255, s.active.node,
        [byte cls, byte index, byte state, byte reason.code,
          marks [raised, (s.slot id).superseded] + byte (grade g * 2 ^ place), byte retries]⟩
    let troubled := troubledAt .clear
    (∀ z f d, s.zones[z] = .inService f d → s.report? (.zone z) = some
      ⟨if 4 ≤ d.level then 1 else if d.level = 3 then 2 else if 1 ≤ d.level then 4 else 5, 20, 0, 255, s.active.node,
        [byte z.val, byte (d.level.val + 16 * d.cond.val),
          marks [d.inForce.l1, d.inForce.l2, d.inForce.l3, d.inForce.l4, d.inForce.l5],
          marks [d.releaseWait, d.accepted, d.short, d.suppress, d.held1 || d.held2, d.force != 0,
            s.zoneSlots[z].superseded],
          byte d.demand, byte (d.demand / 256), byte d.delivered, byte (d.delivered / 256)]⟩)
    ∧ (∀ z : Fin 8, s.zones[z].isInService = false → s.report? (.zone z) = none)
    ∧ (∀ i : Fin 64,
      (∀ f d r, s.points[i] = .inService f d → d.state = .fault r →
        troubledAt d.grade (.point i) 0 i.val 2 r.reason true 0)
      ∧ (∀ f d, s.points[i] = .inService f d → d.state.isFault = false →
          troubledAt d.grade (.point i) 0 i.val (if d.state = .live then 1 else 0) s.pointSlots[i].lastReason false 0)
      ∧ (s.points[i].isInService = false → troubled (.point i) 0 i.val 15 s.pointSlots[i].lastReason false 0))
    ∧ (∀ i : Fin 24,
      (∀ f d r, s.outputs[i] = .inService f (.fan d) → d.state = .fault r →
        troubled (.output i) 1 i.val 5 r.reason true d.retryCount)
      ∧ (∀ f d, s.outputs[i] = .inService f (.fan d) → d.state.isFault = false → troubled (.output i) 1 i.val d.state.code
          (if d.noPath then .noPath else s.outputSlots[i].lastReason) d.noPath d.retryCount)
      ∧ (∀ f d r, s.outputs[i] = .inService f (.damper d) → d.state = .fault r →
        troubled (.output i) 1 i.val 2 r.reason true 0)
      ∧ (∀ f d, s.outputs[i] = .inService f (.damper d) → d.state.isFault = false →
          troubled (.output i) 1 i.val d.state.code s.outputSlots[i].lastReason false 0)
      ∧ (s.outputs[i].isInService = false → troubled (.output i) 1 i.val 15 s.outputSlots[i].lastReason false 0))
    ∧ troubled .device 2 0 s.storeState.code s.storeState.reason (s.storeState != .valid) 0)
  ∧ ∀ s t : State,
    let ended : Prop := t = s ∨ t.works = false ∨ t.JustReset
      ∨ ∃ u : State, t = u.arbitrate ∧ ∀ p, (u.port p).offers ≤ (s.port p).offers
    (∀ c, exec c s = .next t → ended) ∧ (s.pending = [] → step s = .next t → ended)

/-- TRANSMIT_COMPLETE (R122): a report ends its offer, and its slot is clear, or pending again when it was renewed (R167);
a queued frame leaves its queue, and a run DRIVE advances its fan's dither index (R88). Nothing else changes but what is
on offer. The row is taken whenever a frame is on offer (the model's choice, log entry 4). -/
def Obligations.CompletedFrameLeaves : Prop :=
  ∀ (s : State) (p : PortId), s.Hears p → (s.port p).Sound →
    (∀ r, (s.port p).report = some r → ∃ t, exec (.transmitComplete p) s = .next t ∧ s.QuietLines t
      ∧ match r.slot with
        | some id => (s.setSlot id ⟨(s.slot id).renewed, false, false⟩).OnlyLines t
        | none => s.OnlyLines t)
    ∧ (∀ (pre post : List QEntry) (e : QEntry), (s.port p).queue = pre ++ e :: post → e.onOffer = true →
        e.origin ≠ .restartReply →
      ∃ t, exec (.transmitComplete p) s = .next t
        ∧ (t.port p).frames = (pre ++ post).map (fun x => (x.frame, x.origin))
        ∧ (t.port p).counters = (s.port p).counters ∧ (t.port p).on = true
        ∧ (∀ q, q ≠ p → (s.port q).SameLine (t.port q))
        ∧ (∀ (i : Fin 24) (g : OutputFields) (d : FanDyn), e.origin = .drive i true → s.outputs[i] = .inService g (.fan d) →
            (s.setOutput i (.inService g (.fan { d with dither := d.dither + 1 }))).OnlyLines t)
        ∧ ((∀ i, e.origin ≠ .drive i true) → s.OnlyLines t))

/-- FAILED_ATTEMPT, ARBITRATION_LOST, FRAME_ABANDON and RECOVERY_TIMER_EXPIRY (R122, R123): a failure adds to the count of
the frame on offer, and the 32nd abandons it; a lost arbitration changes nothing; an abandoned frame leaves its queue, or
is discarded with its slot left pending, SUPERSEDED when it was built so or was renewed (R167), and the port goes OFF with
its recovery timer started; at its expiry the port is ON. The rows are taken whenever a frame is on offer, FRAME_ABANDON
at any count (the model's choice, log entries 4 and 5). -/
def Obligations.FailuresAbandonTheFrame : Prop :=
  ∀ (s : State) (p : PortId), s.works = true → s.restartDue = false → (s.port p).Sound →
    let n := (s.port p).failures
    let others (t : State) : Prop := ∀ q, q ≠ p → (s.port q).SameLine (t.port q)
    let off (t : State) : Prop :=
      (t.port p).on = false ∧ (t.port p).offers = 0 ∧ (t.port p).recovery = timerOf 1
        ∧ (t.port p).counters = { (s.port p).counters with
            abandoned := satInc (s.port p).counters.abandoned, offEntries := satInc (s.port p).counters.offEntries }
    ((s.port p).on = true → (s.port p).offers = 1 →
      (n + 1 < 32 → ∃ t, exec (.failedAttempt p) s = .next t ∧ s.OnlyLines t ∧ s.QuietLines t
        ∧ (t.port p).offers = 1 ∧ (t.port p).failures = n + 1)
      ∧ (n + 1 = 32 → exec (.failedAttempt p) s = exec (.frameAbandon p) s)
      ∧ (∃ t, exec (.arbitrationLost p) s = .next t ∧ s.OnlyLines t ∧ s.QuietLines t ∧ t.port p = s.port p)
      ∧ (∀ r, (s.port p).report = some r → ∃ t, exec (.frameAbandon p) s = .next t ∧ off t ∧ others t
          ∧ (t.port p).frames = (s.port p).frames
          ∧ match r.slot with
            | some id =>
              (s.setSlot id ⟨(s.slot id).pending, r.superseded || (s.slot id).renewed, false⟩).OnlyLines t
            | none => s.OnlyLines t)
      ∧ (∀ (pre post : List QEntry) (e : QEntry), (s.port p).queue = pre ++ e :: post → e.onOffer = true →
          e.origin ≠ .restartReply →
          ∃ t, exec (.frameAbandon p) s = .next t ∧ off t ∧ others t
            ∧ (t.port p).frames = (pre ++ post).map (fun x => (x.frame, x.origin))
            ∧ (∀ (i : Fin 24) (g : OutputFields) (d : FanDyn), e.origin = .drive i true →
                s.outputs[i] = .inService g (.fan d) →
                (s.setOutput i (.inService g (.fan { d with dither := d.dither + 1 }))).OnlyLines t)
            ∧ ((∀ i, e.origin ≠ .drive i true) → s.OnlyLines t)))
    ∧ ((s.port p).on = false → ∃ t, exec (.recoveryTimerExpiry p) s = .next t ∧ s.OnlyLines t ∧ others t
      ∧ (t.port p).on = true ∧ (t.port p).recovery = none ∧ (t.port p).frames = (s.port p).frames
      ∧ (t.port p).counters = (s.port p).counters)

/-- A raw identifier and its five parts are the same thing (R181): each gives back the other, and a FIELD_FRAME or
TRUNK_FRAME whose identifier has the kind of another row is that row. That a frame is decided by its identifier whatever
row names it is the model's choice (log entry 11). -/
def Obligations.RawFramesAreTheirRows : Prop :=
  (∀ f : Frame, Frame.ofIdent f.ident f.data = f)
  ∧ (∀ (ident : BitVec 29) (data : List Byte), (Frame.ofIdent ident data).ident = ident)
  ∧ (∀ f : Frame, f.ident.toNat = ((((f.prio.toNat * 64 + f.kind.toNat) * 16 + f.hop.toNat) * 256 + f.dst.toNat) * 256
      + f.src.toNat))
  ∧ ∀ (s : State) (hd : Header) (data : List Byte),
    exec (.fieldFrame (hd.frame kindSample data).ident data) s = exec (.sample hd data) s
    ∧ exec (.fieldFrame (hd.frame kindStatus data).ident data) s = exec (.statusFan hd data) s
    ∧ exec (.fieldFrame (hd.frame kindStatus data).ident data) s = exec (.statusDamper hd data) s
    ∧ exec (.fieldFrame (hd.frame kindMgmtReq data).ident data) s = exec (.fieldMgmtReq hd data) s
    ∧ exec (.trunkFrame (hd.frame kindTime data).ident data) s = exec (.time hd data) s
    ∧ exec (.trunkFrame (hd.frame kindPanel (1 :: data)).ident (1 :: data)) s = exec (.panelAlarm hd data) s
    ∧ exec (.trunkFrame (hd.frame kindPanel (2 :: data)).ident (2 :: data)) s = exec (.panelNormal hd data) s

/-! ## Chapters 7 and 8: tables and requests -/

/-- Decode and encode agree (R154, section 11.3): the code and argument bytes of every request decode to it, whatever
bytes follow; and the same bytes in a MGMT_REQ to the part are the request's own row, as a raw frame and as a BAD_REQUEST.
That a request row stands for a frame to the part's active node is the model's choice (log entry 12). -/
def Obligations.RequestsDecodeToTheirRows : Prop :=
  (∀ (r : Request) (extra : List Byte), decodeRequest r.code (r.args ++ extra) = some r)
  ∧ (∀ (code : Byte) (args : List Byte) (r : Request), decodeRequest code args = some r →
      code = r.code ∧ ∃ extra, args = r.args ++ extra)
  ∧ ∀ (s : State) (hd : Header) (tag : Byte) (r : Request) (c : Instr) (extra : List Byte),
    Request.instr hd.src tag r = some c → hd.dst = s.active.node → (r.args ++ extra).length ≤ 6 →
    let data := r.code :: tag :: (r.args ++ extra)
    exec (.trunkFrame (hd.frame kindMgmtReq data).ident data) s = exec c s
    ∧ exec (.badRequest hd.src r.code tag (r.args ++ extra)) s = exec c s

/-- A request that cannot be decoded is answered BAD_REQUEST, a decoded one BUSY while a RESTART is pending, and one whose
checks fail with its result; each such reply goes to the requester with its code and tag, and nothing else changes (R154,
R155, R165). A table request is answered BAD_TABLE for a table it does not take and BAD_INDEX for an index outside the
table (R152); a zone, output or point request BAD_INDEX for an index outside its table, STATE for an entry out of service,
and OUT_OF_RANGE for a setting, level or page that there is not (R46, R48, R113, R116, R158 to R160); READ_COUNTER
OUT_OF_RANGE for a class or number that there is not, and for a point's counter BAD_INDEX and STATE (R161). -/
def Obligations.RefusalsChangeNothing : Prop :=
  (∀ (s : State) (src code tag : Byte) (args : List Byte), s.Hears .trunk → s.trunk.queue.length < trunkRoom →
    (decodeRequest code args = none → s.Refuses (.badRequest src code tag args) src code tag .badRequest)
    ∧ (∀ r c, Request.instr src tag r = some c →
        (s.restartPending = true → s.Refuses c src r.code tag .busy)
        ∧ (∀ rc, s.restartPending = false → (s.heard .trunk).decide r = .refused rc → s.Refuses c src r.code tag rc)))
  ∧ ∀ (s : State) (src tag : Byte), s.Ready →
    let answered (r : Request) (rc : ReplyCode) : Prop :=
      ∀ c, c = .badRequest src r.code tag r.args ∨ Request.instr src tag r = some c → s.Refuses c src r.code tag rc
    -- the table requests
    (∀ (table index field : Byte) (value : BitVec 16) (presence : Byte),
      let entries : Nat := [0, 64, 8, 24, 8, 5, 2, 1].getD table.toNat 0
      let inside : Prop :=
        if table = 5 then 1 ≤ index.toNat ∧ index.toNat ≤ entries else index.toNat < entries
      let named (tables : List Byte) (r : Request) : Prop :=
        (table ∉ tables → answered r .badTable) ∧ (table ∈ tables → ¬inside → answered r .badIndex)
      named [1, 2, 3, 4] (.entryOpen table index) ∧ named [1, 2, 3, 4] (.entryCommission table index)
      ∧ named [1, 2, 3, 4] (.entryRetire table index) ∧ named [1, 2, 3, 4] (.entryClear table index)
      ∧ named [1, 2, 3, 4, 5, 6, 7] (.entrySet table index field value presence)
      ∧ named [1, 2, 3, 4, 5, 6, 7] (.entryGet table index field)
      ∧ named [2, 6] (.entryTune table index field value))
    -- the zone, output and point requests
    ∧ (∀ (index arg : Byte),
      (∀ r ∈ [Request.zoneRelease index arg, .zoneSuppress index arg, .zoneForce index arg, .readZone index arg],
        (8 ≤ index.toNat → answered r .badIndex)
        ∧ ∀ z : Fin 8, index.toNat = z.val → s.zones[z].isInService = false → answered r .state)
      ∧ (∀ z : Fin 8, index.toNat = z.val → s.zones[z].isInService = true →
        (1 < arg.toNat → answered (.zoneSuppress index arg) .outOfRange)
        ∧ (5 < arg.toNat → answered (.zoneForce index arg) .outOfRange)
        ∧ (4 < arg.toNat → answered (.readZone index arg) .outOfRange))
      ∧ (∀ r ∈ [Request.outputHand index arg, .outputReset index, .readOutput index arg],
        (24 ≤ index.toNat → answered r .badIndex)
        ∧ ∀ i : Fin 24, index.toNat = i.val → s.outputs[i].isInService = false → answered r .state)
      ∧ (∀ i : Fin 24, index.toNat = i.val → s.outputs[i].isInService = true →
        (1 < arg.toNat → answered (.outputHand index arg) .outOfRange)
        ∧ (2 < arg.toNat ∨ (1 < arg.toNat ∧ s.damper? i ≠ none) → answered (.readOutput index arg) .outOfRange))
      ∧ (64 ≤ index.toNat → answered (.readPoint index arg) .badIndex)
      ∧ (∀ i : Fin 64, index.toNat = i.val →
        (s.points[i].isInService = false → answered (.readPoint index arg) .state)
        ∧ (s.points[i].isInService = true → 3 < arg.toNat → answered (.readPoint index arg) .outOfRange)))
    -- READ_COUNTER
    ∧ ∀ cls number index : Byte,
      (3 < cls.toNat ∨ [6, 6, 5, 0].getD cls.toNat 0 < number.toNat → answered (.readCounter cls number index) .outOfRange)
      ∧ (64 ≤ index.toNat → answered (.readCounter 3 0 index) .badIndex)
      ∧ ∀ i : Fin 64, index.toNat = i.val → s.points[i].isInService = false →
          answered (.readCounter 3 0 index) .state

/-- The save lock and the fire lock (R150, R151, R152): while a SAVE is in flight every request that changes a table,
RESTART and a second SAVE are answered BUSY; under the fire lock, which is one zone in fire (R52), RESTART and an
ENTRY_SET on the response table are answered LOCKED, and so are the retirement of a point of a zone in fire, and HAND and
the retirement of an output that a zone in fire names as a fan or a damper (R113, R145). -/
def Obligations.LocksRefuse : Prop :=
  (∀ s : State, (s.fireState = true ↔ ∃ z, s.ZoneInFire z)
    ∧ (∀ z, isFire (s.zoneLevel z) = true ↔ s.ZoneInFire z)
    ∧ ∀ i, s.outputLocked i = true ↔ ∃ z, s.ZoneNames z i ∧ s.ZoneInFire z)
  ∧ ∀ (s : State) (src tag table index field : Byte) (value : BitVec 16) (presence : Byte), s.Ready →
    (s.saving = true →
      (∀ r, lifeCycleRef table index = .ok r →
        s.Refuses (.entryOpen src tag table index) src 1 tag .busy
        ∧ s.Refuses (.entryCommission src tag table index) src 4 tag .busy
        ∧ s.Refuses (.entryRetire src tag table index) src 5 tag .busy
        ∧ s.Refuses (.entryClear src tag table index) src 6 tag .busy)
      ∧ (∀ r, entryRef table index = .ok r →
        s.Refuses (.entrySet src tag table index field value presence) src 2 tag .busy)
      ∧ (∀ r, tuneRef table index = .ok r → s.Refuses (.entryTune src tag table index field value) src 7 tag .busy)
      ∧ s.Refuses (.save src tag) src 49 tag .busy ∧ s.Refuses (.restart src tag) src 50 tag .busy)
    ∧ (s.saving = false → (∃ z, s.ZoneInFire z) →
      s.Refuses (.restart src tag) src 50 tag .locked
      ∧ (∀ l : Fin 5, index.toNat = l.val + 1 →
          s.Refuses (.entrySet src tag 5 index field value presence) src 2 tag .locked))
    ∧ (∀ (i : Fin 64) (f : PointFields) (d : PointDyn), s.saving = false → indexOf 64 index = some i →
        s.points[i] = .inService f d → s.ZoneInFire f.zone → s.Refuses (.entryRetire src tag 1 index) src 5 tag .locked)
    ∧ (∀ i : Fin 24, indexOf 24 index = some i → s.outputs[i].isInService = true →
        (∃ z, s.ZoneNames z i ∧ s.ZoneInFire z) →
        s.Refuses (.outputHandOn src tag index) src 24 tag .locked
        ∧ (s.saving = false → s.Refuses (.entryRetire src tag 3 index) src 5 tag .locked))

/-- ENTRY_OPEN takes a VACANT entry to DRAFT with its defaults, and ENTRY_CLEAR takes a DRAFT entry to VACANT; in another
state they are answered STATE (R137, R140). -/
def Obligations.EntriesOpenAndClear : Prop :=
  ∀ (s : State) (src tag index : Byte), s.Ready → s.saving = false →
    let opens (table : Byte) (u : State) : Prop := s.Done (.entryOpen src tag table index) src 1 tag [] u
    let clears (table : Byte) (u : State) : Prop := s.Done (.entryClear src tag table index) src 6 tag [] u
    (∀ i, indexOf 64 index = some i →
      (s.points[i] = .vacant → opens 1 (s.setPoint i (.draft PointFields.default)))
      ∧ (∀ f, s.points[i] = .draft f → clears 1 (s.setPoint i .vacant)))
    ∧ (∀ z, indexOf 8 index = some z →
      (s.zones[z] = .vacant → opens 2 (s.setZone z (.draft ZoneFields.default)))
      ∧ (∀ f, s.zones[z] = .draft f → clears 2 (s.setZone z .vacant)))
    ∧ (∀ i, indexOf 24 index = some i →
      (s.outputs[i] = .vacant → opens 3 (s.setOutput i (.draft OutputFields.default)))
      ∧ (∀ f, s.outputs[i] = .draft f → clears 3 (s.setOutput i .vacant)))
    ∧ (∀ w, indexOf 8 index = some w →
      (s.windows[w] = .vacant → opens 4 (s.setWindow w (.draft WindowFields.default)))
      ∧ (∀ f, s.windows[w] = .draft f → clears 4 (s.setWindow w .vacant)))
    ∧ (∀ table r, lifeCycleRef table index = .ok r →
      (s.lifeCycle r ≠ .vacant → s.Refuses (.entryOpen src tag table index) src 1 tag .state)
      ∧ (s.lifeCycle r ≠ .draft → s.Refuses (.entryClear src tag table index) src 6 tag .state))

/-- ENTRY_SET (R138, R139, R147, R148, R152): the field of a DRAFT entry of tables 1 to 4, of the response table or of the
pending device record is written with the value, or with absence; a purge period is staged (R72, R73); a value that the
field does not take is refused with its result, and a node that another entry or a copy of the device record has with
NODE_DUPLICATE. An entry of tables 1 to 4 that is not in DRAFT is answered STATE. A presence byte above 1 is OUT_OF_RANGE
for a field the entry has (R156); that the field code is checked before it is the model's reading (log entry 25). -/
def Obligations.EntrySetWritesOneField : Prop :=
  ∀ (s : State) (src tag index field : Byte) (value : BitVec 16) (presence : Byte),
    s.Ready → s.saving = false →
    let v : Option Nat := if presence = 0 then some value.toNat else none
    let writes (table : Byte) (u : State) : Prop :=
      s.Done (.entrySet src tag table index field value presence) src 2 tag [] u
    let refuses (table : Byte) (r : ReplyCode) : Prop :=
      s.Refuses (.entrySet src tag table index field value presence) src 2 tag r
    let shared (point : Option (Fin 64)) (output : Option (Fin 24)) (old new : Option Byte) : Prop :=
      ∃ n, new = some n ∧ old ≠ some n ∧ s.NodeInUse point output n
    (presence.toNat ≤ 1 →
      (∀ i f, indexOf 64 index = some i → s.points[i] = .draft f →
        (∀ f', f.set field.toNat v = .ok f' →
          (¬shared (some i) none f.node f'.node → writes 1 (s.setPoint i (.draft f')))
          ∧ (shared (some i) none f.node f'.node → refuses 1 (.checkFailed .nodeDuplicate)))
        ∧ (∀ r, f.set field.toNat v = .error r → refuses 1 r))
      ∧ (∀ z f, indexOf 8 index = some z → s.zones[z] = .draft f →
        (∀ f', f.set field.toNat v = .ok f' → writes 2 (s.setZone z (.draft f')))
        ∧ (∀ r, f.set field.toNat v = .error r → refuses 2 r))
      ∧ (∀ i f, indexOf 24 index = some i → s.outputs[i] = .draft f →
        (∀ f', f.set field.toNat v = .ok f' →
          (¬shared none (some i) f.node f'.node → writes 3 (s.setOutput i (.draft f')))
          ∧ (shared none (some i) f.node f'.node → refuses 3 (.checkFailed .nodeDuplicate)))
        ∧ (∀ r, f.set field.toNat v = .error r → refuses 3 r))
      ∧ (∀ w f, indexOf 8 index = some w → s.windows[w] = .draft f →
        (∀ f', f.set field.toNat v = .ok f' → writes 4 (s.setWindow w (.draft f')))
        ∧ (∀ r, f.set field.toNat v = .error r → refuses 4 r))
      ∧ (∀ l : Fin 5, index.toNat = l.val + 1 → (∀ z, ¬s.ZoneInFire z) →
        (∀ r', s.response.set l field.toNat v = .ok r' → writes 5 (s.setResponse r'))
        ∧ (∀ r, s.response.set l field.toNat v = .error r → refuses 5 r))
      ∧ (∀ j, indexOf 2 index = some j → field = 1 →
        (∀ n, v = some n → 5 ≤ n → n ≤ 240 →
          (s.PeriodFits j n → writes 6 (s.setClock j { s.clocks[j] with staged := some n }))
          ∧ (¬s.PeriodFits j n → refuses 6 (.checkFailed .purgeRange)))
        ∧ (∀ n, v = some n → n < 5 ∨ 240 < n → refuses 6 .outOfRange)
        ∧ (v = none → refuses 6 .outOfRange))
      ∧ (index = 0 →
        (∀ r', s.pendingRecord.set field.toNat v = .ok r' →
          let duplicate : Prop := field = 1 ∧ ((∃ i, s.PointHasNode i r'.node) ∨ ∃ i, s.OutputHasNode i r'.node)
          (¬duplicate → writes 7 (s.setPendingRecord r')) ∧ (duplicate → refuses 7 (.checkFailed .nodeDuplicate)))
        ∧ (∀ r, s.pendingRecord.set field.toNat v = .error r → refuses 7 r)))
    ∧ (∀ i, indexOf 64 index = some i → (∀ f, s.points[i] ≠ .draft f) → refuses 1 .state)
    ∧ (∀ z, indexOf 8 index = some z → (∀ f, s.zones[z] ≠ .draft f) → refuses 2 .state)
    ∧ (∀ i, indexOf 24 index = some i → (∀ f, s.outputs[i] ≠ .draft f) → refuses 3 .state)
    ∧ (∀ w, indexOf 8 index = some w → (∀ f, s.windows[w] ≠ .draft f) → refuses 4 .state)
    ∧ (∀ j, indexOf 2 index = some j → field ≠ 1 → refuses 6 .badField)
    ∧ (1 < presence.toNat →
      let judged (table : Byte) (held : Option (Option Nat)) : Prop :=
        (held ≠ none → refuses table .outOfRange) ∧ (held = none → refuses table .badField)
      (∀ i f, indexOf 64 index = some i → s.points[i] = .draft f → judged 1 (f.get field.toNat))
      ∧ (∀ z f, indexOf 8 index = some z → s.zones[z] = .draft f → judged 2 (f.get field.toNat))
      ∧ (∀ i f, indexOf 24 index = some i → s.outputs[i] = .draft f → judged 3 (f.get field.toNat))
      ∧ (∀ w f, indexOf 8 index = some w → s.windows[w] = .draft f → judged 4 (f.get field.toNat))
      ∧ (∀ l : Fin 5, index.toNat = l.val + 1 → (∀ z, ¬s.ZoneInFire z) → judged 5 (s.response.get l field.toNat))
      ∧ (∀ j, indexOf 2 index = some j → field = 1 → refuses 6 .outOfRange)
      ∧ (index = 0 → judged 7 (s.pendingRecord.get field.toNat)))

/-- The field catalogue (R184): the code of every field of the seven tables, the range and absence that its writing takes,
anything else of a field being OUT_OF_RANGE, and its default. A field that is written reads back as it was written, and
every other field of the entry reads as before (R138, R147, R148, R157); a code the entry does not have is BAD_FIELD, and
no other write is (R152). Beside the defaults stands the state that a zone and a fan take at commission and at each reset
(R26, R97). The allocator's values of a fan start at 0, STOP and no hold (R94). -/
def Obligations.FieldsReadBackAsWritten : Prop :=
  let agree {φ : Type} (get : φ → Nat → Option (Option Nat)) (set : φ → Nat → Option Nat → Written φ) : Prop :=
    ∀ (f : φ) (code : Nat) (v : Option Nat),
      (∀ f', set f code v = .ok f' → get f' code = some v ∧ ∀ k, k ≠ code → get f' k = get f k)
      ∧ (get f code = none ↔ set f code v = .error .badField)
  let takes {φ : Type} (set : φ → Nat → Option Nat → Written φ) (code : Nat) (values : Nat → Prop) (optional : Bool) : Prop :=
    ∀ (f : φ) (v : Option Nat),
      let good : Prop := match v with
        | some n => values n
        | none => optional = true
      (good → ∃ f', set f code v = .ok f') ∧ (¬good → set f code v = .error .outOfRange)
  let ranged {φ : Type} (set : φ → Nat → Option Nat → Written φ) (code lo hi : Nat) (optional : Bool) : Prop :=
    takes set code (fun n => lo ≤ n ∧ n ≤ hi) optional
  let orNone (hi : Nat) (n : Nat) : Prop := n ≤ hi ∨ n = 255
  let index {n : Nat} (v : Option (Fin n)) : Nat := match v with
    | some i => i.val
    | none => 255
  (agree PointFields.get PointFields.set ∧ agree ZoneFields.get ZoneFields.set ∧ agree OutputFields.get OutputFields.set
    ∧ agree WindowFields.get WindowFields.set ∧ agree DeviceRecord.get DeviceRecord.set
    ∧ (∀ l : Fin 5, agree (Response.get · l) (Response.set · l))
    ∧ ∀ (r r' : Response) (l k : Fin 5) (code c : Nat) (v : Option Nat), r.set l code v = .ok r' → k ≠ l →
      r'.get k c = r.get k c)
  -- POINT
  ∧ (∀ f : PointFields, (List.range 26).map f.get =
      [none, some (f.node.map BitVec.toNat), some (some f.zone.val),
        some (some (match f.kind with
          | .co => 0 | .no2 => 1 | .h2 => 2 | .smoke => 3 | .heat => 4)),
        some (some f.width), some (some f.raw1), some (some f.raw2), some f.raw3, some f.raw4, some (some f.val1),
        some (some f.val2), some (some f.val3), some (some f.val4), some (some f.depth), some (some f.riseA),
        some (some f.fallA), some (some f.levelA.val), some f.riseB, some f.fallB, some (f.levelB.map Fin.val),
        some (some f.confirm), some (some f.gain), some (some f.interval), some (some f.silenceMult),
        some (some f.faultLevel.val), some (some f.forwardEvery)])
  ∧ (∀ r ∈ [(1, 1, 254, true), (2, 0, 7, false), (3, 0, 4, false), (4, 9, 16, false), (5, 0, 65535, false),
        (6, 0, 65535, false), (7, 0, 65535, true), (8, 0, 65535, true), (9, 0, 65535, false), (10, 0, 65535, false),
        (11, 0, 65535, false), (12, 0, 65535, false), (13, 0, 4, false), (14, 0, 65535, false), (15, 0, 65535, false),
        (16, 1, 4, false), (17, 0, 65535, true), (18, 0, 65535, true), (19, 1, 4, true), (20, 1, 8, false),
        (21, 0, 255, false), (22, 1, 60, false), (23, 2, 8, false), (24, 0, 3, false), (25, 0, 15, false)],
      ranged PointFields.set r.1 r.2.1 r.2.2.1 r.2.2.2)
  ∧ PointFields.default = ⟨none, 0, .co, 12, 0, 4095, none, none, 0, 1000, 0, 0, 2, 50, 35, 1, none, none, none, 2, 0, 10, 3,
      0, 0⟩
  -- ZONE
  ∧ (∀ f : ZoneFields, (List.range 20).map f.get =
      none :: [f.count, f.fans[0].val, f.fans[1].val, f.fans[2].val, f.fans[3].val, index f.dampers[0],
        index f.dampers[1], index f.dampers[2], index f.dampers[3], f.minFlow, f.fumeLowFlow, f.fumeHighFlow, f.maxFlow,
        f.flammableFlow, f.fireFlow, index f.clock, f.purgeStart, f.purgeDuration, f.purgeFlow].map fun n => some (some n))
  ∧ (∀ r ∈ [(1, 1, 4), (2, 0, 23), (3, 0, 23), (4, 0, 23), (5, 0, 23), (10, 0, 65535), (11, 0, 65535), (12, 0, 65535),
        (13, 0, 65535), (14, 0, 65535), (15, 0, 65535), (17, 0, 239), (18, 1, 240), (19, 0, 65535)],
      ranged ZoneFields.set r.1 r.2.1 r.2.2 false)
  ∧ (∀ code ∈ [6, 7, 8, 9], takes ZoneFields.set code (orNone 23) false) ∧ takes ZoneFields.set 16 (orNone 1) false
  ∧ ZoneFields.default = ⟨1, #v[0, 0, 0, 0], #v[none, none, none, none], 0, 0, 0, 0, 0, 0, none, 0, 1, 0⟩
  -- OUTPUT
  ∧ (∀ f : OutputFields, (List.range 11).map f.get =
      [none, some (f.node.map BitVec.toNat), some (some (match f.kind with
          | .fan => 0 | .damper => 1)),
        some (some f.rated), some (some f.minStep), some (some f.proof), some (some f.startTimeout),
        some (some f.statusTimeout), some (some (if f.nonex then 1 else 0)), some (some f.retryInterval),
        some (some f.travelTimeout)])
  ∧ (∀ r ∈ [(1, 1, 254, true), (2, 0, 1, false), (3, 1, 65535, false), (4, 0, 255, false), (5, 50, 100, false),
        (6, 5, 120, false), (7, 2, 60, false), (8, 0, 1, false), (9, 10, 600, false), (10, 5, 120, false)],
      ranged OutputFields.set r.1 r.2.1 r.2.2.1 r.2.2.2)
  ∧ OutputFields.default = ⟨none, .fan, 1000, 40, 80, 30, 5, false, 60, 20⟩
  -- WINDOW
  ∧ (∀ f : WindowFields, (List.range 6).map f.get = none :: [f.dayMask.toNat, f.start, f.stop, f.zoneMask.toNat,
      f.floor].map fun n => some (some n))
  ∧ (∀ r ∈ [(1, 0, 127), (2, 0, 1439), (3, 0, 1439), (4, 0, 255), (5, 0, 65535)],
      ranged WindowFields.set r.1 r.2.1 r.2.2 false)
  ∧ WindowFields.default = ⟨0, 0, 60, 0, 0⟩
  -- RESPONSE, PURGE_CLOCK and DEVICE
  ∧ (∀ (r : Response) (l : Fin 5), r.get l 1 = some (some r.runOn[l])
      ∧ r.get l 2 = (match l with
        | 3 => some (some (if r.confine4 then 1 else 0))
        | 4 => some (some (if r.confine5 then 1 else 0))
        | _ => none)
      ∧ ∀ code, code ≠ 1 → code ≠ 2 → r.get l code = none)
  ∧ (∀ l : Fin 5, ranged (Response.set · l) 1 0 3600 false ∧ (3 ≤ l → ranged (Response.set · l) 2 0 1 false))
  ∧ Response.default = ⟨#v[300, 600, 900, 1800, 1800], true, true⟩
  ∧ PurgeClock.default = ⟨60, 0, none⟩
  ∧ (∀ r : DeviceRecord, (List.range 6).map r.get = none :: [r.node.toNat, r.panelNode.toNat, r.drivePeriod, r.fieldRate,
      r.trunkRate].map fun n => some (some n))
  ∧ (∀ r ∈ [(1, 1, 254), (2, 0, 254), (3, 1, 8)], ranged DeviceRecord.set r.1 r.2.1 r.2.2 false)
  ∧ (∀ code ∈ [4, 5], takes DeviceRecord.set code (fun n => n = 125 ∨ n = 250 ∨ n = 500) false)
  ∧ DeviceRecord.default = ⟨200, 0, 4, 250, 250⟩
  -- the state taken at commission and at each reset
  ∧ ZoneDyn.initial = ⟨0, 0, false, ⟨false, false, false, false, false⟩, false, false, false, none, false, false, false, 0,
      #v[0, 0, 0, 0], 0, none, none, none⟩
  ∧ FanDyn.initial = ⟨.stopped, false, none, none, none, none, none, 0, none, 0, 0, 0, false, .none, 0⟩

/-- ENTRY_GET (R157, R183): the life-cycle state, the value of the field and, for a zone's staged tune, a staged period
and the pending device record, the second value; a VACANT entry answers no value, and an unknown field code is BAD_FIELD.
The field code of a VACANT entry is checked against its table (log entry 25). Two copies of the device record that differ
differ in a field that ENTRY_GET reads (R149). -/
def Obligations.EntryGetReadsTheField : Prop :=
  ∀ (s : State) (src tag index field : Byte), s.Ready →
    let reads (table : Byte) (life : Nat) (v second : Option Nat) : Prop :=
      s.Done (.entryGet src tag table index field) src 3 tag
        [byte (life + (if v = none then 4 else 0) + (if second = none then 0 else 8)),
          byte (v.getD 0), byte (v.getD 0 / 256), byte (second.getD 0), byte (second.getD 0 / 256)] s
    let unknown (table : Byte) : Prop := s.Refuses (.entryGet src tag table index field) src 3 tag .badField
    (∀ i, indexOf 64 index = some i →
      (∀ f v, f.get field.toNat = some v →
        (s.points[i] = .vacant → reads 1 0 none none) ∧ (s.points[i] = .draft f → reads 1 1 v none)
        ∧ (∀ d, s.points[i] = .inService f d → reads 1 2 v none))
      ∧ (PointFields.get PointFields.default field.toNat = none → unknown 1))
    ∧ (∀ z, indexOf 8 index = some z →
      (∀ f v, f.get field.toNat = some v →
        (s.zones[z] = .vacant → reads 2 0 none none) ∧ (s.zones[z] = .draft f → reads 2 1 v none)
        ∧ (∀ d, s.zones[z] = .inService f d → reads 2 2 v
            (if field = 17 then d.stagedStart else if field = 18 then d.stagedDuration
              else if field = 19 then d.stagedFlow else none)))
      ∧ (ZoneFields.get ZoneFields.default field.toNat = none → unknown 2))
    ∧ (∀ i, indexOf 24 index = some i →
      (∀ f v, f.get field.toNat = some v →
        (s.outputs[i] = .vacant → reads 3 0 none none) ∧ (s.outputs[i] = .draft f → reads 3 1 v none)
        ∧ (∀ d, s.outputs[i] = .inService f d → reads 3 2 v none))
      ∧ (OutputFields.get OutputFields.default field.toNat = none → unknown 3))
    ∧ (∀ w, indexOf 8 index = some w →
      (∀ f v, f.get field.toNat = some v →
        (s.windows[w] = .vacant → reads 4 0 none none) ∧ (s.windows[w] = .draft f → reads 4 1 v none)
        ∧ (s.windows[w] = .inService f () → reads 4 2 v none))
      ∧ (WindowFields.get WindowFields.default field.toNat = none → unknown 4))
    ∧ (∀ l : Fin 5, index.toNat = l.val + 1 → (∀ v, s.response.get l field.toNat = some v → reads 5 3 v none)
      ∧ (s.response.get l field.toNat = none → unknown 5))
    ∧ (∀ j, indexOf 2 index = some j → (field = 1 → reads 6 3 (some s.clocks[j].period) s.clocks[j].staged)
      ∧ (field ≠ 1 → unknown 6))
    ∧ (index = 0 →
      (∀ v w, s.active.get field.toNat = some v → s.pendingRecord.get field.toNat = some w → reads 7 3 v w)
      ∧ (s.active.get field.toNat = none → unknown 7))
    ∧ (s.active ≠ s.pendingRecord →
        ∃ code, 1 ≤ code ∧ code ≤ 5 ∧ s.active.get code ≠ s.pendingRecord.get code)

/-- ENTRY_COMMISSION (R141 to R144): a DRAFT entry whose checks hold enters service: a point in AWAIT with its silence
timer started (R12), a zone with everything of its ladder clear and its report slot pending (R26, R53), a fan STOPPED and
a damper TRAVELLING to CLOSED (R117), a window. Otherwise the answer is the reason of the first check that fails, in the
order made; the checks of a point and of a zone are spelled out with that order and those reasons (R142, R143, R2). An
entry that is not in DRAFT is answered STATE. -/
def Obligations.CommissionEntersService : Prop :=
  ∀ (s : State) (src tag index : Byte), s.Ready → s.saving = false →
    let enters (table : Byte) (u : State) : Prop := s.Done (.entryCommission src tag table index) src 4 tag [] u
    let fails (table : Byte) (r : CheckReason) : Prop :=
      s.Refuses (.entryCommission src tag table index) src 4 tag (.checkFailed r)
    let allowed (k : PointKind) (l : Level) : Prop :=
      match k with
      | .co | .no2 => l = 1 ∨ l = 2
      | .h2 => l = 3
      | .smoke | .heat => l = 4
    (∀ i f, indexOf 64 index = some i → s.points[i] = .draft f →
      let calOrder : Prop := (f.raw4 ≠ none → f.raw3 ≠ none) ∧ ∀ p q, [p, q] <:+: f.pairs → p.1 < q.1 ∧ p.2 ≤ q.2
      let calWidth : Prop := ∀ p ∈ f.pairs, p.1 < 2 ^ f.width
      let threshOrder : Prop := f.fallA < f.riseA
        ∧ ∀ b, f.riseB = some b → ∃ c, f.fallB = some c ∧ f.riseA ≤ b ∧ f.fallA ≤ c ∧ c < b
      let levelKind : Prop := allowed f.kind f.levelA
        ∧ (f.riseB ≠ none → ∃ l, f.levelB = some l ∧ allowed f.kind l ∧ f.levelA ≤ l)
      let nodeFree : Prop := ∃ n, f.node = some n ∧ ¬s.NodeInUse (some i) none n
      let zoneServes : Prop := s.zones[f.zone].isInService = true
      (¬calOrder → fails 1 .calOrder)
      ∧ (calOrder → ¬calWidth → fails 1 .calWidth)
      ∧ (calOrder → calWidth → ¬threshOrder → fails 1 .threshOrder)
      ∧ (calOrder → calWidth → threshOrder → ¬levelKind → fails 1 .levelKind)
      ∧ (calOrder → calWidth → threshOrder → levelKind → ¬nodeFree → fails 1 .nodeDuplicate)
      ∧ (calOrder → calWidth → threshOrder → levelKind → nodeFree → ¬zoneServes → fails 1 .zoneNotInService)
      ∧ (calOrder → calWidth → threshOrder → levelKind → nodeFree → zoneServes → s.ConditionsFormed →
        enters 1 (s.setPoint i (.inService f
          ⟨.await, .clear, 0, 0, 0, 0, false, false, timerOf (f.interval * f.silenceMult), 0, 0⟩))))
    ∧ (∀ z f, indexOf 8 index = some z → s.zones[z] = .draft f →
      let serves (i : Fin 24) (k : OutputKind) : Prop := ∃ g d, s.outputs[i] = .inService g d ∧ g.kind = k
      let outputs : Prop := ∀ k ∈ f.branches,
        s.outputs[f.fans[k]].isInService = true ∧ ∀ j ∈ f.dampers[k], s.outputs[j].isInService = true
      let kinds : Prop := ∀ k ∈ f.branches, serves f.fans[k] .fan ∧ ∀ j ∈ f.dampers[k], serves j .damper
      let flows : Prop := f.minFlow ≤ f.fumeLowFlow ∧ f.fumeLowFlow ≤ f.fumeHighFlow ∧ f.fumeHighFlow ≤ f.maxFlow
      let purge : Prop := ∀ j, f.clock = some j →
        ∀ period, period = s.clocks[j].period ∨ s.clocks[j].staged = some period →
          f.purgeStart < period ∧ f.purgeDuration ≤ period
      (¬outputs → fails 2 .outputNotInService)
      ∧ (outputs → ¬kinds → fails 2 .kindMismatch)
      ∧ (outputs → kinds → ¬flows → fails 2 .flowOrder)
      ∧ (outputs → kinds → flows → ¬purge → fails 2 .purgeRange)
      ∧ (outputs → kinds → flows → purge →
        enters 2 ((s.setZone z (.inService f ZoneDyn.initial)).setZoneSlot z ⟨true, false, false⟩)))
    ∧ (∀ i f, indexOf 24 index = some i → s.outputs[i] = .draft f →
      let nodeFree : Prop := ∃ n, f.node = some n ∧ ¬s.NodeInUse none (some i) n
      (nodeFree → enters 3 (s.setOutput i (.inService f
        (match f.kind with
          | .fan => .fan FanDyn.initial
          | .damper => .damper ⟨.travelling, .closed, .unknown, timerOf f.travelTimeout, none⟩))))
      ∧ (¬nodeFree → fails 3 .nodeDuplicate))
    ∧ (∀ w f, indexOf 8 index = some w → s.windows[w] = .draft f →
      (f.start ≠ f.stop → enters 4 (s.setWindow w (.inService f ()))) ∧ (f.start = f.stop → fails 4 .windowRange))
    ∧ (∀ table r, lifeCycleRef table index = .ok r → s.lifeCycle r ≠ .draft →
      s.Refuses (.entryCommission src tag table index) src 4 tag .state)

/-- ENTRY_RETIRE (R145): an IN_SERVICE entry returns to DRAFT with its fields. A point's contribution leaves its zone,
whose condition is formed afresh, and its trouble slot is set when it was in FAULT (R12); a zone at E = 0 that no point
names loses its report slot, at once even while its report is on offer (R54, R170; the model's choice, log entry 13); an
output that no zone names has its waiting DRIVE withdrawn, and its slot set when it was troubled (R117). A zone that an
IN_SERVICE point names, and an output that an IN_SERVICE zone names and none in fire, is answered REFERENCED; a zone whose
E is not 0, and an entry that is not IN_SERVICE, STATE. -/
def Obligations.RetireLeavesService : Prop :=
  ∀ (s : State) (src tag index : Byte), s.Ready → s.saving = false →
    let retire (table : Byte) : Instr := .entryRetire src tag table index
    (∀ i f d, indexOf 64 index = some i → s.points[i] = .inService f d → ¬s.ZoneInFire f.zone →
      ∃ t, exec (retire 1) s = .next t ∧ s.Answered t src 5 tag 0 []
        ∧ t = { s with
            points := s.points.set i (.draft f), zones := t.zones, zoneSlots := t.zoneSlots
            pointSlots := if d.state.isFault then s.pointSlots.set i
                { s.pointSlots[i] with slot := s.pointSlots[i].slot.mark (s.onOffer (.point i)) }
              else s.pointSlots
            field := t.field, trunk := t.trunk }
        ∧ (∀ z : Fin 8, z ≠ f.zone → t.zones[z] = s.zones[z] ∧ t.zoneSlots[z] = s.zoneSlots[z])
        ∧ (s.ConditionsFormed → contribution f d = 0 → t.zones = s.zones ∧ t.zoneSlots = s.zoneSlots)
        ∧ s.ZoneReformed t f.zone
        ∧ (∀ g e, s.zones[f.zone] = .inService g e → ∃ e', t.zones[f.zone] = .inService g e'
            ∧ e'.cond = max e.force (max (if e.latch then 5 else 0) (t.contributions f.zone))))
    ∧ (∀ z f d, indexOf 8 index = some z → s.zones[z] = .inService f d →
      let referenced : Prop := ∃ (i : Fin 64) (g : PointFields) (e : PointDyn), s.points[i] = .inService g e ∧ g.zone = z
      (referenced → s.Refuses (retire 2) src 5 tag .referenced)
      ∧ (¬referenced → d.level ≠ 0 → s.Refuses (retire 2) src 5 tag .state)
      ∧ (¬referenced → d.level = 0 →
          s.Done (retire 2) src 5 tag [] ((s.setZone z (.draft f)).setZoneSlot z ⟨false, false, false⟩)))
    ∧ (∀ i f d, indexOf 24 index = some i → s.outputs[i] = .inService f d →
      (∀ z, s.ZoneNames z i → ¬s.ZoneInFire z) →
      ((∃ z, s.ZoneNames z i) → s.Refuses (retire 3) src 5 tag .referenced)
      ∧ ((∀ z, ¬s.ZoneNames z i) → ∃ t, exec (retire 3) s = .next t
          ∧ s.trunk.Joined t.trunk (s.replyFrame src 5 tag 0 []) .reply s.trunk.counters.heard
          ∧ t.field.frames = (s.field.queue.filter fun e => !e.isDriveOf i).map (fun e => (e.frame, e.origin))
          ∧ t = { s with
              outputs := s.outputs.set i (.draft f)
              outputSlots := if d.troubled then s.outputSlots.set i (s.outputMarked i s.outputSlots[i].lastReason)
                else s.outputSlots
              field := t.field, trunk := t.trunk }))
    ∧ (∀ w f, indexOf 8 index = some w → s.windows[w] = .inService f () →
      s.Done (retire 4) src 5 tag [] (s.setWindow w (.draft f)))
    ∧ (∀ i, indexOf 64 index = some i → s.points[i].isInService = false → s.Refuses (retire 1) src 5 tag .state)
    ∧ (∀ z, indexOf 8 index = some z → s.zones[z].isInService = false → s.Refuses (retire 2) src 5 tag .state)
    ∧ (∀ i, indexOf 24 index = some i → s.outputs[i].isInService = false → s.Refuses (retire 3) src 5 tag .state)
    ∧ (∀ w, indexOf 8 index = some w → s.windows[w].isInService = false → s.Refuses (retire 4) src 5 tag .state)

/-- ENTRY_TUNE (R72, R73, R152): a purge value of an IN_SERVICE zone bound to a clock, or a purge period, is staged when
it is in range and the values fit the period after the next wrap; nothing in force changes. A zone bound to no clock is
answered STATE, and values that do not fit PURGE_RANGE. Both purge values are checked with the one that is tuned (log
entry 21). -/
def Obligations.TunesAreStaged : Prop :=
  ∀ (s : State) (src tag index field : Byte) (value : BitVec 16), s.Ready → s.saving = false →
    let n := value.toNat
    let stages (table : Byte) (ok : Prop) (u : State) : Prop :=
      (ok → s.Done (.entryTune src tag table index field value) src 7 tag [] u)
      ∧ (¬ok → s.Refuses (.entryTune src tag table index field value) src 7 tag (.checkFailed .purgeRange))
    let refuses (table : Byte) (r : ReplyCode) : Prop :=
      s.Refuses (.entryTune src tag table index field value) src 7 tag r
    (∀ z f d, indexOf 8 index = some z → s.zones[z] = .inService f d →
      let start := d.stagedStart.getD f.purgeStart
      let duration := d.stagedDuration.getD f.purgeDuration
      (f.clock = none → refuses 2 .state)
      ∧ (∀ j, f.clock = some j →
        let period := s.clocks[j].staged.getD s.clocks[j].period
        (field = 17 → n ≤ 239 → stages 2 (n < period ∧ duration ≤ period)
          (s.setZone z (.inService f { d with stagedStart := some n })))
        ∧ (field = 18 → 1 ≤ n → n ≤ 240 → stages 2 (start < period ∧ n ≤ period)
          (s.setZone z (.inService f { d with stagedDuration := some n })))
        ∧ (field = 19 → stages 2 (start < period ∧ duration ≤ period)
          (s.setZone z (.inService f { d with stagedFlow := some n })))
        ∧ ((field = 17 ∧ 239 < n) ∨ (field = 18 ∧ (n = 0 ∨ 240 < n)) → refuses 2 .outOfRange)
        ∧ (field ∉ [17, 18, 19] → refuses 2 .badField)))
    ∧ (∀ z, indexOf 8 index = some z → s.zones[z].isInService = false → refuses 2 .state)
    ∧ (∀ j, indexOf 2 index = some j →
      (field = 1 → 5 ≤ n → n ≤ 240 → stages 6 (s.PeriodFits j n) (s.setClock j { s.clocks[j] with staged := some n }))
      ∧ (field = 1 → n < 5 ∨ 240 < n → refuses 6 .outOfRange) ∧ (field ≠ 1 → refuses 6 .badField))

/-- The read requests (R158 to R162, R183): each page of an IN_SERVICE zone, point, fan or damper, each counter, and each
page of the part is answered with its five data bytes (two for a counter), padded with 0, and nothing is changed by the
reading. A running timer reads at least 1 (R183, log entry 23). While the two copies of the device record are equal, both
pages of READ_DEVICE end in the 0 of R183's padding. While they differ, either both still do, or one page, the same in
every state, ends in a byte that is not 0. Which of these holds is the model's open choice between R149 and R183, and so
is the place of that byte (log entry 28). -/
def Obligations.ReadsAnswerAndChangeNothing : Prop :=
  ∃ shown : Option (Fin 2), ∀ (s : State) (src tag index : Byte), s.Ready →
    let zone (pg : Byte) (data : List Byte) : Prop := s.Done (.readZone src tag index pg) src 32 tag data s
    let point (pg : Byte) (data : List Byte) : Prop := s.Done (.readPoint src tag index pg) src 33 tag data s
    let output (pg : Byte) (data : List Byte) : Prop := s.Done (.readOutput src tag index pg) src 34 tag data s
    let counter (cls n : Byte) (v : Nat) : Prop :=
      s.Done (.readCounter src tag cls n index) src 35 tag [byte v, byte (v / 256)] s
    let device (pg : Byte) (data : List Byte) : Prop := s.Done (.readDevice src tag pg) src 36 tag data s
    (∀ z f d, indexOf 8 index = some z → s.zones[z] = .inService f d →
      let x := s.zoneSlots[z]
      zone 0 [byte d.cond.val, byte d.level.val,
          byte (d.inForce.l1.toNat + 2 * d.inForce.l2.toNat + 4 * d.inForce.l3.toNat + 8 * d.inForce.l4.toNat
            + 16 * d.inForce.l5.toNat), byte (d.held1.toNat + 2 * d.held2.toNat), byte d.force.val]
      ∧ zone 1 [byte (d.latch.toNat + 2 * d.suppress.toNat + 4 * d.releaseWait.toNat + 8 * d.accepted.toNat
            + 16 * d.short.toNat + 32 * (if d.force = 0 then 0 else 1) + 64 * x.pending.toNat + 128 * x.superseded.toNat),
          byte d.runOnCode, byte d.runOn.seconds, byte (d.runOn.seconds / 256), 0]
      ∧ zone 2 [byte d.demand, byte (d.demand / 256), byte d.delivered, byte (d.delivered / 256), 0]
      ∧ zone 3 [byte d.shares[0], byte (d.shares[0] / 256), byte d.shares[1], byte (d.shares[1] / 256), 0]
      ∧ zone 4 [byte d.shares[2], byte (d.shares[2] / 256), byte d.shares[3], byte (d.shares[3] / 256), 0])
    ∧ (∀ i f d, indexOf 64 index = some i → s.points[i] = .inService f d →
      point 0 [byte d.state.code, byte d.state.reason.code, byte d.grade.code, byte d.run,
          byte (d.overMark.toNat + 2 * d.underMark.toNat + 4 * d.silence.isSome.toNat)]
      ∧ point 1 [byte d.filtered, byte (d.filtered / 256), byte d.lastRaw, byte (d.lastRaw / 256), byte d.forwardCount]
      ∧ point 2 [byte d.acc, byte (d.acc / 256), byte (d.acc / 65536), byte d.silence.seconds,
          byte (d.silence.seconds / 256)]
      ∧ point 3 [byte d.badCount, byte (d.badCount / 256), byte (contribution f d).val, 0, 0]
      ∧ counter 3 0 d.badCount)
    ∧ (∀ i f d, indexOf 24 index = some i → s.outputs[i] = .inService f (.fan d) →
      let secs := d.runningTimer.2.seconds
      output 0 [byte d.state.code, byte d.state.reason.code,
          byte (d.noPath.toNat + 2 * d.run.toNat + 4 * d.hold.code), byte d.below, byte d.retryCount]
      ∧ output 1 [byte d.flow, byte (d.flow / 256), byte d.q, byte (d.q / 256), byte d.dither.val]
      ∧ (d.lastStatus = none → output 2 [0, 0, byte d.runningTimer.1, byte secs, byte (secs / 256)])
      ∧ (∀ st, d.lastStatus = some st → output 2
          [byte (1 + 2 * st.driveFault.toNat), st.step, byte d.runningTimer.1, byte secs, byte (secs / 256)]))
    ∧ (∀ i f d, indexOf 24 index = some i → s.outputs[i] = .inService f (.damper d) →
      let secs := d.runningTimer.2.seconds
      output 0 [byte d.state.code, byte d.target.code, byte d.position.code, byte d.state.reason.code,
          byte d.runningTimer.1]
      ∧ output 1 [byte secs, byte (secs / 256), 0, 0, 0])
    ∧ (let c := s.field.counters
      counter 0 0 c.received ∧ counter 0 1 c.forwarded ∧ counter 0 2 c.droppedQueue ∧ counter 0 3 c.droppedHop
        ∧ counter 0 4 c.abandoned ∧ counter 0 5 c.offEntries ∧ counter 0 6 c.malformed)
    ∧ (let c := s.trunk.counters.heard
      counter 1 0 c.received ∧ counter 1 1 c.forwarded ∧ counter 1 2 c.droppedQueue ∧ counter 1 3 c.droppedHop
        ∧ counter 1 4 c.abandoned ∧ counter 1 5 c.offEntries ∧ counter 1 6 c.malformed)
    ∧ (let c := s.counters
      counter 2 0 c.stranger ∧ counter 2 1 c.badSamples ∧ counter 2 2 c.blockedDrive ∧ counter 2 3 c.ignoredPanel
        ∧ counter 2 4 c.ignoredTime ∧ counter 2 5 c.mgmtDropped)
    ∧ (∃ x y : Byte, device 0 [byte s.storeState.code, byte s.saving.toNat, byte s.fireState.toNat, 0x30, x]
      ∧ (s.dayClock = none → device 1 [255, 0, 0, byte (max 1 ((s.minuteTimer + 3) / 4)), y])
      ∧ (∀ c, s.dayClock = some c →
          device 1 [byte c.day, byte c.minute, byte (c.minute / 256), byte (max 1 ((s.minuteTimer + 3) / 4)), y])
      ∧ (x ≠ 0 ↔ s.active ≠ s.pendingRecord ∧ shown = some 0)
      ∧ (y ≠ 0 ↔ s.active ≠ s.pendingRecord ∧ shown = some 1))
    ∧ (∀ pg : Byte, 2 ≤ pg.toNat → s.Refuses (.readDevice src tag pg) src 36 tag .outOfRange)

/-- COUNTERS_CLEAR (R163): every counter of both ports, of the part and of the IN_SERVICE points becomes 0, and nothing
else changes but for the reply and what is on offer. -/
def Obligations.CountersClearZeroes : Prop :=
  ∀ (s : State) (src tag : Byte), s.Ready →
    ∃ t, exec (.countersClear src tag) s = .next t
      ∧ t = { s with points := t.points, counters := ⟨0, 0, 0, 0, 0, 0⟩, field := t.field, trunk := t.trunk }
      ∧ s.field.HeardOnly t.field ⟨0, 0, 0, 0, 0, 0, 0⟩
      ∧ s.trunk.Joined t.trunk (s.replyFrame src 48 tag 0 []) .reply ⟨0, 0, 0, 0, 0, 0, 0⟩
      ∧ ∀ i : Fin 64, (∀ f d, s.points[i] = .inService f d → t.points[i] = .inService f { d with badCount := 0 })
        ∧ (s.points[i].isInService = false → t.points[i] = s.points[i])

/-! ## Chapter 10: the store and the resets -/

/-- SAVE and SAVE_COMPLETE (R164, R174, R175, R170): an accepted SAVE keeps the requester, the tag and the image of the
tables, with staged values in place of those in force, and builds no reply; at its completion the store holds the image
with its check word, or a broken one, the device slot is set when the store state changes, and the reply goes to the kept
requester, under the full-queue rule when the TRUNK queue is full (R127). The outcome of a SAVE is the row's operand, and
the bytes under the check word are not given (log entries 10 and 15). -/
def Obligations.SaveWritesTheImage : Prop :=
  (∀ (s : State) (src tag : Byte), s.Ready → s.saving = false → ∃ (t : State) (img : Image),
    exec (.save src tag) s = .next t ∧ s.StayedAbove t
      ∧ t = { s with save := some ⟨src, tag, img⟩, field := t.field, trunk := t.trunk }
      ∧ img.windows = s.windows ∧ img.response = s.response ∧ img.device = s.pendingRecord
      ∧ (∀ j : Fin 2, img.periods[j] = s.clocks[j].staged.getD s.clocks[j].period)
      ∧ (∀ i : Fin 64, img.points[i].seen = s.points[i].seen) ∧ (∀ i : Fin 24, img.outputs[i].seen = s.outputs[i].seen)
      ∧ (∀ z : Fin 8, s.zones[z].isInService = false → img.zones[z].seen = s.zones[z].seen)
      ∧ (∀ (z : Fin 8) (f : ZoneFields) (d : ZoneDyn), s.zones[z] = .inService f d → img.zones[z] = .inService
          { f with
            purgeStart := d.stagedStart.getD f.purgeStart
            purgeDuration := d.stagedDuration.getD f.purgeDuration
            purgeFlow := d.stagedFlow.getD f.purgeFlow } ()))
  ∧ ∀ (s : State) (v : SaveInFlight) (matched : Bool),
    s.works = true → s.restartDue = false → (s.restartPending = false ∨ s.trunk.TrunkHasRoom) → s.save = some v →
    let new : StoreState := if matched then .valid else .invalid
    ∃ t, exec (.saveComplete matched) s = .next t ∧ s.field.SameLine t.field
      ∧ s.trunk.MetTrunk t.trunk (s.replyFrame v.requester 49 v.tag (if matched then 0 else 13) []) .reply s.trunk.counters
      ∧ t = { s with
          save := none, storeState := new
          store := if matched then .image v.image (checkWord v.image) else .broken
          deviceSlot := if s.storeState = new then s.deviceSlot else s.deviceSlot.mark (s.onOffer .device)
          field := t.field, trunk := t.trunk }

/-- RESTART (R165) is accepted with no SAVE in flight and the fire lock clear: its reply joins the TRUNK queue, and it is
pending. When that reply completes on the TRUNK line, is abandoned or is evicted (R127), the restart takes effect in that
event, and at once when the reply is dropped on joining a full queue. RESTART_TAKES_EFFECT (R179, R76): the pending device
record, the staged periods and the staged values of the zones are adopted; the tables, the store and the day clock are
kept; everything dynamic is as after a reset. That the restart follows in the same event is the model's choice (log entry
7). -/
def Obligations.RestartWaitsAndKeepsTheTables : Prop :=
  (∀ (s : State) (src tag : Byte), s.Ready → s.saving = false → s.fireState = false →
    ∃ t, exec (.restart src tag) s = .next t ∧ s.field.SameLine t.field
      ∧ s.trunk.Joined t.trunk (s.replyFrame src 50 tag 0 []) .restartReply s.trunk.counters.heard
      ∧ t = { s with restartPending := true, field := t.field, trunk := t.trunk } ∧ t.restartDue = false)
  ∧ (∀ (s : State) (pre post : List QEntry) (e : QEntry),
    s.Hears .trunk → s.trunk.Sound → s.restartPending = true → s.trunk.queue = pre ++ e :: post → e.onOffer = true →
    e.origin = .restartReply → (∀ x ∈ pre ++ post, x.origin ≠ .restartReply) →
    exec (.transmitComplete .trunk) s = exec .restartTakesEffect s
    ∧ exec (.frameAbandon .trunk) s = exec .restartTakesEffect s)
  ∧ (∀ (s : State) (src tag : Byte),
    s.Hears .trunk → s.restartPending = false → s.saving = false → s.fireState = false →
    s.QueuesSound → trunkRoom ≤ s.trunk.queue.length → (∀ x ∈ s.trunk.queue, x.frame.prio ≤ 6) →
    exec (.restart src tag) s = exec .restartTakesEffect { s with restartPending := true })
  ∧ (∀ (s : State) (ident : BitVec 29) (data : List Byte) (pre post : List QEntry) (e : QEntry),
    let f := Frame.ofIdent ident data
    s.Hears .field → s.restartPending = true → trunkRoom ≤ s.trunk.queue.length → s.trunk.queue = pre ++ e :: post →
    e.origin = .restartReply → (∀ x ∈ pre ++ post, x.origin ≠ .restartReply) →
    (∀ x ∈ pre, x.frame.prio ≤ e.frame.prio) → (∀ x ∈ post, x.frame.prio < e.frame.prio) →
    f.prio < e.frame.prio → f.hop ≠ 15 → f.kind ∉ [kindSample, kindStatus, kindMgmtReq] →
    exec (.fieldFrame ident data) s = exec .restartTakesEffect s)
  ∧ ∀ s : State, s.works = true → s.restartPending = true →
    ∃ t, exec .restartTakesEffect s = .next t ∧ t.JustReset
      ∧ t.pending = s.pending ∧ t.windows = s.windows ∧ t.response = s.response ∧ t.dayClock = s.dayClock
      ∧ t.store = s.store ∧ t.storeState = s.storeState ∧ t.save = s.save
      ∧ t.active = s.pendingRecord ∧ t.pendingRecord = s.pendingRecord
      ∧ (∀ j : Fin 2, t.clocks[j] = ⟨s.clocks[j].staged.getD s.clocks[j].period, 0, none⟩)
      ∧ (∀ i : Fin 64, t.points[i].seen = s.points[i].seen) ∧ (∀ i : Fin 24, t.outputs[i].seen = s.outputs[i].seen)
      ∧ (∀ z : Fin 8, t.zones[z].isInService = s.zones[z].isInService
          ∧ (s.zones[z].isInService = false → t.zones[z] = s.zones[z])
          ∧ ∀ f d, s.zones[z] = .inService f d → t.zones[z] = .inService
              { f with
                purgeStart := d.stagedStart.getD f.purgeStart
                purgeDuration := d.stagedDuration.getD f.purgeDuration
                purgeFlow := d.stagedFlow.getD f.purgeFlow } ZoneDyn.initial)

/-- POWER_ON and RESET_LINE_RELEASE (R178): the tables come from the store's image when its check word matches, and
otherwise are VACANT and at their defaults; the day clock is UNSET, and everything dynamic is as after a reset.
SUPPLY_LOSS and RESET_LINE_ASSERT hold the part still and break off a SAVE in flight (R176, R177). Supply and RESET line
events in other orders are log entry 9. That the volatile state stays as it was while the supply is off is the model's
choice (log entry 20): no command reads it before the start discards it. -/
def Obligations.StartReadsTheStore : Prop :=
  ∀ s : State,
    let started (t : State) : Prop :=
      t.JustReset ∧ t.works = true ∧ t.pending = s.pending ∧ t.dayClock = none ∧ t.save = none ∧ t.store = s.store
      ∧ t.storeState = s.store.state ∧ t.pendingRecord = t.active
      ∧ (s.store.valid? = none → t.active = DeviceRecord.default ∧ t.response = Response.default
          ∧ (∀ i : Fin 64, t.points[i] = .vacant) ∧ (∀ z : Fin 8, t.zones[z] = .vacant)
          ∧ (∀ i : Fin 24, t.outputs[i] = .vacant) ∧ (∀ w : Fin 8, t.windows[w] = .vacant)
          ∧ (∀ j : Fin 2, t.clocks[j].period = 60))
      ∧ (∀ img, s.store.valid? = some img → t.active = img.device ∧ t.response = img.response
          ∧ (∀ i : Fin 64, t.points[i].seen = img.points[i].seen) ∧ (∀ z : Fin 8, t.zones[z].seen = img.zones[z].seen)
          ∧ (∀ i : Fin 24, t.outputs[i].seen = img.outputs[i].seen) ∧ t.windows = img.windows
          ∧ (∀ j : Fin 2, t.clocks[j].period = img.periods[j]))
    (s.save = none → s.resetLine = false → ∃ t, exec .powerOn s = .next t ∧ started t)
    ∧ (s.save = none → s.powered = true → ∃ t, exec .resetLineRelease s = .next t ∧ started t)
    ∧ (let broken : State := { s with save := none, store := if s.saving then .broken else s.store }
      exec .supplyLoss s = .next { broken with powered := false }
      ∧ exec .resetLineAssert s = .next { broken with resetLine := true })

/-! ## Invariants that every step keeps -/

/-- State.reset meets every invariant below. It is the model's choice of a reset state (log entry 1). -/
def Obligations.ResetStateIsSound : Prop :=
  State.reset.CountersBounded ∧ State.reset.QueuesSound ∧ State.reset.LadderSound ∧ State.reset.ConditionsFormed
  ∧ State.reset.MachinesSound ∧ State.reset.TablesConsistent

/-- No counter ever exceeds 65535 (R173). -/
def Obligations.StepKeepsCountersBounded : Prop :=
  ∀ s t : State, s.CountersBounded → step s = .next t → t.CountersBounded

/-- The queues keep their bounds, with one DRIVE at most for each output, and each port has one frame at most on offer and
its recovery timer running exactly while it is OFF; a RESTART's reply waits only while the RESTART is pending, and once at
most (R91, R121 to R123, R125, R127, R165). -/
def Obligations.StepKeepsQueuesSound : Prop := ∀ s t : State, s.QueuesSound → step s = .next t → t.QueuesSound

/-- Every zone keeps the ladder's relations between E, c, the held set, the run-on and RELEASE_WAIT (R30 to R37, R47). -/
def Obligations.StepKeepsLadderSound : Prop := ∀ s t : State, s.LadderSound → step s = .next t → t.LadderSound

/-- The condition of every IN_SERVICE zone is at all times the greatest of its force level, its latch and the
contributions of its points (R27). -/
def Obligations.StepKeepsConditionsFormed : Prop :=
  ∀ s t : State, s.TablesConsistent → s.ConditionsFormed → step s = .next t → t.ConditionsFormed

/-- The timers, counts and marks of every point, fan and damper fit its state (R3, R9, R97, R98): a point's run counter is
below its confirm count (R21), its forward counter below forward every (R3, R6), and its filter within its calibration
values (R16). -/
def Obligations.StepKeepsMachinesSound : Prop :=
  ∀ s t : State, s.TablesConsistent → s.MachinesSound → step s = .next t → t.MachinesSound

/-- The tables stay consistent, and so does every image that is held or being written: no node is shared, every IN_SERVICE
entry passes its checks, every field is within its range, and the purge values fit their clocks, which count within their
periods (R138, R139, R141 to R144, R184, R70, R73, R75). -/
def Obligations.StepKeepsTablesConsistent : Prop :=
  ∀ s t : State, s.TablesConsistent → step s = .next t → t.TablesConsistent

/-- Levels 4 and 5 leave only by consent (R36, R38 to R41, R44): in a part with no RESTART pending, a step that is no
release, no NORMAL of the fire panel and no reset leaves level 5 in force in every zone where its release has not been
accepted, and level 4 where no release has been accepted or level 5 stands above it. A raw trunk frame is such a command
only as a PANEL of two bytes with action NORMAL or a MGMT_REQ of ZONE_RELEASE's code, and a request given by its bytes
only with that code. -/
def Obligations.FireLevelsLeaveOnlyByConsent : Prop :=
  ∀ s t : State, step s = .next t → s.restartPending = false →
    (∀ c rest, s.pending = c :: rest → match c with
      | .zoneRelease .. | .panelNormal .. | .powerOn | .resetLineRelease => False
      | .trunkFrame ident data =>
        let f := Frame.ofIdent ident data
        ¬(f.kind = kindPanel ∧ ∃ mask, data = [2, mask]) ∧ ¬(f.kind = kindMgmtReq ∧ ∃ tag args, data = 16 :: tag :: args)
      | .badRequest _ code _ _ => code ≠ 16
      | _ => True) →
    ∀ (z : Fin 8) (f : ZoneFields) (d : ZoneDyn), s.zones[z] = .inService f d → d.inForce.l4 = true ∨ d.inForce.l5 = true →
      ∃ (f' : ZoneFields) (d' : ZoneDyn), t.zones[z] = .inService f' d'
        ∧ (d.inForce.l5 = true → d.accepted = false → d'.inForce.l5 = true)
        ∧ (d.inForce.l4 = true → d.accepted = false ∨ d.inForce.l5 = true → d'.inForce.l4 = true)
end

