-- ==== Sys2Proof/Laws/State.lean ====
section
/-! SUPPORT. One lemma for each field under each update of the state: the field that is set holds the new value, and every
other field is as it was. True by unfolding, and tagged for the simplifier, so that no proof unfolds a record update. -/

namespace Sys2Proof.Machine

variable (s : State)

/-! `setPending` -/

@[simp] theorem State.setPending_pending (v : List Instr) : (s.setPending v).pending = v := rfl
@[simp] theorem State.setPending_freeIndex (v : List Instr) : (s.setPending v).freeIndex = s.freeIndex := rfl
@[simp] theorem State.setPending_powered (v : List Instr) : (s.setPending v).powered = s.powered := rfl
@[simp] theorem State.setPending_resetLine (v : List Instr) : (s.setPending v).resetLine = s.resetLine := rfl
@[simp] theorem State.setPending_points (v : List Instr) : (s.setPending v).points = s.points := rfl
@[simp] theorem State.setPending_zones (v : List Instr) : (s.setPending v).zones = s.zones := rfl
@[simp] theorem State.setPending_outputs (v : List Instr) : (s.setPending v).outputs = s.outputs := rfl
@[simp] theorem State.setPending_windows (v : List Instr) : (s.setPending v).windows = s.windows := rfl
@[simp] theorem State.setPending_response (v : List Instr) : (s.setPending v).response = s.response := rfl
@[simp] theorem State.setPending_clocks (v : List Instr) : (s.setPending v).clocks = s.clocks := rfl
@[simp] theorem State.setPending_active (v : List Instr) : (s.setPending v).active = s.active := rfl
@[simp] theorem State.setPending_pendingRecord (v : List Instr) : (s.setPending v).pendingRecord = s.pendingRecord := rfl
@[simp] theorem State.setPending_dayClock (v : List Instr) : (s.setPending v).dayClock = s.dayClock := rfl
@[simp] theorem State.setPending_minuteTimer (v : List Instr) : (s.setPending v).minuteTimer = s.minuteTimer := rfl
@[simp] theorem State.setPending_driveTimer (v : List Instr) : (s.setPending v).driveTimer = s.driveTimer := rfl
@[simp] theorem State.setPending_field (v : List Instr) : (s.setPending v).field = s.field := rfl
@[simp] theorem State.setPending_trunk (v : List Instr) : (s.setPending v).trunk = s.trunk := rfl
@[simp] theorem State.setPending_zoneSlots (v : List Instr) : (s.setPending v).zoneSlots = s.zoneSlots := rfl
@[simp] theorem State.setPending_pointSlots (v : List Instr) : (s.setPending v).pointSlots = s.pointSlots := rfl
@[simp] theorem State.setPending_outputSlots (v : List Instr) : (s.setPending v).outputSlots = s.outputSlots := rfl
@[simp] theorem State.setPending_deviceSlot (v : List Instr) : (s.setPending v).deviceSlot = s.deviceSlot := rfl
@[simp] theorem State.setPending_counters (v : List Instr) : (s.setPending v).counters = s.counters := rfl
@[simp] theorem State.setPending_store (v : List Instr) : (s.setPending v).store = s.store := rfl
@[simp] theorem State.setPending_storeState (v : List Instr) : (s.setPending v).storeState = s.storeState := rfl
@[simp] theorem State.setPending_save (v : List Instr) : (s.setPending v).save = s.save := rfl
@[simp] theorem State.setPending_restartPending (v : List Instr) : (s.setPending v).restartPending = s.restartPending := rfl

/-! `setFreeIndex` -/

@[simp] theorem State.setFreeIndex_pending (v : Nat) : (s.setFreeIndex v).pending = s.pending := rfl
@[simp] theorem State.setFreeIndex_freeIndex (v : Nat) : (s.setFreeIndex v).freeIndex = v := rfl
@[simp] theorem State.setFreeIndex_powered (v : Nat) : (s.setFreeIndex v).powered = s.powered := rfl
@[simp] theorem State.setFreeIndex_resetLine (v : Nat) : (s.setFreeIndex v).resetLine = s.resetLine := rfl
@[simp] theorem State.setFreeIndex_points (v : Nat) : (s.setFreeIndex v).points = s.points := rfl
@[simp] theorem State.setFreeIndex_zones (v : Nat) : (s.setFreeIndex v).zones = s.zones := rfl
@[simp] theorem State.setFreeIndex_outputs (v : Nat) : (s.setFreeIndex v).outputs = s.outputs := rfl
@[simp] theorem State.setFreeIndex_windows (v : Nat) : (s.setFreeIndex v).windows = s.windows := rfl
@[simp] theorem State.setFreeIndex_response (v : Nat) : (s.setFreeIndex v).response = s.response := rfl
@[simp] theorem State.setFreeIndex_clocks (v : Nat) : (s.setFreeIndex v).clocks = s.clocks := rfl
@[simp] theorem State.setFreeIndex_active (v : Nat) : (s.setFreeIndex v).active = s.active := rfl
@[simp] theorem State.setFreeIndex_pendingRecord (v : Nat) : (s.setFreeIndex v).pendingRecord = s.pendingRecord := rfl
@[simp] theorem State.setFreeIndex_dayClock (v : Nat) : (s.setFreeIndex v).dayClock = s.dayClock := rfl
@[simp] theorem State.setFreeIndex_minuteTimer (v : Nat) : (s.setFreeIndex v).minuteTimer = s.minuteTimer := rfl
@[simp] theorem State.setFreeIndex_driveTimer (v : Nat) : (s.setFreeIndex v).driveTimer = s.driveTimer := rfl
@[simp] theorem State.setFreeIndex_field (v : Nat) : (s.setFreeIndex v).field = s.field := rfl
@[simp] theorem State.setFreeIndex_trunk (v : Nat) : (s.setFreeIndex v).trunk = s.trunk := rfl
@[simp] theorem State.setFreeIndex_zoneSlots (v : Nat) : (s.setFreeIndex v).zoneSlots = s.zoneSlots := rfl
@[simp] theorem State.setFreeIndex_pointSlots (v : Nat) : (s.setFreeIndex v).pointSlots = s.pointSlots := rfl
@[simp] theorem State.setFreeIndex_outputSlots (v : Nat) : (s.setFreeIndex v).outputSlots = s.outputSlots := rfl
@[simp] theorem State.setFreeIndex_deviceSlot (v : Nat) : (s.setFreeIndex v).deviceSlot = s.deviceSlot := rfl
@[simp] theorem State.setFreeIndex_counters (v : Nat) : (s.setFreeIndex v).counters = s.counters := rfl
@[simp] theorem State.setFreeIndex_store (v : Nat) : (s.setFreeIndex v).store = s.store := rfl
@[simp] theorem State.setFreeIndex_storeState (v : Nat) : (s.setFreeIndex v).storeState = s.storeState := rfl
@[simp] theorem State.setFreeIndex_save (v : Nat) : (s.setFreeIndex v).save = s.save := rfl
@[simp] theorem State.setFreeIndex_restartPending (v : Nat) : (s.setFreeIndex v).restartPending = s.restartPending := rfl

/-! `setPowered` -/

@[simp] theorem State.setPowered_pending (v : Bool) : (s.setPowered v).pending = s.pending := rfl
@[simp] theorem State.setPowered_freeIndex (v : Bool) : (s.setPowered v).freeIndex = s.freeIndex := rfl
@[simp] theorem State.setPowered_powered (v : Bool) : (s.setPowered v).powered = v := rfl
@[simp] theorem State.setPowered_resetLine (v : Bool) : (s.setPowered v).resetLine = s.resetLine := rfl
@[simp] theorem State.setPowered_points (v : Bool) : (s.setPowered v).points = s.points := rfl
@[simp] theorem State.setPowered_zones (v : Bool) : (s.setPowered v).zones = s.zones := rfl
@[simp] theorem State.setPowered_outputs (v : Bool) : (s.setPowered v).outputs = s.outputs := rfl
@[simp] theorem State.setPowered_windows (v : Bool) : (s.setPowered v).windows = s.windows := rfl
@[simp] theorem State.setPowered_response (v : Bool) : (s.setPowered v).response = s.response := rfl
@[simp] theorem State.setPowered_clocks (v : Bool) : (s.setPowered v).clocks = s.clocks := rfl
@[simp] theorem State.setPowered_active (v : Bool) : (s.setPowered v).active = s.active := rfl
@[simp] theorem State.setPowered_pendingRecord (v : Bool) : (s.setPowered v).pendingRecord = s.pendingRecord := rfl
@[simp] theorem State.setPowered_dayClock (v : Bool) : (s.setPowered v).dayClock = s.dayClock := rfl
@[simp] theorem State.setPowered_minuteTimer (v : Bool) : (s.setPowered v).minuteTimer = s.minuteTimer := rfl
@[simp] theorem State.setPowered_driveTimer (v : Bool) : (s.setPowered v).driveTimer = s.driveTimer := rfl
@[simp] theorem State.setPowered_field (v : Bool) : (s.setPowered v).field = s.field := rfl
@[simp] theorem State.setPowered_trunk (v : Bool) : (s.setPowered v).trunk = s.trunk := rfl
@[simp] theorem State.setPowered_zoneSlots (v : Bool) : (s.setPowered v).zoneSlots = s.zoneSlots := rfl
@[simp] theorem State.setPowered_pointSlots (v : Bool) : (s.setPowered v).pointSlots = s.pointSlots := rfl
@[simp] theorem State.setPowered_outputSlots (v : Bool) : (s.setPowered v).outputSlots = s.outputSlots := rfl
@[simp] theorem State.setPowered_deviceSlot (v : Bool) : (s.setPowered v).deviceSlot = s.deviceSlot := rfl
@[simp] theorem State.setPowered_counters (v : Bool) : (s.setPowered v).counters = s.counters := rfl
@[simp] theorem State.setPowered_store (v : Bool) : (s.setPowered v).store = s.store := rfl
@[simp] theorem State.setPowered_storeState (v : Bool) : (s.setPowered v).storeState = s.storeState := rfl
@[simp] theorem State.setPowered_save (v : Bool) : (s.setPowered v).save = s.save := rfl
@[simp] theorem State.setPowered_restartPending (v : Bool) : (s.setPowered v).restartPending = s.restartPending := rfl

/-! `setResetLine` -/

@[simp] theorem State.setResetLine_pending (v : Bool) : (s.setResetLine v).pending = s.pending := rfl
@[simp] theorem State.setResetLine_freeIndex (v : Bool) : (s.setResetLine v).freeIndex = s.freeIndex := rfl
@[simp] theorem State.setResetLine_powered (v : Bool) : (s.setResetLine v).powered = s.powered := rfl
@[simp] theorem State.setResetLine_resetLine (v : Bool) : (s.setResetLine v).resetLine = v := rfl
@[simp] theorem State.setResetLine_points (v : Bool) : (s.setResetLine v).points = s.points := rfl
@[simp] theorem State.setResetLine_zones (v : Bool) : (s.setResetLine v).zones = s.zones := rfl
@[simp] theorem State.setResetLine_outputs (v : Bool) : (s.setResetLine v).outputs = s.outputs := rfl
@[simp] theorem State.setResetLine_windows (v : Bool) : (s.setResetLine v).windows = s.windows := rfl
@[simp] theorem State.setResetLine_response (v : Bool) : (s.setResetLine v).response = s.response := rfl
@[simp] theorem State.setResetLine_clocks (v : Bool) : (s.setResetLine v).clocks = s.clocks := rfl
@[simp] theorem State.setResetLine_active (v : Bool) : (s.setResetLine v).active = s.active := rfl
@[simp] theorem State.setResetLine_pendingRecord (v : Bool) : (s.setResetLine v).pendingRecord = s.pendingRecord := rfl
@[simp] theorem State.setResetLine_dayClock (v : Bool) : (s.setResetLine v).dayClock = s.dayClock := rfl
@[simp] theorem State.setResetLine_minuteTimer (v : Bool) : (s.setResetLine v).minuteTimer = s.minuteTimer := rfl
@[simp] theorem State.setResetLine_driveTimer (v : Bool) : (s.setResetLine v).driveTimer = s.driveTimer := rfl
@[simp] theorem State.setResetLine_field (v : Bool) : (s.setResetLine v).field = s.field := rfl
@[simp] theorem State.setResetLine_trunk (v : Bool) : (s.setResetLine v).trunk = s.trunk := rfl
@[simp] theorem State.setResetLine_zoneSlots (v : Bool) : (s.setResetLine v).zoneSlots = s.zoneSlots := rfl
@[simp] theorem State.setResetLine_pointSlots (v : Bool) : (s.setResetLine v).pointSlots = s.pointSlots := rfl
@[simp] theorem State.setResetLine_outputSlots (v : Bool) : (s.setResetLine v).outputSlots = s.outputSlots := rfl
@[simp] theorem State.setResetLine_deviceSlot (v : Bool) : (s.setResetLine v).deviceSlot = s.deviceSlot := rfl
@[simp] theorem State.setResetLine_counters (v : Bool) : (s.setResetLine v).counters = s.counters := rfl
@[simp] theorem State.setResetLine_store (v : Bool) : (s.setResetLine v).store = s.store := rfl
@[simp] theorem State.setResetLine_storeState (v : Bool) : (s.setResetLine v).storeState = s.storeState := rfl
@[simp] theorem State.setResetLine_save (v : Bool) : (s.setResetLine v).save = s.save := rfl
@[simp] theorem State.setResetLine_restartPending (v : Bool) : (s.setResetLine v).restartPending = s.restartPending := rfl

/-! `setPoint` -/

@[simp] theorem State.setPoint_pending (i : Fin 64) (e : Entry PointFields PointDyn) : (s.setPoint i e).pending = s.pending := rfl
@[simp] theorem State.setPoint_freeIndex (i : Fin 64) (e : Entry PointFields PointDyn) : (s.setPoint i e).freeIndex = s.freeIndex := rfl
@[simp] theorem State.setPoint_powered (i : Fin 64) (e : Entry PointFields PointDyn) : (s.setPoint i e).powered = s.powered := rfl
@[simp] theorem State.setPoint_resetLine (i : Fin 64) (e : Entry PointFields PointDyn) : (s.setPoint i e).resetLine = s.resetLine := rfl
@[simp] theorem State.setPoint_points (i : Fin 64) (e : Entry PointFields PointDyn) : (s.setPoint i e).points = s.points.set i e := rfl
@[simp] theorem State.setPoint_zones (i : Fin 64) (e : Entry PointFields PointDyn) : (s.setPoint i e).zones = s.zones := rfl
@[simp] theorem State.setPoint_outputs (i : Fin 64) (e : Entry PointFields PointDyn) : (s.setPoint i e).outputs = s.outputs := rfl
@[simp] theorem State.setPoint_windows (i : Fin 64) (e : Entry PointFields PointDyn) : (s.setPoint i e).windows = s.windows := rfl
@[simp] theorem State.setPoint_response (i : Fin 64) (e : Entry PointFields PointDyn) : (s.setPoint i e).response = s.response := rfl
@[simp] theorem State.setPoint_clocks (i : Fin 64) (e : Entry PointFields PointDyn) : (s.setPoint i e).clocks = s.clocks := rfl
@[simp] theorem State.setPoint_active (i : Fin 64) (e : Entry PointFields PointDyn) : (s.setPoint i e).active = s.active := rfl
@[simp] theorem State.setPoint_pendingRecord (i : Fin 64) (e : Entry PointFields PointDyn) : (s.setPoint i e).pendingRecord = s.pendingRecord := rfl
@[simp] theorem State.setPoint_dayClock (i : Fin 64) (e : Entry PointFields PointDyn) : (s.setPoint i e).dayClock = s.dayClock := rfl
@[simp] theorem State.setPoint_minuteTimer (i : Fin 64) (e : Entry PointFields PointDyn) : (s.setPoint i e).minuteTimer = s.minuteTimer := rfl
@[simp] theorem State.setPoint_driveTimer (i : Fin 64) (e : Entry PointFields PointDyn) : (s.setPoint i e).driveTimer = s.driveTimer := rfl
@[simp] theorem State.setPoint_field (i : Fin 64) (e : Entry PointFields PointDyn) : (s.setPoint i e).field = s.field := rfl
@[simp] theorem State.setPoint_trunk (i : Fin 64) (e : Entry PointFields PointDyn) : (s.setPoint i e).trunk = s.trunk := rfl
@[simp] theorem State.setPoint_zoneSlots (i : Fin 64) (e : Entry PointFields PointDyn) : (s.setPoint i e).zoneSlots = s.zoneSlots := rfl
@[simp] theorem State.setPoint_pointSlots (i : Fin 64) (e : Entry PointFields PointDyn) : (s.setPoint i e).pointSlots = s.pointSlots := rfl
@[simp] theorem State.setPoint_outputSlots (i : Fin 64) (e : Entry PointFields PointDyn) : (s.setPoint i e).outputSlots = s.outputSlots := rfl
@[simp] theorem State.setPoint_deviceSlot (i : Fin 64) (e : Entry PointFields PointDyn) : (s.setPoint i e).deviceSlot = s.deviceSlot := rfl
@[simp] theorem State.setPoint_counters (i : Fin 64) (e : Entry PointFields PointDyn) : (s.setPoint i e).counters = s.counters := rfl
@[simp] theorem State.setPoint_store (i : Fin 64) (e : Entry PointFields PointDyn) : (s.setPoint i e).store = s.store := rfl
@[simp] theorem State.setPoint_storeState (i : Fin 64) (e : Entry PointFields PointDyn) : (s.setPoint i e).storeState = s.storeState := rfl
@[simp] theorem State.setPoint_save (i : Fin 64) (e : Entry PointFields PointDyn) : (s.setPoint i e).save = s.save := rfl
@[simp] theorem State.setPoint_restartPending (i : Fin 64) (e : Entry PointFields PointDyn) : (s.setPoint i e).restartPending = s.restartPending := rfl

/-! `setZone` -/

@[simp] theorem State.setZone_pending (z : Fin 8) (e : Entry ZoneFields ZoneDyn) : (s.setZone z e).pending = s.pending := rfl
@[simp] theorem State.setZone_freeIndex (z : Fin 8) (e : Entry ZoneFields ZoneDyn) : (s.setZone z e).freeIndex = s.freeIndex := rfl
@[simp] theorem State.setZone_powered (z : Fin 8) (e : Entry ZoneFields ZoneDyn) : (s.setZone z e).powered = s.powered := rfl
@[simp] theorem State.setZone_resetLine (z : Fin 8) (e : Entry ZoneFields ZoneDyn) : (s.setZone z e).resetLine = s.resetLine := rfl
@[simp] theorem State.setZone_points (z : Fin 8) (e : Entry ZoneFields ZoneDyn) : (s.setZone z e).points = s.points := rfl
@[simp] theorem State.setZone_zones (z : Fin 8) (e : Entry ZoneFields ZoneDyn) : (s.setZone z e).zones = s.zones.set z e := rfl
@[simp] theorem State.setZone_outputs (z : Fin 8) (e : Entry ZoneFields ZoneDyn) : (s.setZone z e).outputs = s.outputs := rfl
@[simp] theorem State.setZone_windows (z : Fin 8) (e : Entry ZoneFields ZoneDyn) : (s.setZone z e).windows = s.windows := rfl
@[simp] theorem State.setZone_response (z : Fin 8) (e : Entry ZoneFields ZoneDyn) : (s.setZone z e).response = s.response := rfl
@[simp] theorem State.setZone_clocks (z : Fin 8) (e : Entry ZoneFields ZoneDyn) : (s.setZone z e).clocks = s.clocks := rfl
@[simp] theorem State.setZone_active (z : Fin 8) (e : Entry ZoneFields ZoneDyn) : (s.setZone z e).active = s.active := rfl
@[simp] theorem State.setZone_pendingRecord (z : Fin 8) (e : Entry ZoneFields ZoneDyn) : (s.setZone z e).pendingRecord = s.pendingRecord := rfl
@[simp] theorem State.setZone_dayClock (z : Fin 8) (e : Entry ZoneFields ZoneDyn) : (s.setZone z e).dayClock = s.dayClock := rfl
@[simp] theorem State.setZone_minuteTimer (z : Fin 8) (e : Entry ZoneFields ZoneDyn) : (s.setZone z e).minuteTimer = s.minuteTimer := rfl
@[simp] theorem State.setZone_driveTimer (z : Fin 8) (e : Entry ZoneFields ZoneDyn) : (s.setZone z e).driveTimer = s.driveTimer := rfl
@[simp] theorem State.setZone_field (z : Fin 8) (e : Entry ZoneFields ZoneDyn) : (s.setZone z e).field = s.field := rfl
@[simp] theorem State.setZone_trunk (z : Fin 8) (e : Entry ZoneFields ZoneDyn) : (s.setZone z e).trunk = s.trunk := rfl
@[simp] theorem State.setZone_zoneSlots (z : Fin 8) (e : Entry ZoneFields ZoneDyn) : (s.setZone z e).zoneSlots = s.zoneSlots := rfl
@[simp] theorem State.setZone_pointSlots (z : Fin 8) (e : Entry ZoneFields ZoneDyn) : (s.setZone z e).pointSlots = s.pointSlots := rfl
@[simp] theorem State.setZone_outputSlots (z : Fin 8) (e : Entry ZoneFields ZoneDyn) : (s.setZone z e).outputSlots = s.outputSlots := rfl
@[simp] theorem State.setZone_deviceSlot (z : Fin 8) (e : Entry ZoneFields ZoneDyn) : (s.setZone z e).deviceSlot = s.deviceSlot := rfl
@[simp] theorem State.setZone_counters (z : Fin 8) (e : Entry ZoneFields ZoneDyn) : (s.setZone z e).counters = s.counters := rfl
@[simp] theorem State.setZone_store (z : Fin 8) (e : Entry ZoneFields ZoneDyn) : (s.setZone z e).store = s.store := rfl
@[simp] theorem State.setZone_storeState (z : Fin 8) (e : Entry ZoneFields ZoneDyn) : (s.setZone z e).storeState = s.storeState := rfl
@[simp] theorem State.setZone_save (z : Fin 8) (e : Entry ZoneFields ZoneDyn) : (s.setZone z e).save = s.save := rfl
@[simp] theorem State.setZone_restartPending (z : Fin 8) (e : Entry ZoneFields ZoneDyn) : (s.setZone z e).restartPending = s.restartPending := rfl

/-! `setOutput` -/

@[simp] theorem State.setOutput_pending (i : Fin 24) (e : Entry OutputFields OutputDyn) : (s.setOutput i e).pending = s.pending := rfl
@[simp] theorem State.setOutput_freeIndex (i : Fin 24) (e : Entry OutputFields OutputDyn) : (s.setOutput i e).freeIndex = s.freeIndex := rfl
@[simp] theorem State.setOutput_powered (i : Fin 24) (e : Entry OutputFields OutputDyn) : (s.setOutput i e).powered = s.powered := rfl
@[simp] theorem State.setOutput_resetLine (i : Fin 24) (e : Entry OutputFields OutputDyn) : (s.setOutput i e).resetLine = s.resetLine := rfl
@[simp] theorem State.setOutput_points (i : Fin 24) (e : Entry OutputFields OutputDyn) : (s.setOutput i e).points = s.points := rfl
@[simp] theorem State.setOutput_zones (i : Fin 24) (e : Entry OutputFields OutputDyn) : (s.setOutput i e).zones = s.zones := rfl
@[simp] theorem State.setOutput_outputs (i : Fin 24) (e : Entry OutputFields OutputDyn) : (s.setOutput i e).outputs = s.outputs.set i e := rfl
@[simp] theorem State.setOutput_windows (i : Fin 24) (e : Entry OutputFields OutputDyn) : (s.setOutput i e).windows = s.windows := rfl
@[simp] theorem State.setOutput_response (i : Fin 24) (e : Entry OutputFields OutputDyn) : (s.setOutput i e).response = s.response := rfl
@[simp] theorem State.setOutput_clocks (i : Fin 24) (e : Entry OutputFields OutputDyn) : (s.setOutput i e).clocks = s.clocks := rfl
@[simp] theorem State.setOutput_active (i : Fin 24) (e : Entry OutputFields OutputDyn) : (s.setOutput i e).active = s.active := rfl
@[simp] theorem State.setOutput_pendingRecord (i : Fin 24) (e : Entry OutputFields OutputDyn) : (s.setOutput i e).pendingRecord = s.pendingRecord := rfl
@[simp] theorem State.setOutput_dayClock (i : Fin 24) (e : Entry OutputFields OutputDyn) : (s.setOutput i e).dayClock = s.dayClock := rfl
@[simp] theorem State.setOutput_minuteTimer (i : Fin 24) (e : Entry OutputFields OutputDyn) : (s.setOutput i e).minuteTimer = s.minuteTimer := rfl
@[simp] theorem State.setOutput_driveTimer (i : Fin 24) (e : Entry OutputFields OutputDyn) : (s.setOutput i e).driveTimer = s.driveTimer := rfl
@[simp] theorem State.setOutput_field (i : Fin 24) (e : Entry OutputFields OutputDyn) : (s.setOutput i e).field = s.field := rfl
@[simp] theorem State.setOutput_trunk (i : Fin 24) (e : Entry OutputFields OutputDyn) : (s.setOutput i e).trunk = s.trunk := rfl
@[simp] theorem State.setOutput_zoneSlots (i : Fin 24) (e : Entry OutputFields OutputDyn) : (s.setOutput i e).zoneSlots = s.zoneSlots := rfl
@[simp] theorem State.setOutput_pointSlots (i : Fin 24) (e : Entry OutputFields OutputDyn) : (s.setOutput i e).pointSlots = s.pointSlots := rfl
@[simp] theorem State.setOutput_outputSlots (i : Fin 24) (e : Entry OutputFields OutputDyn) : (s.setOutput i e).outputSlots = s.outputSlots := rfl
@[simp] theorem State.setOutput_deviceSlot (i : Fin 24) (e : Entry OutputFields OutputDyn) : (s.setOutput i e).deviceSlot = s.deviceSlot := rfl
@[simp] theorem State.setOutput_counters (i : Fin 24) (e : Entry OutputFields OutputDyn) : (s.setOutput i e).counters = s.counters := rfl
@[simp] theorem State.setOutput_store (i : Fin 24) (e : Entry OutputFields OutputDyn) : (s.setOutput i e).store = s.store := rfl
@[simp] theorem State.setOutput_storeState (i : Fin 24) (e : Entry OutputFields OutputDyn) : (s.setOutput i e).storeState = s.storeState := rfl
@[simp] theorem State.setOutput_save (i : Fin 24) (e : Entry OutputFields OutputDyn) : (s.setOutput i e).save = s.save := rfl
@[simp] theorem State.setOutput_restartPending (i : Fin 24) (e : Entry OutputFields OutputDyn) : (s.setOutput i e).restartPending = s.restartPending := rfl

/-! `setWindow` -/

@[simp] theorem State.setWindow_pending (w : Fin 8) (e : Entry WindowFields Unit) : (s.setWindow w e).pending = s.pending := rfl
@[simp] theorem State.setWindow_freeIndex (w : Fin 8) (e : Entry WindowFields Unit) : (s.setWindow w e).freeIndex = s.freeIndex := rfl
@[simp] theorem State.setWindow_powered (w : Fin 8) (e : Entry WindowFields Unit) : (s.setWindow w e).powered = s.powered := rfl
@[simp] theorem State.setWindow_resetLine (w : Fin 8) (e : Entry WindowFields Unit) : (s.setWindow w e).resetLine = s.resetLine := rfl
@[simp] theorem State.setWindow_points (w : Fin 8) (e : Entry WindowFields Unit) : (s.setWindow w e).points = s.points := rfl
@[simp] theorem State.setWindow_zones (w : Fin 8) (e : Entry WindowFields Unit) : (s.setWindow w e).zones = s.zones := rfl
@[simp] theorem State.setWindow_outputs (w : Fin 8) (e : Entry WindowFields Unit) : (s.setWindow w e).outputs = s.outputs := rfl
@[simp] theorem State.setWindow_windows (w : Fin 8) (e : Entry WindowFields Unit) : (s.setWindow w e).windows = s.windows.set w e := rfl
@[simp] theorem State.setWindow_response (w : Fin 8) (e : Entry WindowFields Unit) : (s.setWindow w e).response = s.response := rfl
@[simp] theorem State.setWindow_clocks (w : Fin 8) (e : Entry WindowFields Unit) : (s.setWindow w e).clocks = s.clocks := rfl
@[simp] theorem State.setWindow_active (w : Fin 8) (e : Entry WindowFields Unit) : (s.setWindow w e).active = s.active := rfl
@[simp] theorem State.setWindow_pendingRecord (w : Fin 8) (e : Entry WindowFields Unit) : (s.setWindow w e).pendingRecord = s.pendingRecord := rfl
@[simp] theorem State.setWindow_dayClock (w : Fin 8) (e : Entry WindowFields Unit) : (s.setWindow w e).dayClock = s.dayClock := rfl
@[simp] theorem State.setWindow_minuteTimer (w : Fin 8) (e : Entry WindowFields Unit) : (s.setWindow w e).minuteTimer = s.minuteTimer := rfl
@[simp] theorem State.setWindow_driveTimer (w : Fin 8) (e : Entry WindowFields Unit) : (s.setWindow w e).driveTimer = s.driveTimer := rfl
@[simp] theorem State.setWindow_field (w : Fin 8) (e : Entry WindowFields Unit) : (s.setWindow w e).field = s.field := rfl
@[simp] theorem State.setWindow_trunk (w : Fin 8) (e : Entry WindowFields Unit) : (s.setWindow w e).trunk = s.trunk := rfl
@[simp] theorem State.setWindow_zoneSlots (w : Fin 8) (e : Entry WindowFields Unit) : (s.setWindow w e).zoneSlots = s.zoneSlots := rfl
@[simp] theorem State.setWindow_pointSlots (w : Fin 8) (e : Entry WindowFields Unit) : (s.setWindow w e).pointSlots = s.pointSlots := rfl
@[simp] theorem State.setWindow_outputSlots (w : Fin 8) (e : Entry WindowFields Unit) : (s.setWindow w e).outputSlots = s.outputSlots := rfl
@[simp] theorem State.setWindow_deviceSlot (w : Fin 8) (e : Entry WindowFields Unit) : (s.setWindow w e).deviceSlot = s.deviceSlot := rfl
@[simp] theorem State.setWindow_counters (w : Fin 8) (e : Entry WindowFields Unit) : (s.setWindow w e).counters = s.counters := rfl
@[simp] theorem State.setWindow_store (w : Fin 8) (e : Entry WindowFields Unit) : (s.setWindow w e).store = s.store := rfl
@[simp] theorem State.setWindow_storeState (w : Fin 8) (e : Entry WindowFields Unit) : (s.setWindow w e).storeState = s.storeState := rfl
@[simp] theorem State.setWindow_save (w : Fin 8) (e : Entry WindowFields Unit) : (s.setWindow w e).save = s.save := rfl
@[simp] theorem State.setWindow_restartPending (w : Fin 8) (e : Entry WindowFields Unit) : (s.setWindow w e).restartPending = s.restartPending := rfl

/-! `setResponse` -/

@[simp] theorem State.setResponse_pending (v : Response) : (s.setResponse v).pending = s.pending := rfl
@[simp] theorem State.setResponse_freeIndex (v : Response) : (s.setResponse v).freeIndex = s.freeIndex := rfl
@[simp] theorem State.setResponse_powered (v : Response) : (s.setResponse v).powered = s.powered := rfl
@[simp] theorem State.setResponse_resetLine (v : Response) : (s.setResponse v).resetLine = s.resetLine := rfl
@[simp] theorem State.setResponse_points (v : Response) : (s.setResponse v).points = s.points := rfl
@[simp] theorem State.setResponse_zones (v : Response) : (s.setResponse v).zones = s.zones := rfl
@[simp] theorem State.setResponse_outputs (v : Response) : (s.setResponse v).outputs = s.outputs := rfl
@[simp] theorem State.setResponse_windows (v : Response) : (s.setResponse v).windows = s.windows := rfl
@[simp] theorem State.setResponse_response (v : Response) : (s.setResponse v).response = v := rfl
@[simp] theorem State.setResponse_clocks (v : Response) : (s.setResponse v).clocks = s.clocks := rfl
@[simp] theorem State.setResponse_active (v : Response) : (s.setResponse v).active = s.active := rfl
@[simp] theorem State.setResponse_pendingRecord (v : Response) : (s.setResponse v).pendingRecord = s.pendingRecord := rfl
@[simp] theorem State.setResponse_dayClock (v : Response) : (s.setResponse v).dayClock = s.dayClock := rfl
@[simp] theorem State.setResponse_minuteTimer (v : Response) : (s.setResponse v).minuteTimer = s.minuteTimer := rfl
@[simp] theorem State.setResponse_driveTimer (v : Response) : (s.setResponse v).driveTimer = s.driveTimer := rfl
@[simp] theorem State.setResponse_field (v : Response) : (s.setResponse v).field = s.field := rfl
@[simp] theorem State.setResponse_trunk (v : Response) : (s.setResponse v).trunk = s.trunk := rfl
@[simp] theorem State.setResponse_zoneSlots (v : Response) : (s.setResponse v).zoneSlots = s.zoneSlots := rfl
@[simp] theorem State.setResponse_pointSlots (v : Response) : (s.setResponse v).pointSlots = s.pointSlots := rfl
@[simp] theorem State.setResponse_outputSlots (v : Response) : (s.setResponse v).outputSlots = s.outputSlots := rfl
@[simp] theorem State.setResponse_deviceSlot (v : Response) : (s.setResponse v).deviceSlot = s.deviceSlot := rfl
@[simp] theorem State.setResponse_counters (v : Response) : (s.setResponse v).counters = s.counters := rfl
@[simp] theorem State.setResponse_store (v : Response) : (s.setResponse v).store = s.store := rfl
@[simp] theorem State.setResponse_storeState (v : Response) : (s.setResponse v).storeState = s.storeState := rfl
@[simp] theorem State.setResponse_save (v : Response) : (s.setResponse v).save = s.save := rfl
@[simp] theorem State.setResponse_restartPending (v : Response) : (s.setResponse v).restartPending = s.restartPending := rfl

/-! `setClock` -/

@[simp] theorem State.setClock_pending (j : Fin 2) (v : PurgeClock) : (s.setClock j v).pending = s.pending := rfl
@[simp] theorem State.setClock_freeIndex (j : Fin 2) (v : PurgeClock) : (s.setClock j v).freeIndex = s.freeIndex := rfl
@[simp] theorem State.setClock_powered (j : Fin 2) (v : PurgeClock) : (s.setClock j v).powered = s.powered := rfl
@[simp] theorem State.setClock_resetLine (j : Fin 2) (v : PurgeClock) : (s.setClock j v).resetLine = s.resetLine := rfl
@[simp] theorem State.setClock_points (j : Fin 2) (v : PurgeClock) : (s.setClock j v).points = s.points := rfl
@[simp] theorem State.setClock_zones (j : Fin 2) (v : PurgeClock) : (s.setClock j v).zones = s.zones := rfl
@[simp] theorem State.setClock_outputs (j : Fin 2) (v : PurgeClock) : (s.setClock j v).outputs = s.outputs := rfl
@[simp] theorem State.setClock_windows (j : Fin 2) (v : PurgeClock) : (s.setClock j v).windows = s.windows := rfl
@[simp] theorem State.setClock_response (j : Fin 2) (v : PurgeClock) : (s.setClock j v).response = s.response := rfl
@[simp] theorem State.setClock_clocks (j : Fin 2) (v : PurgeClock) : (s.setClock j v).clocks = s.clocks.set j v := rfl
@[simp] theorem State.setClock_active (j : Fin 2) (v : PurgeClock) : (s.setClock j v).active = s.active := rfl
@[simp] theorem State.setClock_pendingRecord (j : Fin 2) (v : PurgeClock) : (s.setClock j v).pendingRecord = s.pendingRecord := rfl
@[simp] theorem State.setClock_dayClock (j : Fin 2) (v : PurgeClock) : (s.setClock j v).dayClock = s.dayClock := rfl
@[simp] theorem State.setClock_minuteTimer (j : Fin 2) (v : PurgeClock) : (s.setClock j v).minuteTimer = s.minuteTimer := rfl
@[simp] theorem State.setClock_driveTimer (j : Fin 2) (v : PurgeClock) : (s.setClock j v).driveTimer = s.driveTimer := rfl
@[simp] theorem State.setClock_field (j : Fin 2) (v : PurgeClock) : (s.setClock j v).field = s.field := rfl
@[simp] theorem State.setClock_trunk (j : Fin 2) (v : PurgeClock) : (s.setClock j v).trunk = s.trunk := rfl
@[simp] theorem State.setClock_zoneSlots (j : Fin 2) (v : PurgeClock) : (s.setClock j v).zoneSlots = s.zoneSlots := rfl
@[simp] theorem State.setClock_pointSlots (j : Fin 2) (v : PurgeClock) : (s.setClock j v).pointSlots = s.pointSlots := rfl
@[simp] theorem State.setClock_outputSlots (j : Fin 2) (v : PurgeClock) : (s.setClock j v).outputSlots = s.outputSlots := rfl
@[simp] theorem State.setClock_deviceSlot (j : Fin 2) (v : PurgeClock) : (s.setClock j v).deviceSlot = s.deviceSlot := rfl
@[simp] theorem State.setClock_counters (j : Fin 2) (v : PurgeClock) : (s.setClock j v).counters = s.counters := rfl
@[simp] theorem State.setClock_store (j : Fin 2) (v : PurgeClock) : (s.setClock j v).store = s.store := rfl
@[simp] theorem State.setClock_storeState (j : Fin 2) (v : PurgeClock) : (s.setClock j v).storeState = s.storeState := rfl
@[simp] theorem State.setClock_save (j : Fin 2) (v : PurgeClock) : (s.setClock j v).save = s.save := rfl
@[simp] theorem State.setClock_restartPending (j : Fin 2) (v : PurgeClock) : (s.setClock j v).restartPending = s.restartPending := rfl

/-! `setPendingRecord` -/

@[simp] theorem State.setPendingRecord_pending (v : DeviceRecord) : (s.setPendingRecord v).pending = s.pending := rfl
@[simp] theorem State.setPendingRecord_freeIndex (v : DeviceRecord) : (s.setPendingRecord v).freeIndex = s.freeIndex := rfl
@[simp] theorem State.setPendingRecord_powered (v : DeviceRecord) : (s.setPendingRecord v).powered = s.powered := rfl
@[simp] theorem State.setPendingRecord_resetLine (v : DeviceRecord) : (s.setPendingRecord v).resetLine = s.resetLine := rfl
@[simp] theorem State.setPendingRecord_points (v : DeviceRecord) : (s.setPendingRecord v).points = s.points := rfl
@[simp] theorem State.setPendingRecord_zones (v : DeviceRecord) : (s.setPendingRecord v).zones = s.zones := rfl
@[simp] theorem State.setPendingRecord_outputs (v : DeviceRecord) : (s.setPendingRecord v).outputs = s.outputs := rfl
@[simp] theorem State.setPendingRecord_windows (v : DeviceRecord) : (s.setPendingRecord v).windows = s.windows := rfl
@[simp] theorem State.setPendingRecord_response (v : DeviceRecord) : (s.setPendingRecord v).response = s.response := rfl
@[simp] theorem State.setPendingRecord_clocks (v : DeviceRecord) : (s.setPendingRecord v).clocks = s.clocks := rfl
@[simp] theorem State.setPendingRecord_active (v : DeviceRecord) : (s.setPendingRecord v).active = s.active := rfl
@[simp] theorem State.setPendingRecord_pendingRecord (v : DeviceRecord) : (s.setPendingRecord v).pendingRecord = v := rfl
@[simp] theorem State.setPendingRecord_dayClock (v : DeviceRecord) : (s.setPendingRecord v).dayClock = s.dayClock := rfl
@[simp] theorem State.setPendingRecord_minuteTimer (v : DeviceRecord) : (s.setPendingRecord v).minuteTimer = s.minuteTimer := rfl
@[simp] theorem State.setPendingRecord_driveTimer (v : DeviceRecord) : (s.setPendingRecord v).driveTimer = s.driveTimer := rfl
@[simp] theorem State.setPendingRecord_field (v : DeviceRecord) : (s.setPendingRecord v).field = s.field := rfl
@[simp] theorem State.setPendingRecord_trunk (v : DeviceRecord) : (s.setPendingRecord v).trunk = s.trunk := rfl
@[simp] theorem State.setPendingRecord_zoneSlots (v : DeviceRecord) : (s.setPendingRecord v).zoneSlots = s.zoneSlots := rfl
@[simp] theorem State.setPendingRecord_pointSlots (v : DeviceRecord) : (s.setPendingRecord v).pointSlots = s.pointSlots := rfl
@[simp] theorem State.setPendingRecord_outputSlots (v : DeviceRecord) : (s.setPendingRecord v).outputSlots = s.outputSlots := rfl
@[simp] theorem State.setPendingRecord_deviceSlot (v : DeviceRecord) : (s.setPendingRecord v).deviceSlot = s.deviceSlot := rfl
@[simp] theorem State.setPendingRecord_counters (v : DeviceRecord) : (s.setPendingRecord v).counters = s.counters := rfl
@[simp] theorem State.setPendingRecord_store (v : DeviceRecord) : (s.setPendingRecord v).store = s.store := rfl
@[simp] theorem State.setPendingRecord_storeState (v : DeviceRecord) : (s.setPendingRecord v).storeState = s.storeState := rfl
@[simp] theorem State.setPendingRecord_save (v : DeviceRecord) : (s.setPendingRecord v).save = s.save := rfl
@[simp] theorem State.setPendingRecord_restartPending (v : DeviceRecord) : (s.setPendingRecord v).restartPending = s.restartPending := rfl

/-! `setDayClock` -/

@[simp] theorem State.setDayClock_pending (v : Option DayClock) : (s.setDayClock v).pending = s.pending := rfl
@[simp] theorem State.setDayClock_freeIndex (v : Option DayClock) : (s.setDayClock v).freeIndex = s.freeIndex := rfl
@[simp] theorem State.setDayClock_powered (v : Option DayClock) : (s.setDayClock v).powered = s.powered := rfl
@[simp] theorem State.setDayClock_resetLine (v : Option DayClock) : (s.setDayClock v).resetLine = s.resetLine := rfl
@[simp] theorem State.setDayClock_points (v : Option DayClock) : (s.setDayClock v).points = s.points := rfl
@[simp] theorem State.setDayClock_zones (v : Option DayClock) : (s.setDayClock v).zones = s.zones := rfl
@[simp] theorem State.setDayClock_outputs (v : Option DayClock) : (s.setDayClock v).outputs = s.outputs := rfl
@[simp] theorem State.setDayClock_windows (v : Option DayClock) : (s.setDayClock v).windows = s.windows := rfl
@[simp] theorem State.setDayClock_response (v : Option DayClock) : (s.setDayClock v).response = s.response := rfl
@[simp] theorem State.setDayClock_clocks (v : Option DayClock) : (s.setDayClock v).clocks = s.clocks := rfl
@[simp] theorem State.setDayClock_active (v : Option DayClock) : (s.setDayClock v).active = s.active := rfl
@[simp] theorem State.setDayClock_pendingRecord (v : Option DayClock) : (s.setDayClock v).pendingRecord = s.pendingRecord := rfl
@[simp] theorem State.setDayClock_dayClock (v : Option DayClock) : (s.setDayClock v).dayClock = v := rfl
@[simp] theorem State.setDayClock_minuteTimer (v : Option DayClock) : (s.setDayClock v).minuteTimer = s.minuteTimer := rfl
@[simp] theorem State.setDayClock_driveTimer (v : Option DayClock) : (s.setDayClock v).driveTimer = s.driveTimer := rfl
@[simp] theorem State.setDayClock_field (v : Option DayClock) : (s.setDayClock v).field = s.field := rfl
@[simp] theorem State.setDayClock_trunk (v : Option DayClock) : (s.setDayClock v).trunk = s.trunk := rfl
@[simp] theorem State.setDayClock_zoneSlots (v : Option DayClock) : (s.setDayClock v).zoneSlots = s.zoneSlots := rfl
@[simp] theorem State.setDayClock_pointSlots (v : Option DayClock) : (s.setDayClock v).pointSlots = s.pointSlots := rfl
@[simp] theorem State.setDayClock_outputSlots (v : Option DayClock) : (s.setDayClock v).outputSlots = s.outputSlots := rfl
@[simp] theorem State.setDayClock_deviceSlot (v : Option DayClock) : (s.setDayClock v).deviceSlot = s.deviceSlot := rfl
@[simp] theorem State.setDayClock_counters (v : Option DayClock) : (s.setDayClock v).counters = s.counters := rfl
@[simp] theorem State.setDayClock_store (v : Option DayClock) : (s.setDayClock v).store = s.store := rfl
@[simp] theorem State.setDayClock_storeState (v : Option DayClock) : (s.setDayClock v).storeState = s.storeState := rfl
@[simp] theorem State.setDayClock_save (v : Option DayClock) : (s.setDayClock v).save = s.save := rfl
@[simp] theorem State.setDayClock_restartPending (v : Option DayClock) : (s.setDayClock v).restartPending = s.restartPending := rfl

/-! `setMinuteTimer` -/

@[simp] theorem State.setMinuteTimer_pending (v : Nat) : (s.setMinuteTimer v).pending = s.pending := rfl
@[simp] theorem State.setMinuteTimer_freeIndex (v : Nat) : (s.setMinuteTimer v).freeIndex = s.freeIndex := rfl
@[simp] theorem State.setMinuteTimer_powered (v : Nat) : (s.setMinuteTimer v).powered = s.powered := rfl
@[simp] theorem State.setMinuteTimer_resetLine (v : Nat) : (s.setMinuteTimer v).resetLine = s.resetLine := rfl
@[simp] theorem State.setMinuteTimer_points (v : Nat) : (s.setMinuteTimer v).points = s.points := rfl
@[simp] theorem State.setMinuteTimer_zones (v : Nat) : (s.setMinuteTimer v).zones = s.zones := rfl
@[simp] theorem State.setMinuteTimer_outputs (v : Nat) : (s.setMinuteTimer v).outputs = s.outputs := rfl
@[simp] theorem State.setMinuteTimer_windows (v : Nat) : (s.setMinuteTimer v).windows = s.windows := rfl
@[simp] theorem State.setMinuteTimer_response (v : Nat) : (s.setMinuteTimer v).response = s.response := rfl
@[simp] theorem State.setMinuteTimer_clocks (v : Nat) : (s.setMinuteTimer v).clocks = s.clocks := rfl
@[simp] theorem State.setMinuteTimer_active (v : Nat) : (s.setMinuteTimer v).active = s.active := rfl
@[simp] theorem State.setMinuteTimer_pendingRecord (v : Nat) : (s.setMinuteTimer v).pendingRecord = s.pendingRecord := rfl
@[simp] theorem State.setMinuteTimer_dayClock (v : Nat) : (s.setMinuteTimer v).dayClock = s.dayClock := rfl
@[simp] theorem State.setMinuteTimer_minuteTimer (v : Nat) : (s.setMinuteTimer v).minuteTimer = v := rfl
@[simp] theorem State.setMinuteTimer_driveTimer (v : Nat) : (s.setMinuteTimer v).driveTimer = s.driveTimer := rfl
@[simp] theorem State.setMinuteTimer_field (v : Nat) : (s.setMinuteTimer v).field = s.field := rfl
@[simp] theorem State.setMinuteTimer_trunk (v : Nat) : (s.setMinuteTimer v).trunk = s.trunk := rfl
@[simp] theorem State.setMinuteTimer_zoneSlots (v : Nat) : (s.setMinuteTimer v).zoneSlots = s.zoneSlots := rfl
@[simp] theorem State.setMinuteTimer_pointSlots (v : Nat) : (s.setMinuteTimer v).pointSlots = s.pointSlots := rfl
@[simp] theorem State.setMinuteTimer_outputSlots (v : Nat) : (s.setMinuteTimer v).outputSlots = s.outputSlots := rfl
@[simp] theorem State.setMinuteTimer_deviceSlot (v : Nat) : (s.setMinuteTimer v).deviceSlot = s.deviceSlot := rfl
@[simp] theorem State.setMinuteTimer_counters (v : Nat) : (s.setMinuteTimer v).counters = s.counters := rfl
@[simp] theorem State.setMinuteTimer_store (v : Nat) : (s.setMinuteTimer v).store = s.store := rfl
@[simp] theorem State.setMinuteTimer_storeState (v : Nat) : (s.setMinuteTimer v).storeState = s.storeState := rfl
@[simp] theorem State.setMinuteTimer_save (v : Nat) : (s.setMinuteTimer v).save = s.save := rfl
@[simp] theorem State.setMinuteTimer_restartPending (v : Nat) : (s.setMinuteTimer v).restartPending = s.restartPending := rfl

/-! `setDriveTimer` -/

@[simp] theorem State.setDriveTimer_pending (v : Nat) : (s.setDriveTimer v).pending = s.pending := rfl
@[simp] theorem State.setDriveTimer_freeIndex (v : Nat) : (s.setDriveTimer v).freeIndex = s.freeIndex := rfl
@[simp] theorem State.setDriveTimer_powered (v : Nat) : (s.setDriveTimer v).powered = s.powered := rfl
@[simp] theorem State.setDriveTimer_resetLine (v : Nat) : (s.setDriveTimer v).resetLine = s.resetLine := rfl
@[simp] theorem State.setDriveTimer_points (v : Nat) : (s.setDriveTimer v).points = s.points := rfl
@[simp] theorem State.setDriveTimer_zones (v : Nat) : (s.setDriveTimer v).zones = s.zones := rfl
@[simp] theorem State.setDriveTimer_outputs (v : Nat) : (s.setDriveTimer v).outputs = s.outputs := rfl
@[simp] theorem State.setDriveTimer_windows (v : Nat) : (s.setDriveTimer v).windows = s.windows := rfl
@[simp] theorem State.setDriveTimer_response (v : Nat) : (s.setDriveTimer v).response = s.response := rfl
@[simp] theorem State.setDriveTimer_clocks (v : Nat) : (s.setDriveTimer v).clocks = s.clocks := rfl
@[simp] theorem State.setDriveTimer_active (v : Nat) : (s.setDriveTimer v).active = s.active := rfl
@[simp] theorem State.setDriveTimer_pendingRecord (v : Nat) : (s.setDriveTimer v).pendingRecord = s.pendingRecord := rfl
@[simp] theorem State.setDriveTimer_dayClock (v : Nat) : (s.setDriveTimer v).dayClock = s.dayClock := rfl
@[simp] theorem State.setDriveTimer_minuteTimer (v : Nat) : (s.setDriveTimer v).minuteTimer = s.minuteTimer := rfl
@[simp] theorem State.setDriveTimer_driveTimer (v : Nat) : (s.setDriveTimer v).driveTimer = v := rfl
@[simp] theorem State.setDriveTimer_field (v : Nat) : (s.setDriveTimer v).field = s.field := rfl
@[simp] theorem State.setDriveTimer_trunk (v : Nat) : (s.setDriveTimer v).trunk = s.trunk := rfl
@[simp] theorem State.setDriveTimer_zoneSlots (v : Nat) : (s.setDriveTimer v).zoneSlots = s.zoneSlots := rfl
@[simp] theorem State.setDriveTimer_pointSlots (v : Nat) : (s.setDriveTimer v).pointSlots = s.pointSlots := rfl
@[simp] theorem State.setDriveTimer_outputSlots (v : Nat) : (s.setDriveTimer v).outputSlots = s.outputSlots := rfl
@[simp] theorem State.setDriveTimer_deviceSlot (v : Nat) : (s.setDriveTimer v).deviceSlot = s.deviceSlot := rfl
@[simp] theorem State.setDriveTimer_counters (v : Nat) : (s.setDriveTimer v).counters = s.counters := rfl
@[simp] theorem State.setDriveTimer_store (v : Nat) : (s.setDriveTimer v).store = s.store := rfl
@[simp] theorem State.setDriveTimer_storeState (v : Nat) : (s.setDriveTimer v).storeState = s.storeState := rfl
@[simp] theorem State.setDriveTimer_save (v : Nat) : (s.setDriveTimer v).save = s.save := rfl
@[simp] theorem State.setDriveTimer_restartPending (v : Nat) : (s.setDriveTimer v).restartPending = s.restartPending := rfl

/-! `setField` -/

@[simp] theorem State.setField_pending (v : Port) : (s.setField v).pending = s.pending := rfl
@[simp] theorem State.setField_freeIndex (v : Port) : (s.setField v).freeIndex = s.freeIndex := rfl
@[simp] theorem State.setField_powered (v : Port) : (s.setField v).powered = s.powered := rfl
@[simp] theorem State.setField_resetLine (v : Port) : (s.setField v).resetLine = s.resetLine := rfl
@[simp] theorem State.setField_points (v : Port) : (s.setField v).points = s.points := rfl
@[simp] theorem State.setField_zones (v : Port) : (s.setField v).zones = s.zones := rfl
@[simp] theorem State.setField_outputs (v : Port) : (s.setField v).outputs = s.outputs := rfl
@[simp] theorem State.setField_windows (v : Port) : (s.setField v).windows = s.windows := rfl
@[simp] theorem State.setField_response (v : Port) : (s.setField v).response = s.response := rfl
@[simp] theorem State.setField_clocks (v : Port) : (s.setField v).clocks = s.clocks := rfl
@[simp] theorem State.setField_active (v : Port) : (s.setField v).active = s.active := rfl
@[simp] theorem State.setField_pendingRecord (v : Port) : (s.setField v).pendingRecord = s.pendingRecord := rfl
@[simp] theorem State.setField_dayClock (v : Port) : (s.setField v).dayClock = s.dayClock := rfl
@[simp] theorem State.setField_minuteTimer (v : Port) : (s.setField v).minuteTimer = s.minuteTimer := rfl
@[simp] theorem State.setField_driveTimer (v : Port) : (s.setField v).driveTimer = s.driveTimer := rfl
@[simp] theorem State.setField_field (v : Port) : (s.setField v).field = v := rfl
@[simp] theorem State.setField_trunk (v : Port) : (s.setField v).trunk = s.trunk := rfl
@[simp] theorem State.setField_zoneSlots (v : Port) : (s.setField v).zoneSlots = s.zoneSlots := rfl
@[simp] theorem State.setField_pointSlots (v : Port) : (s.setField v).pointSlots = s.pointSlots := rfl
@[simp] theorem State.setField_outputSlots (v : Port) : (s.setField v).outputSlots = s.outputSlots := rfl
@[simp] theorem State.setField_deviceSlot (v : Port) : (s.setField v).deviceSlot = s.deviceSlot := rfl
@[simp] theorem State.setField_counters (v : Port) : (s.setField v).counters = s.counters := rfl
@[simp] theorem State.setField_store (v : Port) : (s.setField v).store = s.store := rfl
@[simp] theorem State.setField_storeState (v : Port) : (s.setField v).storeState = s.storeState := rfl
@[simp] theorem State.setField_save (v : Port) : (s.setField v).save = s.save := rfl
@[simp] theorem State.setField_restartPending (v : Port) : (s.setField v).restartPending = s.restartPending := rfl

/-! `setTrunk` -/

@[simp] theorem State.setTrunk_pending (v : Port) : (s.setTrunk v).pending = s.pending := rfl
@[simp] theorem State.setTrunk_freeIndex (v : Port) : (s.setTrunk v).freeIndex = s.freeIndex := rfl
@[simp] theorem State.setTrunk_powered (v : Port) : (s.setTrunk v).powered = s.powered := rfl
@[simp] theorem State.setTrunk_resetLine (v : Port) : (s.setTrunk v).resetLine = s.resetLine := rfl
@[simp] theorem State.setTrunk_points (v : Port) : (s.setTrunk v).points = s.points := rfl
@[simp] theorem State.setTrunk_zones (v : Port) : (s.setTrunk v).zones = s.zones := rfl
@[simp] theorem State.setTrunk_outputs (v : Port) : (s.setTrunk v).outputs = s.outputs := rfl
@[simp] theorem State.setTrunk_windows (v : Port) : (s.setTrunk v).windows = s.windows := rfl
@[simp] theorem State.setTrunk_response (v : Port) : (s.setTrunk v).response = s.response := rfl
@[simp] theorem State.setTrunk_clocks (v : Port) : (s.setTrunk v).clocks = s.clocks := rfl
@[simp] theorem State.setTrunk_active (v : Port) : (s.setTrunk v).active = s.active := rfl
@[simp] theorem State.setTrunk_pendingRecord (v : Port) : (s.setTrunk v).pendingRecord = s.pendingRecord := rfl
@[simp] theorem State.setTrunk_dayClock (v : Port) : (s.setTrunk v).dayClock = s.dayClock := rfl
@[simp] theorem State.setTrunk_minuteTimer (v : Port) : (s.setTrunk v).minuteTimer = s.minuteTimer := rfl
@[simp] theorem State.setTrunk_driveTimer (v : Port) : (s.setTrunk v).driveTimer = s.driveTimer := rfl
@[simp] theorem State.setTrunk_field (v : Port) : (s.setTrunk v).field = s.field := rfl
@[simp] theorem State.setTrunk_trunk (v : Port) : (s.setTrunk v).trunk = v := rfl
@[simp] theorem State.setTrunk_zoneSlots (v : Port) : (s.setTrunk v).zoneSlots = s.zoneSlots := rfl
@[simp] theorem State.setTrunk_pointSlots (v : Port) : (s.setTrunk v).pointSlots = s.pointSlots := rfl
@[simp] theorem State.setTrunk_outputSlots (v : Port) : (s.setTrunk v).outputSlots = s.outputSlots := rfl
@[simp] theorem State.setTrunk_deviceSlot (v : Port) : (s.setTrunk v).deviceSlot = s.deviceSlot := rfl
@[simp] theorem State.setTrunk_counters (v : Port) : (s.setTrunk v).counters = s.counters := rfl
@[simp] theorem State.setTrunk_store (v : Port) : (s.setTrunk v).store = s.store := rfl
@[simp] theorem State.setTrunk_storeState (v : Port) : (s.setTrunk v).storeState = s.storeState := rfl
@[simp] theorem State.setTrunk_save (v : Port) : (s.setTrunk v).save = s.save := rfl
@[simp] theorem State.setTrunk_restartPending (v : Port) : (s.setTrunk v).restartPending = s.restartPending := rfl

/-! `setZoneSlot` -/

@[simp] theorem State.setZoneSlot_pending (z : Fin 8) (v : Slot) : (s.setZoneSlot z v).pending = s.pending := rfl
@[simp] theorem State.setZoneSlot_freeIndex (z : Fin 8) (v : Slot) : (s.setZoneSlot z v).freeIndex = s.freeIndex := rfl
@[simp] theorem State.setZoneSlot_powered (z : Fin 8) (v : Slot) : (s.setZoneSlot z v).powered = s.powered := rfl
@[simp] theorem State.setZoneSlot_resetLine (z : Fin 8) (v : Slot) : (s.setZoneSlot z v).resetLine = s.resetLine := rfl
@[simp] theorem State.setZoneSlot_points (z : Fin 8) (v : Slot) : (s.setZoneSlot z v).points = s.points := rfl
@[simp] theorem State.setZoneSlot_zones (z : Fin 8) (v : Slot) : (s.setZoneSlot z v).zones = s.zones := rfl
@[simp] theorem State.setZoneSlot_outputs (z : Fin 8) (v : Slot) : (s.setZoneSlot z v).outputs = s.outputs := rfl
@[simp] theorem State.setZoneSlot_windows (z : Fin 8) (v : Slot) : (s.setZoneSlot z v).windows = s.windows := rfl
@[simp] theorem State.setZoneSlot_response (z : Fin 8) (v : Slot) : (s.setZoneSlot z v).response = s.response := rfl
@[simp] theorem State.setZoneSlot_clocks (z : Fin 8) (v : Slot) : (s.setZoneSlot z v).clocks = s.clocks := rfl
@[simp] theorem State.setZoneSlot_active (z : Fin 8) (v : Slot) : (s.setZoneSlot z v).active = s.active := rfl
@[simp] theorem State.setZoneSlot_pendingRecord (z : Fin 8) (v : Slot) : (s.setZoneSlot z v).pendingRecord = s.pendingRecord := rfl
@[simp] theorem State.setZoneSlot_dayClock (z : Fin 8) (v : Slot) : (s.setZoneSlot z v).dayClock = s.dayClock := rfl
@[simp] theorem State.setZoneSlot_minuteTimer (z : Fin 8) (v : Slot) : (s.setZoneSlot z v).minuteTimer = s.minuteTimer := rfl
@[simp] theorem State.setZoneSlot_driveTimer (z : Fin 8) (v : Slot) : (s.setZoneSlot z v).driveTimer = s.driveTimer := rfl
@[simp] theorem State.setZoneSlot_field (z : Fin 8) (v : Slot) : (s.setZoneSlot z v).field = s.field := rfl
@[simp] theorem State.setZoneSlot_trunk (z : Fin 8) (v : Slot) : (s.setZoneSlot z v).trunk = s.trunk := rfl
@[simp] theorem State.setZoneSlot_zoneSlots (z : Fin 8) (v : Slot) : (s.setZoneSlot z v).zoneSlots = s.zoneSlots.set z v := rfl
@[simp] theorem State.setZoneSlot_pointSlots (z : Fin 8) (v : Slot) : (s.setZoneSlot z v).pointSlots = s.pointSlots := rfl
@[simp] theorem State.setZoneSlot_outputSlots (z : Fin 8) (v : Slot) : (s.setZoneSlot z v).outputSlots = s.outputSlots := rfl
@[simp] theorem State.setZoneSlot_deviceSlot (z : Fin 8) (v : Slot) : (s.setZoneSlot z v).deviceSlot = s.deviceSlot := rfl
@[simp] theorem State.setZoneSlot_counters (z : Fin 8) (v : Slot) : (s.setZoneSlot z v).counters = s.counters := rfl
@[simp] theorem State.setZoneSlot_store (z : Fin 8) (v : Slot) : (s.setZoneSlot z v).store = s.store := rfl
@[simp] theorem State.setZoneSlot_storeState (z : Fin 8) (v : Slot) : (s.setZoneSlot z v).storeState = s.storeState := rfl
@[simp] theorem State.setZoneSlot_save (z : Fin 8) (v : Slot) : (s.setZoneSlot z v).save = s.save := rfl
@[simp] theorem State.setZoneSlot_restartPending (z : Fin 8) (v : Slot) : (s.setZoneSlot z v).restartPending = s.restartPending := rfl

/-! `setPointSlot` -/

@[simp] theorem State.setPointSlot_pending (i : Fin 64) (v : TroubleSlot) : (s.setPointSlot i v).pending = s.pending := rfl
@[simp] theorem State.setPointSlot_freeIndex (i : Fin 64) (v : TroubleSlot) : (s.setPointSlot i v).freeIndex = s.freeIndex := rfl
@[simp] theorem State.setPointSlot_powered (i : Fin 64) (v : TroubleSlot) : (s.setPointSlot i v).powered = s.powered := rfl
@[simp] theorem State.setPointSlot_resetLine (i : Fin 64) (v : TroubleSlot) : (s.setPointSlot i v).resetLine = s.resetLine := rfl
@[simp] theorem State.setPointSlot_points (i : Fin 64) (v : TroubleSlot) : (s.setPointSlot i v).points = s.points := rfl
@[simp] theorem State.setPointSlot_zones (i : Fin 64) (v : TroubleSlot) : (s.setPointSlot i v).zones = s.zones := rfl
@[simp] theorem State.setPointSlot_outputs (i : Fin 64) (v : TroubleSlot) : (s.setPointSlot i v).outputs = s.outputs := rfl
@[simp] theorem State.setPointSlot_windows (i : Fin 64) (v : TroubleSlot) : (s.setPointSlot i v).windows = s.windows := rfl
@[simp] theorem State.setPointSlot_response (i : Fin 64) (v : TroubleSlot) : (s.setPointSlot i v).response = s.response := rfl
@[simp] theorem State.setPointSlot_clocks (i : Fin 64) (v : TroubleSlot) : (s.setPointSlot i v).clocks = s.clocks := rfl
@[simp] theorem State.setPointSlot_active (i : Fin 64) (v : TroubleSlot) : (s.setPointSlot i v).active = s.active := rfl
@[simp] theorem State.setPointSlot_pendingRecord (i : Fin 64) (v : TroubleSlot) : (s.setPointSlot i v).pendingRecord = s.pendingRecord := rfl
@[simp] theorem State.setPointSlot_dayClock (i : Fin 64) (v : TroubleSlot) : (s.setPointSlot i v).dayClock = s.dayClock := rfl
@[simp] theorem State.setPointSlot_minuteTimer (i : Fin 64) (v : TroubleSlot) : (s.setPointSlot i v).minuteTimer = s.minuteTimer := rfl
@[simp] theorem State.setPointSlot_driveTimer (i : Fin 64) (v : TroubleSlot) : (s.setPointSlot i v).driveTimer = s.driveTimer := rfl
@[simp] theorem State.setPointSlot_field (i : Fin 64) (v : TroubleSlot) : (s.setPointSlot i v).field = s.field := rfl
@[simp] theorem State.setPointSlot_trunk (i : Fin 64) (v : TroubleSlot) : (s.setPointSlot i v).trunk = s.trunk := rfl
@[simp] theorem State.setPointSlot_zoneSlots (i : Fin 64) (v : TroubleSlot) : (s.setPointSlot i v).zoneSlots = s.zoneSlots := rfl
@[simp] theorem State.setPointSlot_pointSlots (i : Fin 64) (v : TroubleSlot) : (s.setPointSlot i v).pointSlots = s.pointSlots.set i v := rfl
@[simp] theorem State.setPointSlot_outputSlots (i : Fin 64) (v : TroubleSlot) : (s.setPointSlot i v).outputSlots = s.outputSlots := rfl
@[simp] theorem State.setPointSlot_deviceSlot (i : Fin 64) (v : TroubleSlot) : (s.setPointSlot i v).deviceSlot = s.deviceSlot := rfl
@[simp] theorem State.setPointSlot_counters (i : Fin 64) (v : TroubleSlot) : (s.setPointSlot i v).counters = s.counters := rfl
@[simp] theorem State.setPointSlot_store (i : Fin 64) (v : TroubleSlot) : (s.setPointSlot i v).store = s.store := rfl
@[simp] theorem State.setPointSlot_storeState (i : Fin 64) (v : TroubleSlot) : (s.setPointSlot i v).storeState = s.storeState := rfl
@[simp] theorem State.setPointSlot_save (i : Fin 64) (v : TroubleSlot) : (s.setPointSlot i v).save = s.save := rfl
@[simp] theorem State.setPointSlot_restartPending (i : Fin 64) (v : TroubleSlot) : (s.setPointSlot i v).restartPending = s.restartPending := rfl

/-! `setOutputSlot` -/

@[simp] theorem State.setOutputSlot_pending (i : Fin 24) (v : TroubleSlot) : (s.setOutputSlot i v).pending = s.pending := rfl
@[simp] theorem State.setOutputSlot_freeIndex (i : Fin 24) (v : TroubleSlot) : (s.setOutputSlot i v).freeIndex = s.freeIndex := rfl
@[simp] theorem State.setOutputSlot_powered (i : Fin 24) (v : TroubleSlot) : (s.setOutputSlot i v).powered = s.powered := rfl
@[simp] theorem State.setOutputSlot_resetLine (i : Fin 24) (v : TroubleSlot) : (s.setOutputSlot i v).resetLine = s.resetLine := rfl
@[simp] theorem State.setOutputSlot_points (i : Fin 24) (v : TroubleSlot) : (s.setOutputSlot i v).points = s.points := rfl
@[simp] theorem State.setOutputSlot_zones (i : Fin 24) (v : TroubleSlot) : (s.setOutputSlot i v).zones = s.zones := rfl
@[simp] theorem State.setOutputSlot_outputs (i : Fin 24) (v : TroubleSlot) : (s.setOutputSlot i v).outputs = s.outputs := rfl
@[simp] theorem State.setOutputSlot_windows (i : Fin 24) (v : TroubleSlot) : (s.setOutputSlot i v).windows = s.windows := rfl
@[simp] theorem State.setOutputSlot_response (i : Fin 24) (v : TroubleSlot) : (s.setOutputSlot i v).response = s.response := rfl
@[simp] theorem State.setOutputSlot_clocks (i : Fin 24) (v : TroubleSlot) : (s.setOutputSlot i v).clocks = s.clocks := rfl
@[simp] theorem State.setOutputSlot_active (i : Fin 24) (v : TroubleSlot) : (s.setOutputSlot i v).active = s.active := rfl
@[simp] theorem State.setOutputSlot_pendingRecord (i : Fin 24) (v : TroubleSlot) : (s.setOutputSlot i v).pendingRecord = s.pendingRecord := rfl
@[simp] theorem State.setOutputSlot_dayClock (i : Fin 24) (v : TroubleSlot) : (s.setOutputSlot i v).dayClock = s.dayClock := rfl
@[simp] theorem State.setOutputSlot_minuteTimer (i : Fin 24) (v : TroubleSlot) : (s.setOutputSlot i v).minuteTimer = s.minuteTimer := rfl
@[simp] theorem State.setOutputSlot_driveTimer (i : Fin 24) (v : TroubleSlot) : (s.setOutputSlot i v).driveTimer = s.driveTimer := rfl
@[simp] theorem State.setOutputSlot_field (i : Fin 24) (v : TroubleSlot) : (s.setOutputSlot i v).field = s.field := rfl
@[simp] theorem State.setOutputSlot_trunk (i : Fin 24) (v : TroubleSlot) : (s.setOutputSlot i v).trunk = s.trunk := rfl
@[simp] theorem State.setOutputSlot_zoneSlots (i : Fin 24) (v : TroubleSlot) : (s.setOutputSlot i v).zoneSlots = s.zoneSlots := rfl
@[simp] theorem State.setOutputSlot_pointSlots (i : Fin 24) (v : TroubleSlot) : (s.setOutputSlot i v).pointSlots = s.pointSlots := rfl
@[simp] theorem State.setOutputSlot_outputSlots (i : Fin 24) (v : TroubleSlot) : (s.setOutputSlot i v).outputSlots = s.outputSlots.set i v := rfl
@[simp] theorem State.setOutputSlot_deviceSlot (i : Fin 24) (v : TroubleSlot) : (s.setOutputSlot i v).deviceSlot = s.deviceSlot := rfl
@[simp] theorem State.setOutputSlot_counters (i : Fin 24) (v : TroubleSlot) : (s.setOutputSlot i v).counters = s.counters := rfl
@[simp] theorem State.setOutputSlot_store (i : Fin 24) (v : TroubleSlot) : (s.setOutputSlot i v).store = s.store := rfl
@[simp] theorem State.setOutputSlot_storeState (i : Fin 24) (v : TroubleSlot) : (s.setOutputSlot i v).storeState = s.storeState := rfl
@[simp] theorem State.setOutputSlot_save (i : Fin 24) (v : TroubleSlot) : (s.setOutputSlot i v).save = s.save := rfl
@[simp] theorem State.setOutputSlot_restartPending (i : Fin 24) (v : TroubleSlot) : (s.setOutputSlot i v).restartPending = s.restartPending := rfl

/-! `setDeviceSlot` -/

@[simp] theorem State.setDeviceSlot_pending (v : Slot) : (s.setDeviceSlot v).pending = s.pending := rfl
@[simp] theorem State.setDeviceSlot_freeIndex (v : Slot) : (s.setDeviceSlot v).freeIndex = s.freeIndex := rfl
@[simp] theorem State.setDeviceSlot_powered (v : Slot) : (s.setDeviceSlot v).powered = s.powered := rfl
@[simp] theorem State.setDeviceSlot_resetLine (v : Slot) : (s.setDeviceSlot v).resetLine = s.resetLine := rfl
@[simp] theorem State.setDeviceSlot_points (v : Slot) : (s.setDeviceSlot v).points = s.points := rfl
@[simp] theorem State.setDeviceSlot_zones (v : Slot) : (s.setDeviceSlot v).zones = s.zones := rfl
@[simp] theorem State.setDeviceSlot_outputs (v : Slot) : (s.setDeviceSlot v).outputs = s.outputs := rfl
@[simp] theorem State.setDeviceSlot_windows (v : Slot) : (s.setDeviceSlot v).windows = s.windows := rfl
@[simp] theorem State.setDeviceSlot_response (v : Slot) : (s.setDeviceSlot v).response = s.response := rfl
@[simp] theorem State.setDeviceSlot_clocks (v : Slot) : (s.setDeviceSlot v).clocks = s.clocks := rfl
@[simp] theorem State.setDeviceSlot_active (v : Slot) : (s.setDeviceSlot v).active = s.active := rfl
@[simp] theorem State.setDeviceSlot_pendingRecord (v : Slot) : (s.setDeviceSlot v).pendingRecord = s.pendingRecord := rfl
@[simp] theorem State.setDeviceSlot_dayClock (v : Slot) : (s.setDeviceSlot v).dayClock = s.dayClock := rfl
@[simp] theorem State.setDeviceSlot_minuteTimer (v : Slot) : (s.setDeviceSlot v).minuteTimer = s.minuteTimer := rfl
@[simp] theorem State.setDeviceSlot_driveTimer (v : Slot) : (s.setDeviceSlot v).driveTimer = s.driveTimer := rfl
@[simp] theorem State.setDeviceSlot_field (v : Slot) : (s.setDeviceSlot v).field = s.field := rfl
@[simp] theorem State.setDeviceSlot_trunk (v : Slot) : (s.setDeviceSlot v).trunk = s.trunk := rfl
@[simp] theorem State.setDeviceSlot_zoneSlots (v : Slot) : (s.setDeviceSlot v).zoneSlots = s.zoneSlots := rfl
@[simp] theorem State.setDeviceSlot_pointSlots (v : Slot) : (s.setDeviceSlot v).pointSlots = s.pointSlots := rfl
@[simp] theorem State.setDeviceSlot_outputSlots (v : Slot) : (s.setDeviceSlot v).outputSlots = s.outputSlots := rfl
@[simp] theorem State.setDeviceSlot_deviceSlot (v : Slot) : (s.setDeviceSlot v).deviceSlot = v := rfl
@[simp] theorem State.setDeviceSlot_counters (v : Slot) : (s.setDeviceSlot v).counters = s.counters := rfl
@[simp] theorem State.setDeviceSlot_store (v : Slot) : (s.setDeviceSlot v).store = s.store := rfl
@[simp] theorem State.setDeviceSlot_storeState (v : Slot) : (s.setDeviceSlot v).storeState = s.storeState := rfl
@[simp] theorem State.setDeviceSlot_save (v : Slot) : (s.setDeviceSlot v).save = s.save := rfl
@[simp] theorem State.setDeviceSlot_restartPending (v : Slot) : (s.setDeviceSlot v).restartPending = s.restartPending := rfl

/-! `setCounters` -/

@[simp] theorem State.setCounters_pending (v : DeviceCounters) : (s.setCounters v).pending = s.pending := rfl
@[simp] theorem State.setCounters_freeIndex (v : DeviceCounters) : (s.setCounters v).freeIndex = s.freeIndex := rfl
@[simp] theorem State.setCounters_powered (v : DeviceCounters) : (s.setCounters v).powered = s.powered := rfl
@[simp] theorem State.setCounters_resetLine (v : DeviceCounters) : (s.setCounters v).resetLine = s.resetLine := rfl
@[simp] theorem State.setCounters_points (v : DeviceCounters) : (s.setCounters v).points = s.points := rfl
@[simp] theorem State.setCounters_zones (v : DeviceCounters) : (s.setCounters v).zones = s.zones := rfl
@[simp] theorem State.setCounters_outputs (v : DeviceCounters) : (s.setCounters v).outputs = s.outputs := rfl
@[simp] theorem State.setCounters_windows (v : DeviceCounters) : (s.setCounters v).windows = s.windows := rfl
@[simp] theorem State.setCounters_response (v : DeviceCounters) : (s.setCounters v).response = s.response := rfl
@[simp] theorem State.setCounters_clocks (v : DeviceCounters) : (s.setCounters v).clocks = s.clocks := rfl
@[simp] theorem State.setCounters_active (v : DeviceCounters) : (s.setCounters v).active = s.active := rfl
@[simp] theorem State.setCounters_pendingRecord (v : DeviceCounters) : (s.setCounters v).pendingRecord = s.pendingRecord := rfl
@[simp] theorem State.setCounters_dayClock (v : DeviceCounters) : (s.setCounters v).dayClock = s.dayClock := rfl
@[simp] theorem State.setCounters_minuteTimer (v : DeviceCounters) : (s.setCounters v).minuteTimer = s.minuteTimer := rfl
@[simp] theorem State.setCounters_driveTimer (v : DeviceCounters) : (s.setCounters v).driveTimer = s.driveTimer := rfl
@[simp] theorem State.setCounters_field (v : DeviceCounters) : (s.setCounters v).field = s.field := rfl
@[simp] theorem State.setCounters_trunk (v : DeviceCounters) : (s.setCounters v).trunk = s.trunk := rfl
@[simp] theorem State.setCounters_zoneSlots (v : DeviceCounters) : (s.setCounters v).zoneSlots = s.zoneSlots := rfl
@[simp] theorem State.setCounters_pointSlots (v : DeviceCounters) : (s.setCounters v).pointSlots = s.pointSlots := rfl
@[simp] theorem State.setCounters_outputSlots (v : DeviceCounters) : (s.setCounters v).outputSlots = s.outputSlots := rfl
@[simp] theorem State.setCounters_deviceSlot (v : DeviceCounters) : (s.setCounters v).deviceSlot = s.deviceSlot := rfl
@[simp] theorem State.setCounters_counters (v : DeviceCounters) : (s.setCounters v).counters = v := rfl
@[simp] theorem State.setCounters_store (v : DeviceCounters) : (s.setCounters v).store = s.store := rfl
@[simp] theorem State.setCounters_storeState (v : DeviceCounters) : (s.setCounters v).storeState = s.storeState := rfl
@[simp] theorem State.setCounters_save (v : DeviceCounters) : (s.setCounters v).save = s.save := rfl
@[simp] theorem State.setCounters_restartPending (v : DeviceCounters) : (s.setCounters v).restartPending = s.restartPending := rfl

/-! `setStore` -/

@[simp] theorem State.setStore_pending (v : StoreContent) : (s.setStore v).pending = s.pending := rfl
@[simp] theorem State.setStore_freeIndex (v : StoreContent) : (s.setStore v).freeIndex = s.freeIndex := rfl
@[simp] theorem State.setStore_powered (v : StoreContent) : (s.setStore v).powered = s.powered := rfl
@[simp] theorem State.setStore_resetLine (v : StoreContent) : (s.setStore v).resetLine = s.resetLine := rfl
@[simp] theorem State.setStore_points (v : StoreContent) : (s.setStore v).points = s.points := rfl
@[simp] theorem State.setStore_zones (v : StoreContent) : (s.setStore v).zones = s.zones := rfl
@[simp] theorem State.setStore_outputs (v : StoreContent) : (s.setStore v).outputs = s.outputs := rfl
@[simp] theorem State.setStore_windows (v : StoreContent) : (s.setStore v).windows = s.windows := rfl
@[simp] theorem State.setStore_response (v : StoreContent) : (s.setStore v).response = s.response := rfl
@[simp] theorem State.setStore_clocks (v : StoreContent) : (s.setStore v).clocks = s.clocks := rfl
@[simp] theorem State.setStore_active (v : StoreContent) : (s.setStore v).active = s.active := rfl
@[simp] theorem State.setStore_pendingRecord (v : StoreContent) : (s.setStore v).pendingRecord = s.pendingRecord := rfl
@[simp] theorem State.setStore_dayClock (v : StoreContent) : (s.setStore v).dayClock = s.dayClock := rfl
@[simp] theorem State.setStore_minuteTimer (v : StoreContent) : (s.setStore v).minuteTimer = s.minuteTimer := rfl
@[simp] theorem State.setStore_driveTimer (v : StoreContent) : (s.setStore v).driveTimer = s.driveTimer := rfl
@[simp] theorem State.setStore_field (v : StoreContent) : (s.setStore v).field = s.field := rfl
@[simp] theorem State.setStore_trunk (v : StoreContent) : (s.setStore v).trunk = s.trunk := rfl
@[simp] theorem State.setStore_zoneSlots (v : StoreContent) : (s.setStore v).zoneSlots = s.zoneSlots := rfl
@[simp] theorem State.setStore_pointSlots (v : StoreContent) : (s.setStore v).pointSlots = s.pointSlots := rfl
@[simp] theorem State.setStore_outputSlots (v : StoreContent) : (s.setStore v).outputSlots = s.outputSlots := rfl
@[simp] theorem State.setStore_deviceSlot (v : StoreContent) : (s.setStore v).deviceSlot = s.deviceSlot := rfl
@[simp] theorem State.setStore_counters (v : StoreContent) : (s.setStore v).counters = s.counters := rfl
@[simp] theorem State.setStore_store (v : StoreContent) : (s.setStore v).store = v := rfl
@[simp] theorem State.setStore_storeState (v : StoreContent) : (s.setStore v).storeState = s.storeState := rfl
@[simp] theorem State.setStore_save (v : StoreContent) : (s.setStore v).save = s.save := rfl
@[simp] theorem State.setStore_restartPending (v : StoreContent) : (s.setStore v).restartPending = s.restartPending := rfl

/-! `setStoreState` -/

@[simp] theorem State.setStoreState_pending (v : StoreState) : (s.setStoreState v).pending = s.pending := rfl
@[simp] theorem State.setStoreState_freeIndex (v : StoreState) : (s.setStoreState v).freeIndex = s.freeIndex := rfl
@[simp] theorem State.setStoreState_powered (v : StoreState) : (s.setStoreState v).powered = s.powered := rfl
@[simp] theorem State.setStoreState_resetLine (v : StoreState) : (s.setStoreState v).resetLine = s.resetLine := rfl
@[simp] theorem State.setStoreState_points (v : StoreState) : (s.setStoreState v).points = s.points := rfl
@[simp] theorem State.setStoreState_zones (v : StoreState) : (s.setStoreState v).zones = s.zones := rfl
@[simp] theorem State.setStoreState_outputs (v : StoreState) : (s.setStoreState v).outputs = s.outputs := rfl
@[simp] theorem State.setStoreState_windows (v : StoreState) : (s.setStoreState v).windows = s.windows := rfl
@[simp] theorem State.setStoreState_response (v : StoreState) : (s.setStoreState v).response = s.response := rfl
@[simp] theorem State.setStoreState_clocks (v : StoreState) : (s.setStoreState v).clocks = s.clocks := rfl
@[simp] theorem State.setStoreState_active (v : StoreState) : (s.setStoreState v).active = s.active := rfl
@[simp] theorem State.setStoreState_pendingRecord (v : StoreState) : (s.setStoreState v).pendingRecord = s.pendingRecord := rfl
@[simp] theorem State.setStoreState_dayClock (v : StoreState) : (s.setStoreState v).dayClock = s.dayClock := rfl
@[simp] theorem State.setStoreState_minuteTimer (v : StoreState) : (s.setStoreState v).minuteTimer = s.minuteTimer := rfl
@[simp] theorem State.setStoreState_driveTimer (v : StoreState) : (s.setStoreState v).driveTimer = s.driveTimer := rfl
@[simp] theorem State.setStoreState_field (v : StoreState) : (s.setStoreState v).field = s.field := rfl
@[simp] theorem State.setStoreState_trunk (v : StoreState) : (s.setStoreState v).trunk = s.trunk := rfl
@[simp] theorem State.setStoreState_zoneSlots (v : StoreState) : (s.setStoreState v).zoneSlots = s.zoneSlots := rfl
@[simp] theorem State.setStoreState_pointSlots (v : StoreState) : (s.setStoreState v).pointSlots = s.pointSlots := rfl
@[simp] theorem State.setStoreState_outputSlots (v : StoreState) : (s.setStoreState v).outputSlots = s.outputSlots := rfl
@[simp] theorem State.setStoreState_deviceSlot (v : StoreState) : (s.setStoreState v).deviceSlot = s.deviceSlot := rfl
@[simp] theorem State.setStoreState_counters (v : StoreState) : (s.setStoreState v).counters = s.counters := rfl
@[simp] theorem State.setStoreState_store (v : StoreState) : (s.setStoreState v).store = s.store := rfl
@[simp] theorem State.setStoreState_storeState (v : StoreState) : (s.setStoreState v).storeState = v := rfl
@[simp] theorem State.setStoreState_save (v : StoreState) : (s.setStoreState v).save = s.save := rfl
@[simp] theorem State.setStoreState_restartPending (v : StoreState) : (s.setStoreState v).restartPending = s.restartPending := rfl

/-! `setSave` -/

@[simp] theorem State.setSave_pending (v : Option SaveInFlight) : (s.setSave v).pending = s.pending := rfl
@[simp] theorem State.setSave_freeIndex (v : Option SaveInFlight) : (s.setSave v).freeIndex = s.freeIndex := rfl
@[simp] theorem State.setSave_powered (v : Option SaveInFlight) : (s.setSave v).powered = s.powered := rfl
@[simp] theorem State.setSave_resetLine (v : Option SaveInFlight) : (s.setSave v).resetLine = s.resetLine := rfl
@[simp] theorem State.setSave_points (v : Option SaveInFlight) : (s.setSave v).points = s.points := rfl
@[simp] theorem State.setSave_zones (v : Option SaveInFlight) : (s.setSave v).zones = s.zones := rfl
@[simp] theorem State.setSave_outputs (v : Option SaveInFlight) : (s.setSave v).outputs = s.outputs := rfl
@[simp] theorem State.setSave_windows (v : Option SaveInFlight) : (s.setSave v).windows = s.windows := rfl
@[simp] theorem State.setSave_response (v : Option SaveInFlight) : (s.setSave v).response = s.response := rfl
@[simp] theorem State.setSave_clocks (v : Option SaveInFlight) : (s.setSave v).clocks = s.clocks := rfl
@[simp] theorem State.setSave_active (v : Option SaveInFlight) : (s.setSave v).active = s.active := rfl
@[simp] theorem State.setSave_pendingRecord (v : Option SaveInFlight) : (s.setSave v).pendingRecord = s.pendingRecord := rfl
@[simp] theorem State.setSave_dayClock (v : Option SaveInFlight) : (s.setSave v).dayClock = s.dayClock := rfl
@[simp] theorem State.setSave_minuteTimer (v : Option SaveInFlight) : (s.setSave v).minuteTimer = s.minuteTimer := rfl
@[simp] theorem State.setSave_driveTimer (v : Option SaveInFlight) : (s.setSave v).driveTimer = s.driveTimer := rfl
@[simp] theorem State.setSave_field (v : Option SaveInFlight) : (s.setSave v).field = s.field := rfl
@[simp] theorem State.setSave_trunk (v : Option SaveInFlight) : (s.setSave v).trunk = s.trunk := rfl
@[simp] theorem State.setSave_zoneSlots (v : Option SaveInFlight) : (s.setSave v).zoneSlots = s.zoneSlots := rfl
@[simp] theorem State.setSave_pointSlots (v : Option SaveInFlight) : (s.setSave v).pointSlots = s.pointSlots := rfl
@[simp] theorem State.setSave_outputSlots (v : Option SaveInFlight) : (s.setSave v).outputSlots = s.outputSlots := rfl
@[simp] theorem State.setSave_deviceSlot (v : Option SaveInFlight) : (s.setSave v).deviceSlot = s.deviceSlot := rfl
@[simp] theorem State.setSave_counters (v : Option SaveInFlight) : (s.setSave v).counters = s.counters := rfl
@[simp] theorem State.setSave_store (v : Option SaveInFlight) : (s.setSave v).store = s.store := rfl
@[simp] theorem State.setSave_storeState (v : Option SaveInFlight) : (s.setSave v).storeState = s.storeState := rfl
@[simp] theorem State.setSave_save (v : Option SaveInFlight) : (s.setSave v).save = v := rfl
@[simp] theorem State.setSave_restartPending (v : Option SaveInFlight) : (s.setSave v).restartPending = s.restartPending := rfl

/-! `setRestartPending` -/

@[simp] theorem State.setRestartPending_pending (v : Bool) : (s.setRestartPending v).pending = s.pending := rfl
@[simp] theorem State.setRestartPending_freeIndex (v : Bool) : (s.setRestartPending v).freeIndex = s.freeIndex := rfl
@[simp] theorem State.setRestartPending_powered (v : Bool) : (s.setRestartPending v).powered = s.powered := rfl
@[simp] theorem State.setRestartPending_resetLine (v : Bool) : (s.setRestartPending v).resetLine = s.resetLine := rfl
@[simp] theorem State.setRestartPending_points (v : Bool) : (s.setRestartPending v).points = s.points := rfl
@[simp] theorem State.setRestartPending_zones (v : Bool) : (s.setRestartPending v).zones = s.zones := rfl
@[simp] theorem State.setRestartPending_outputs (v : Bool) : (s.setRestartPending v).outputs = s.outputs := rfl
@[simp] theorem State.setRestartPending_windows (v : Bool) : (s.setRestartPending v).windows = s.windows := rfl
@[simp] theorem State.setRestartPending_response (v : Bool) : (s.setRestartPending v).response = s.response := rfl
@[simp] theorem State.setRestartPending_clocks (v : Bool) : (s.setRestartPending v).clocks = s.clocks := rfl
@[simp] theorem State.setRestartPending_active (v : Bool) : (s.setRestartPending v).active = s.active := rfl
@[simp] theorem State.setRestartPending_pendingRecord (v : Bool) : (s.setRestartPending v).pendingRecord = s.pendingRecord := rfl
@[simp] theorem State.setRestartPending_dayClock (v : Bool) : (s.setRestartPending v).dayClock = s.dayClock := rfl
@[simp] theorem State.setRestartPending_minuteTimer (v : Bool) : (s.setRestartPending v).minuteTimer = s.minuteTimer := rfl
@[simp] theorem State.setRestartPending_driveTimer (v : Bool) : (s.setRestartPending v).driveTimer = s.driveTimer := rfl
@[simp] theorem State.setRestartPending_field (v : Bool) : (s.setRestartPending v).field = s.field := rfl
@[simp] theorem State.setRestartPending_trunk (v : Bool) : (s.setRestartPending v).trunk = s.trunk := rfl
@[simp] theorem State.setRestartPending_zoneSlots (v : Bool) : (s.setRestartPending v).zoneSlots = s.zoneSlots := rfl
@[simp] theorem State.setRestartPending_pointSlots (v : Bool) : (s.setRestartPending v).pointSlots = s.pointSlots := rfl
@[simp] theorem State.setRestartPending_outputSlots (v : Bool) : (s.setRestartPending v).outputSlots = s.outputSlots := rfl
@[simp] theorem State.setRestartPending_deviceSlot (v : Bool) : (s.setRestartPending v).deviceSlot = s.deviceSlot := rfl
@[simp] theorem State.setRestartPending_counters (v : Bool) : (s.setRestartPending v).counters = s.counters := rfl
@[simp] theorem State.setRestartPending_store (v : Bool) : (s.setRestartPending v).store = s.store := rfl
@[simp] theorem State.setRestartPending_storeState (v : Bool) : (s.setRestartPending v).storeState = s.storeState := rfl
@[simp] theorem State.setRestartPending_save (v : Bool) : (s.setRestartPending v).save = s.save := rfl
@[simp] theorem State.setRestartPending_restartPending (v : Bool) : (s.setRestartPending v).restartPending = v := rfl

/-! ## Ports by name -/

@[simp] theorem State.port_field : s.port .field = s.field := rfl
@[simp] theorem State.port_trunk : s.port .trunk = s.trunk := rfl
@[simp] theorem State.setPort_field (v : Port) : s.setPort .field v = s.setField v := rfl
@[simp] theorem State.setPort_trunk (v : Port) : s.setPort .trunk v = s.setTrunk v := rfl
@[simp] theorem State.port_setPort (p : PortId) (v : Port) : (s.setPort p v).port p = v := by cases p <;> rfl
theorem State.port_setPort_ne {p q : PortId} (h : q ≠ p) (v : Port) : (s.setPort p v).port q = s.port q := by
  cases p <;> cases q <;> first | rfl | exact absurd rfl h

@[simp] theorem State.setPort_pending (p : PortId) (v : Port) : (s.setPort p v).pending = s.pending := by cases p <;> rfl
@[simp] theorem State.setPort_freeIndex (p : PortId) (v : Port) : (s.setPort p v).freeIndex = s.freeIndex := by cases p <;> rfl
@[simp] theorem State.setPort_powered (p : PortId) (v : Port) : (s.setPort p v).powered = s.powered := by cases p <;> rfl
@[simp] theorem State.setPort_resetLine (p : PortId) (v : Port) : (s.setPort p v).resetLine = s.resetLine := by cases p <;> rfl
@[simp] theorem State.setPort_points (p : PortId) (v : Port) : (s.setPort p v).points = s.points := by cases p <;> rfl
@[simp] theorem State.setPort_zones (p : PortId) (v : Port) : (s.setPort p v).zones = s.zones := by cases p <;> rfl
@[simp] theorem State.setPort_outputs (p : PortId) (v : Port) : (s.setPort p v).outputs = s.outputs := by cases p <;> rfl
@[simp] theorem State.setPort_windows (p : PortId) (v : Port) : (s.setPort p v).windows = s.windows := by cases p <;> rfl
@[simp] theorem State.setPort_response (p : PortId) (v : Port) : (s.setPort p v).response = s.response := by cases p <;> rfl
@[simp] theorem State.setPort_clocks (p : PortId) (v : Port) : (s.setPort p v).clocks = s.clocks := by cases p <;> rfl
@[simp] theorem State.setPort_active (p : PortId) (v : Port) : (s.setPort p v).active = s.active := by cases p <;> rfl
@[simp] theorem State.setPort_pendingRecord (p : PortId) (v : Port) : (s.setPort p v).pendingRecord = s.pendingRecord := by cases p <;> rfl
@[simp] theorem State.setPort_dayClock (p : PortId) (v : Port) : (s.setPort p v).dayClock = s.dayClock := by cases p <;> rfl
@[simp] theorem State.setPort_minuteTimer (p : PortId) (v : Port) : (s.setPort p v).minuteTimer = s.minuteTimer := by cases p <;> rfl
@[simp] theorem State.setPort_driveTimer (p : PortId) (v : Port) : (s.setPort p v).driveTimer = s.driveTimer := by cases p <;> rfl
@[simp] theorem State.setPort_zoneSlots (p : PortId) (v : Port) : (s.setPort p v).zoneSlots = s.zoneSlots := by cases p <;> rfl
@[simp] theorem State.setPort_pointSlots (p : PortId) (v : Port) : (s.setPort p v).pointSlots = s.pointSlots := by cases p <;> rfl
@[simp] theorem State.setPort_outputSlots (p : PortId) (v : Port) : (s.setPort p v).outputSlots = s.outputSlots := by cases p <;> rfl
@[simp] theorem State.setPort_deviceSlot (p : PortId) (v : Port) : (s.setPort p v).deviceSlot = s.deviceSlot := by cases p <;> rfl
@[simp] theorem State.setPort_counters (p : PortId) (v : Port) : (s.setPort p v).counters = s.counters := by cases p <;> rfl
@[simp] theorem State.setPort_store (p : PortId) (v : Port) : (s.setPort p v).store = s.store := by cases p <;> rfl
@[simp] theorem State.setPort_storeState (p : PortId) (v : Port) : (s.setPort p v).storeState = s.storeState := by cases p <;> rfl
@[simp] theorem State.setPort_save (p : PortId) (v : Port) : (s.setPort p v).save = s.save := by cases p <;> rfl
@[simp] theorem State.setPort_restartPending (p : PortId) (v : Port) : (s.setPort p v).restartPending = s.restartPending := by cases p <;> rfl

/-! ## Port counters -/

variable (p : Port)

@[simp] theorem Port.countReceived_on : p.countReceived.on = p.on := rfl
@[simp] theorem Port.countReceived_queue : p.countReceived.queue = p.queue := rfl
@[simp] theorem Port.countReceived_report : p.countReceived.report = p.report := rfl
@[simp] theorem Port.countReceived_recovery : p.countReceived.recovery = p.recovery := rfl
@[simp] theorem Port.countReceived_counters : p.countReceived.counters = { p.counters with received := satInc p.counters.received } := rfl
@[simp] theorem Port.countForwarded_on : p.countForwarded.on = p.on := rfl
@[simp] theorem Port.countForwarded_queue : p.countForwarded.queue = p.queue := rfl
@[simp] theorem Port.countForwarded_report : p.countForwarded.report = p.report := rfl
@[simp] theorem Port.countForwarded_recovery : p.countForwarded.recovery = p.recovery := rfl
@[simp] theorem Port.countForwarded_counters : p.countForwarded.counters = { p.counters with forwarded := satInc p.counters.forwarded } := rfl
@[simp] theorem Port.countDroppedQueue_on : p.countDroppedQueue.on = p.on := rfl
@[simp] theorem Port.countDroppedQueue_queue : p.countDroppedQueue.queue = p.queue := rfl
@[simp] theorem Port.countDroppedQueue_report : p.countDroppedQueue.report = p.report := rfl
@[simp] theorem Port.countDroppedQueue_recovery : p.countDroppedQueue.recovery = p.recovery := rfl
@[simp] theorem Port.countDroppedQueue_counters : p.countDroppedQueue.counters = { p.counters with droppedQueue := satInc p.counters.droppedQueue } := rfl
@[simp] theorem Port.countDroppedHop_on : p.countDroppedHop.on = p.on := rfl
@[simp] theorem Port.countDroppedHop_queue : p.countDroppedHop.queue = p.queue := rfl
@[simp] theorem Port.countDroppedHop_report : p.countDroppedHop.report = p.report := rfl
@[simp] theorem Port.countDroppedHop_recovery : p.countDroppedHop.recovery = p.recovery := rfl
@[simp] theorem Port.countDroppedHop_counters : p.countDroppedHop.counters = { p.counters with droppedHop := satInc p.counters.droppedHop } := rfl
@[simp] theorem Port.countAbandoned_on : p.countAbandoned.on = p.on := rfl
@[simp] theorem Port.countAbandoned_queue : p.countAbandoned.queue = p.queue := rfl
@[simp] theorem Port.countAbandoned_report : p.countAbandoned.report = p.report := rfl
@[simp] theorem Port.countAbandoned_recovery : p.countAbandoned.recovery = p.recovery := rfl
@[simp] theorem Port.countAbandoned_counters : p.countAbandoned.counters = { p.counters with abandoned := satInc p.counters.abandoned } := rfl
@[simp] theorem Port.countOffEntry_on : p.countOffEntry.on = p.on := rfl
@[simp] theorem Port.countOffEntry_queue : p.countOffEntry.queue = p.queue := rfl
@[simp] theorem Port.countOffEntry_report : p.countOffEntry.report = p.report := rfl
@[simp] theorem Port.countOffEntry_recovery : p.countOffEntry.recovery = p.recovery := rfl
@[simp] theorem Port.countOffEntry_counters : p.countOffEntry.counters = { p.counters with offEntries := satInc p.counters.offEntries } := rfl
@[simp] theorem Port.countMalformed_on : p.countMalformed.on = p.on := rfl
@[simp] theorem Port.countMalformed_queue : p.countMalformed.queue = p.queue := rfl
@[simp] theorem Port.countMalformed_report : p.countMalformed.report = p.report := rfl
@[simp] theorem Port.countMalformed_recovery : p.countMalformed.recovery = p.recovery := rfl
@[simp] theorem Port.countMalformed_counters : p.countMalformed.counters = { p.counters with malformed := satInc p.counters.malformed } := rfl

/-! ## Device-wide counters -/

theorem State.countStranger_eq : s.countStranger = s.setCounters { s.counters with stranger := satInc s.counters.stranger } := rfl
theorem State.countBadSample_eq : s.countBadSample = s.setCounters { s.counters with badSamples := satInc s.counters.badSamples } := rfl
theorem State.countBlockedDrive_eq : s.countBlockedDrive = s.setCounters { s.counters with blockedDrive := satInc s.counters.blockedDrive } := rfl
theorem State.countIgnoredPanel_eq : s.countIgnoredPanel = s.setCounters { s.counters with ignoredPanel := satInc s.counters.ignoredPanel } := rfl
theorem State.countIgnoredTime_eq : s.countIgnoredTime = s.setCounters { s.counters with ignoredTime := satInc s.counters.ignoredTime } := rfl
theorem State.countMgmtDropped_eq : s.countMgmtDropped = s.setCounters { s.counters with mgmtDropped := satInc s.counters.mgmtDropped } := rfl

/-- A saturating count never passes 65535 (R173). -/
theorem satInc_le (n : Nat) : satInc n ≤ 65535 := Nat.min_le_right _ _

end Sys2Proof.Machine
end

