-- ==== Sys2Proof/Laws/Event.lean ====
section
/-! SUPPORT. What an event can do: what `onEvent`, `onFrame` and the end of an event answer. -/

namespace Sys2Proof.Machine

variable {s t : State} {applies : Bool} {f : State → State} {p : PortId}

/-- All that an event can answer: its effect with the end of the event, when the part works and the event applies, and the
state as it was otherwise. -/
theorem onEvent_next : onEvent applies f s = .next t ↔
    (s.works = true ∧ applies = true ∧ t = (f s).finish) ∨ ((s.works = false ∨ applies = false) ∧ t = s) := by
  unfold onEvent
  cases s.works <;> cases applies <;> simp [eq_comm]

theorem onEvent_of (hw : s.works = true) (ha : applies = true) : onEvent applies f s = .next (f s).finish := by
  simp [onEvent, hw, ha]

theorem onEvent_of_not (h : s.works = false ∨ applies = false) : onEvent applies f s = .next s := by
  rcases h with h | h <;> simp [onEvent, h]

/-- An event always answers a next state. -/
theorem onEvent_total : ∃ t, onEvent applies f s = .next t := by
  unfold onEvent; split <;> exact ⟨_, rfl⟩

/-- All that a frame on a line can answer: a port that is ON counts it and its effect follows (R121). -/
theorem onFrame_next : onFrame p f s = .next t ↔
    (s.works = true ∧ (s.port p).on = true ∧ t = (f (s.heard p)).finish)
      ∨ ((s.works = false ∨ (s.port p).on = false) ∧ t = s) := onEvent_next

theorem onFrame_of (hw : s.works = true) (ho : (s.port p).on = true) :
    onFrame p f s = .next (f (s.heard p)).finish := onEvent_of hw ho

theorem onFrame_of_not (h : s.works = false ∨ (s.port p).on = false) : onFrame p f s = .next s := onEvent_of_not h

/-- The end of an event at which no RESTART is due: both arbiters choose. -/
theorem State.finish_of_not_due (h : s.restartDue = false) : s.finish = s.arbitrate := by simp [State.finish, h]

/-- The end of an event at which a RESTART is due: it takes effect. -/
theorem State.finish_of_due (h : s.restartDue = true) : s.finish = s.restarted := by simp [State.finish, h]

theorem State.restartDue_of_not_pending (h : s.restartPending = false) : s.restartDue = false := by
  simp [State.restartDue, h]

@[simp] theorem State.heard_works : (s.heard p).works = s.works := by cases p <;> rfl
@[simp] theorem State.heard_restartPending : (s.heard p).restartPending = s.restartPending := by cases p <;> rfl
@[simp] theorem State.heard_restartDue : (s.heard p).restartDue = s.restartDue := by cases p <;> rfl
@[simp] theorem State.heard_trunk_queue : (s.heard p).trunk.queue = s.trunk.queue := by cases p <;> rfl
@[simp] theorem State.heard_field_queue : (s.heard p).field.queue = s.field.queue := by cases p <;> rfl

end Sys2Proof.Machine
end

