-- ==== Sys2Proof/Laws/Lines.lean ====
section
/-! SUPPORT. What the operations over the ports and their queues can do: joining, forwarding, replying, the DRIVE frames and
the arbiters. -/

namespace Sys2Proof.Machine

variable {s t : State} {p q : Port}

/-! ## The words of the claims -/

theorem Port.SameLine.refl (p : Port) : p.SameLine p := ⟨rfl, rfl, rfl, rfl⟩

theorem Port.SameLine.trans {p q r : Port} (h : p.SameLine q) (k : q.SameLine r) : p.SameLine r :=
  ⟨k.1.trans h.1, k.2.1.trans h.2.1, k.2.2.1.trans h.2.2.1, k.2.2.2.trans h.2.2.2⟩

theorem State.OnlyLines.refl (s : State) : s.OnlyLines s := rfl

theorem State.OnlyLines.trans {s t u : State} (h : s.OnlyLines t) (k : t.OnlyLines u) : s.OnlyLines u := by
  unfold State.OnlyLines at *; rw [k, h]

theorem State.OnlyLines.setField (h : s.OnlyLines t) (p : Port) : s.OnlyLines (t.setField p) := by
  unfold State.OnlyLines at *; rw [h]; rfl

theorem State.OnlyLines.setTrunk (h : s.OnlyLines t) (p : Port) : s.OnlyLines (t.setTrunk p) := by
  unfold State.OnlyLines at *; rw [h]; rfl

/-! ## Joining a queue (R125, R127) -/

/-- All that joining a queue can do: the frame is added as the newest; or, in a full queue, it takes the place of the newest
frame of the least urgent priority, or is dropped, and either is counted. -/
theorem Port.join_cases (p : Port) (full : Bool) (looked : QEntry → Bool) (e : QEntry) :
    (full = false ∧ p.join full looked e = ({ p with queue := p.queue ++ [e] }, true))
    ∨ (full = true ∧ e.frame.prio.toNat < leastUrgent looked p.queue ∧ p.join full looked e =
        ({ p.countDroppedQueue with
            queue := removeNewest (fun x => looked x && x.frame.prio.toNat == leastUrgent looked p.queue) p.queue ++ [e] },
          true))
    ∨ (full = true ∧ leastUrgent looked p.queue ≤ e.frame.prio.toNat
        ∧ p.join full looked e = (p.countDroppedQueue, false)) := by
  unfold Port.join fullQueueRule
  by_cases h : e.frame.prio.toNat < leastUrgent looked p.queue
  · cases full <;> simp [h]
  · cases full <;> simp [h, Nat.le_of_not_lt h]

theorem Port.joinTrunk_of_room {e : QEntry} (h : p.queue.length < trunkRoom) :
    p.joinTrunk e = ({ p with queue := p.queue ++ [e] }, true) := by
  have : decide (trunkRoom ≤ p.queue.length) = false := by simpa using h
  simp [Port.joinTrunk, Port.join, this]

theorem Port.joinField_of_room {e : QEntry} (h : (p.queue.filter QEntry.isForwarded).length < fieldForwardedRoom) :
    p.joinField e = ({ p with queue := p.queue ++ [e] }, true) := by
  have : decide (fieldForwardedRoom ≤ (p.queue.filter QEntry.isForwarded).length) = false := by simpa using h
  simp [Port.joinField, Port.join, this]

/-- Forwarding up with room (R125, R129): the frame joins the TRUNK queue and is counted on the FIELD port. -/
theorem State.forwardUp_of_room {f : Frame} (hh : f.hop ≠ 15) (h : s.trunk.queue.length < trunkRoom) :
    s.forwardUp f = (s.setTrunk { s.trunk with queue := s.trunk.queue ++ [forwardedEntry f] }).setField
      s.field.countForwarded := by
  rw [State.forwardUp, if_neg hh]
  simp [Port.joinTrunk_of_room h]

/-- Forwarding down with room (R127, R129). -/
theorem State.forwardDown_of_room {f : Frame} (hh : f.hop ≠ 15)
    (h : (s.field.queue.filter QEntry.isForwarded).length < fieldForwardedRoom) :
    s.forwardDown f = (s.setField { s.field with queue := s.field.queue ++ [forwardedEntry f] }).setTrunk
      s.trunk.countForwarded := by
  rw [State.forwardDown, if_neg hh]
  simp [Port.joinField_of_room h]

/-- A frame that has passed through fifteen DX48s is dropped and counted (R129). -/
theorem State.forwardUp_of_hop {f : Frame} (h : f.hop = 15) : s.forwardUp f = s.setField s.field.countDroppedHop := by
  simp [State.forwardUp, h]

theorem State.forwardDown_of_hop {f : Frame} (h : f.hop = 15) :
    s.forwardDown f = s.setTrunk s.trunk.countDroppedHop := by
  simp [State.forwardDown, h]

/-- Forwarding changes nothing but the lines. -/
theorem State.forwardUp_onlyLines (s : State) (f : Frame) : s.OnlyLines (s.forwardUp f) := by
  unfold State.forwardUp
  split
  · rfl
  · dsimp only
    split <;> rfl

theorem State.forwardDown_onlyLines (s : State) (f : Frame) : s.OnlyLines (s.forwardDown f) := by
  unfold State.forwardDown
  split
  · rfl
  · dsimp only
    split <;> rfl

/-- A reply joins the TRUNK queue when it has room (R153). -/
theorem State.queueReply_of_room {o : Origin} {dst code tag : Byte} {n : Nat} {data : List Byte}
    (h : s.trunk.queue.length < trunkRoom) :
    s.queueReply o dst code tag n data =
      s.setTrunk { s.trunk with queue := s.trunk.queue ++ [⟨s.replyFrame dst code tag n data, o, none⟩] } := by
  simp [State.queueReply, Port.joinTrunk_of_room h, State.replyFrame]

theorem State.queueReply_onlyLines (s : State) (o : Origin) (dst code tag : Byte) (n : Nat) (data : List Byte) :
    s.OnlyLines (s.queueReply o dst code tag n data) := rfl

/-! ## DRIVE frames (R90, R91) -/

theorem State.queueDrive_of_some {i : Fin 24} {e : QEntry} (h : s.driveEntry i = some e) :
    s.queueDrive i = s.setField { s.field with queue := joinDrive s.field.queue i e } := by
  simp [State.queueDrive, h]

theorem State.queueDrive_of_none {i : Fin 24} (h : s.driveEntry i = none) : s.queueDrive i = s := by
  simp [State.queueDrive, h]

/-- Queuing a DRIVE changes the FIELD queue alone. -/
theorem State.queueDrive_eq (s : State) (i : Fin 24) :
    s.queueDrive i = s.setField { s.field with queue := (s.queueDrive i).field.queue } := by
  unfold State.queueDrive; split <;> rfl

theorem State.queueDrive_onlyLines (s : State) (i : Fin 24) : s.OnlyLines (s.queueDrive i) := by
  unfold State.queueDrive; split <;> rfl

theorem State.withdrawDrive_onlyLines (s : State) (i : Fin 24) : s.OnlyLines (s.withdrawDrive i) := rfl

/-- After a DRIVE has joined, every DRIVE of its output is the new one. -/
theorem mem_joinDrive {q : List QEntry} {i : Fin 24} {e x : QEntry} (h : x ∈ joinDrive q i e) :
    x = e ∨ (x ∈ q ∧ x.isDriveOf i = false) := by
  unfold joinDrive at h
  split at h
  · obtain ⟨y, hy, rfl⟩ := List.mem_map.1 h
    by_cases k : y.isDriveOf i = true
    · simp [k]
    · simp [k, hy]
  · rename_i k
    rcases List.mem_append.1 h with h | h
    · exact .inr ⟨h, by simpa using fun hx => k (List.any_eq_true.2 ⟨x, h, hx⟩)⟩
    · exact .inl (by simpa using h)

/-- The new DRIVE is in the queue it has joined. -/
theorem self_mem_joinDrive (q : List QEntry) (i : Fin 24) (e : QEntry) : e ∈ joinDrive q i e := by
  unfold joinDrive
  split
  · rename_i k
    obtain ⟨x, hx, hd⟩ := List.any_eq_true.1 k
    exact List.mem_map.2 ⟨x, hx, by simp [hd]⟩
  · simp

/-- The frames of the FIELD queue once a DRIVE has joined it. -/
theorem frames_joinDrive (p : Port) (i : Fin 24) (run : Bool) (f : Frame) :
    ({ p with queue := joinDrive p.queue i ⟨f, .drive i run, none⟩ } : Port).frames = withDrive p.frames i run f := by
  have h : (p.queue.map fun e => (e.frame, e.origin)).any (·.2.isDriveOf i) = p.queue.any (·.isDriveOf i) := by
    rw [List.any_map]; rfl
  unfold Port.frames withDrive joinDrive
  rw [h]
  dsimp only
  split
  · rw [List.map_map, List.map_map]
    exact List.map_congr_left fun x _ => by
      change _ = if x.isDriveOf i then _ else _
      dsimp only [Function.comp]
      split <;> rfl
  · simp

/-! ## The arbiters (R122, R126) -/

/-- Putting a frame on offer changes neither the frames nor their order. -/
theorem frames_offerOldest (prio : Nat) (q : List QEntry) :
    (offerOldest prio q).map (fun e => (e.frame, e.origin)) = q.map fun e => (e.frame, e.origin) := by
  induction q with
  | nil => rfl
  | cons e q ih => unfold offerOldest; split <;> simp [ih]

/-- Putting a frame on offer: the oldest of its priority, if the queue has one. -/
theorem offerOldest_spec {prio : Nat} {q : List QEntry} (h : hasPriority q prio = true) :
    ∃ pre e post, q = pre ++ e :: post ∧ offerOldest prio q = pre ++ { e with attempt := some 0 } :: post
      ∧ e.frame.prio.toNat = prio ∧ ∀ x ∈ pre, x.frame.prio.toNat ≠ prio := by
  induction q with
  | nil => simp [hasPriority] at h
  | cons e q ih =>
    by_cases k : e.frame.prio.toNat = prio
    · exact ⟨[], e, q, rfl, by simp [offerOldest, k], k, by simp⟩
    · have h' : hasPriority q prio = true := by simpa [hasPriority, k] using h
      obtain ⟨pre, x, post, rfl, h1, h2, h3⟩ := ih h'
      exact ⟨e :: pre, x, post, rfl, by simp [offerOldest, k, h1], h2, by simpa [k] using h3⟩

theorem State.arbitrateField_eq (s : State) :
    s.arbitrateField = s.setField s.arbitrateField.field ∧ s.field.SameLine s.arbitrateField.field := by
  unfold State.arbitrateField
  split
  · split
    · exact ⟨rfl, Port.SameLine.refl _⟩
    · exact ⟨rfl, rfl, frames_offerOldest _ _, rfl, rfl⟩
  · exact ⟨rfl, Port.SameLine.refl _⟩

theorem State.arbitrateTrunk_eq (s : State) :
    s.arbitrateTrunk = s.setTrunk s.arbitrateTrunk.trunk ∧ s.trunk.SameLine s.arbitrateTrunk.trunk := by
  unfold State.arbitrateTrunk
  split
  · split
    · exact ⟨rfl, Port.SameLine.refl _⟩
    · split
      · split
        · exact ⟨rfl, rfl, rfl, rfl, rfl⟩
        · exact ⟨rfl, Port.SameLine.refl _⟩
      · exact ⟨rfl, rfl, frames_offerOldest _ _, rfl, rfl⟩
  · exact ⟨rfl, Port.SameLine.refl _⟩

/-- The arbiters change nothing but what is on offer. -/
theorem State.arbitrate_quiet (s : State) : s.OnlyLines s.arbitrate ∧ s.QuietLines s.arbitrate := by
  obtain ⟨h1, h2⟩ := s.arbitrateField_eq
  obtain ⟨k1, k2⟩ := s.arbitrateField.arbitrateTrunk_eq
  have e : s.arbitrate = (s.setField s.arbitrateField.field).setTrunk s.arbitrate.trunk := by
    unfold State.arbitrate; rw [← h1, ← k1]
  have ht : s.arbitrateField.trunk = s.trunk := by rw [h1]; rfl
  have hf : s.arbitrate.field = s.arbitrateField.field := by rw [e]; rfl
  refine ⟨?_, ?_, ?_⟩
  · unfold State.OnlyLines; rw [e]; rfl
  · rw [hf]; exact h2
  · rw [ht] at k2; exact k2

/-- The end of an event at which no RESTART is due changes nothing but what is on offer. -/
theorem State.finish_quiet (h : s.restartDue = false) : s.OnlyLines s.finish ∧ s.QuietLines s.finish := by
  rw [State.finish_of_not_due h]; exact s.arbitrate_quiet

end Sys2Proof.Machine
end

