-- ==== Sys2Proof/Laws/Ladder.lean ====
section
/-! SUPPORT. What the operations of the zone ladder can do: the set of levels, an evaluation, and an event at one zone. -/

namespace Sys2Proof.Machine

variable {s : State} {z : Fin 8} {g : ZoneDyn → ZoneDyn}

/-! ## Sets of levels -/

/-- Every set of levels, for proofs by cases. -/
theorem LevelSet.highest_erase_lt : ∀ (b1 b2 b3 b4 b5 : Bool),
    let l : LevelSet := ⟨b1, b2, b3, b4, b5⟩
    0 < l.highest → (l.erase l.highest).highest < l.highest := by decide

theorem LevelSet.highest_insert (l : LevelSet) (v : Level) : (l.insert v).highest = max l.highest v := by
  obtain ⟨b1, b2, b3, b4, b5⟩ := l
  revert b1 b2 b3 b4 b5 v
  decide

theorem LevelSet.erase_lt {l : LevelSet} (h : 0 < l.highest) : (l.erase l.highest).highest < l.highest := by
  obtain ⟨b1, b2, b3, b4, b5⟩ := l
  exact LevelSet.highest_erase_lt b1 b2 b3 b4 b5 h

/-! ## An evaluation (R30) -/

/-- What no evaluation changes: the condition and its inputs, the suppress flag, and a zone's part of the allocation. -/
structure ZoneDyn.SameInputs (d e : ZoneDyn) : Prop where
  cond : e.cond = d.cond
  force : e.force = d.force
  latch : e.latch = d.latch
  suppress : e.suppress = d.suppress
  short : e.short = d.short
  demand : e.demand = d.demand
  shares : e.shares = d.shares
  delivered : e.delivered = d.delivered
  stagedStart : e.stagedStart = d.stagedStart
  stagedDuration : e.stagedDuration = d.stagedDuration
  stagedFlow : e.stagedFlow = d.stagedFlow

theorem ZoneDyn.SameInputs.refl (d : ZoneDyn) : d.SameInputs d := ⟨rfl, rfl, rfl, rfl, rfl, rfl, rfl, rfl, rfl, rfl, rfl⟩

theorem ZoneDyn.SameInputs.trans {a b c : ZoneDyn} (h : a.SameInputs b) (k : b.SameInputs c) : a.SameInputs c :=
  ⟨k.cond.trans h.cond, k.force.trans h.force, k.latch.trans h.latch, k.suppress.trans h.suppress,
    k.short.trans h.short, k.demand.trans h.demand, k.shares.trans h.shares, k.delivered.trans h.delivered,
    k.stagedStart.trans h.stagedStart, k.stagedDuration.trans h.stagedDuration, k.stagedFlow.trans h.stagedFlow⟩

theorem ZoneDyn.checkRise_same (d : ZoneDyn) : d.SameInputs d.checkRise := by
  unfold ZoneDyn.checkRise
  split
  · split <;> exact ⟨rfl, rfl, rfl, rfl, rfl, rfl, rfl, rfl, rfl, rfl, rfl⟩
  · exact .refl d

theorem ZoneDyn.checkPresent_same (d : ZoneDyn) : d.SameInputs d.checkPresent := by
  unfold ZoneDyn.checkPresent
  split <;> exact ⟨rfl, rfl, rfl, rfl, rfl, rfl, rfl, rfl, rfl, rfl, rfl⟩

theorem ZoneDyn.removeTop_same (d : ZoneDyn) : d.SameInputs d.removeTop :=
  ⟨rfl, rfl, rfl, rfl, rfl, rfl, rfl, rfl, rfl, rfl, rfl⟩

/-- An evaluation leaves the condition, its inputs and the allocation as they were. -/
theorem evaluate_same (runOnOf : Level → Nat) (n : Nat) (d : ZoneDyn) : d.SameInputs (evaluate runOnOf n d) := by
  induction n generalizing d with
  | zero => exact .refl d
  | succ n ih =>
    have h := d.checkRise_same.trans d.checkRise.checkPresent_same
    unfold evaluate
    dsimp only
    split
    · split
      · split
        · exact ⟨h.cond, h.force, h.latch, h.suppress, h.short, h.demand, h.shares, h.delivered, h.stagedStart,
            h.stagedDuration, h.stagedFlow⟩
        · exact (h.trans (ZoneDyn.removeTop_same _)).trans (ih _)
      · exact ⟨h.cond, h.force, h.latch, h.suppress, h.short, h.demand, h.shares, h.delivered, h.stagedStart,
          h.stagedDuration, h.stagedFlow⟩
    · exact h

theorem ZoneDyn.evaluated_same (r : Response) (d : ZoneDyn) : d.SameInputs (d.evaluated r) := evaluate_same _ _ _

/-- The level after check 1: a condition above E is E, unless it is held under suppression (R30 to R32). -/
theorem ZoneDyn.checkRise_level (d : ZoneDyn) :
    d.checkRise.level = if d.level < d.cond ∧ (3 ≤ d.cond ∨ d.suppress = false) then d.cond else d.level := by
  unfold ZoneDyn.checkRise
  by_cases h : d.level < d.cond
  · by_cases k : 3 ≤ d.cond ∨ d.suppress = false
    · have : (d.inForce.insert d.cond).highest = max d.inForce.highest d.cond := LevelSet.highest_insert _ _
      simp only [h, k, if_true, and_self]
      exact this.trans (max_eq_right (le_of_lt h))
    · simp only [h, k, if_true, and_false, if_false]; rfl
  · simp [h]

theorem ZoneDyn.checkPresent_level (d : ZoneDyn) : d.checkPresent.level = d.level := by
  unfold ZoneDyn.checkPresent; split <;> rfl

/-! ## An event at one zone -/

/-- An event at a zone that is not IN_SERVICE changes nothing. -/
theorem State.updateZone_of_not (h : s.zones[z].isInService = false) : s.updateZone z g = s := by
  unfold State.updateZone
  split
  · rename_i f d e; rw [e] at h; cases h
  · rfl

/-- An event at an IN_SERVICE zone: the zone takes its new state, and its slot is set once when R56 says. -/
theorem State.updateZone_of {f : ZoneFields} {d : ZoneDyn} (h : s.zones[z] = .inService f d) :
    s.updateZone z g =
      if d.watched = (g d).watched then s.setZone z (.inService f (g d))
      else (s.setZone z (.inService f (g d))).setZoneSlot z (s.zoneSlots[z].mark (s.onOffer (.zone z))) := by
  unfold State.updateZone
  rw [h]
  rfl

/-- Nothing but the zones and their slots changes in an event at a zone. -/
theorem State.updateZone_frame (s : State) (z : Fin 8) (g : ZoneDyn → ZoneDyn) :
    s.updateZone z g = { s with zones := (s.updateZone z g).zones, zoneSlots := (s.updateZone z g).zoneSlots } := by
  unfold State.updateZone
  split
  · dsimp only; split <;> rfl
  · rfl

/-- The zone of an event, after it. -/
theorem State.updateZone_self {f : ZoneFields} {d : ZoneDyn} (h : s.zones[z] = .inService f d) :
    (s.updateZone z g).zones[z] = .inService f (g d) := by
  rw [State.updateZone_of h]
  split <;> simp

/-- Every other zone, after an event at one. -/
theorem State.updateZone_other {y : Fin 8} (h : y ≠ z) :
    (s.updateZone z g).zones[y] = s.zones[y] ∧ (s.updateZone z g).zoneSlots[y] = s.zoneSlots[y] := by
  have hne : z.val ≠ y.val := fun e => h (Fin.ext e.symm)
  unfold State.updateZone
  split
  · dsimp only [State.markZone]
    split <;> simp [hne]
  · exact ⟨rfl, rfl⟩

end Sys2Proof.Machine
end

