-- ==== Sys2Proof/Laws/Outputs.lean ====
section
/-! SUPPORT. What an event at one fan, damper or point can change, and what the path check and the three line operations
over an output leave alone. -/

namespace Sys2Proof.Machine

variable {s : State} {i : Fin 24}

/-- Nothing but the outputs and their slots changes in an event at a fan. -/
theorem State.updateFan_frame (s : State) (i : Fin 24) (g : OutputFields → FanDyn → FanDyn) :
    s.updateFan i g =
      { s with outputs := (s.updateFan i g).outputs, outputSlots := (s.updateFan i g).outputSlots } := by
  unfold State.updateFan
  split
  · dsimp only; split <;> rfl
  · rfl

/-- An event at an IN_SERVICE fan: it takes its new state, and its slot is set where R168 says. -/
theorem State.updateFan_of {g : OutputFields → FanDyn → FanDyn} {f : OutputFields} {d : FanDyn}
    (h : s.outputs[i] = .inService f (.fan d)) :
    s.updateFan i g =
      match fanTrouble d (g f d) with
      | some raised => (s.setOutput i (.inService f (.fan (g f d)))).setOutputSlot i
          (s.outputSlots[i].mark (s.onOffer (.output i)) raised)
      | none => s.setOutput i (.inService f (.fan (g f d))) := by
  unfold State.updateFan
  rw [h]
  rfl

/-- An event at a fan changes nothing where the output is no IN_SERVICE fan. -/
theorem State.updateFan_of_not {g : OutputFields → FanDyn → FanDyn} (h : s.fan? i = none) : s.updateFan i g = s := by
  unfold State.updateFan
  split
  · rename_i e; simp only [State.fan?, e] at h; cases h
  · rfl

/-- Nothing but the outputs and their slots changes in an event at a damper. -/
theorem State.updateDamper_frame (s : State) (i : Fin 24) (g : OutputFields → DamperDyn → DamperDyn) :
    s.updateDamper i g =
      { s with outputs := (s.updateDamper i g).outputs, outputSlots := (s.updateDamper i g).outputSlots } := by
  unfold State.updateDamper
  split
  · dsimp only; split <;> rfl
  · rfl

/-- An event at an IN_SERVICE damper: it takes its new state, and its slot is set where R168 says. -/
theorem State.updateDamper_of {g : OutputFields → DamperDyn → DamperDyn} {f : OutputFields} {d : DamperDyn}
    (h : s.outputs[i] = .inService f (.damper d)) :
    s.updateDamper i g =
      match damperTrouble d.state (g f d).state with
      | some raised => (s.setOutput i (.inService f (.damper (g f d)))).setOutputSlot i
          (s.outputSlots[i].mark (s.onOffer (.output i)) raised)
      | none => s.setOutput i (.inService f (.damper (g f d))) := by
  unfold State.updateDamper
  rw [h]
  rfl

theorem State.updateDamper_of_not {g : OutputFields → DamperDyn → DamperDyn} (h : s.damper? i = none) :
    s.updateDamper i g = s := by
  unfold State.updateDamper
  split
  · rename_i e; simp only [State.damper?, e] at h; cases h
  · rfl

/-- Between `s` and `t` nothing changed but the outputs, their slots and the FIELD port. -/
abbrev State.OnlyOutputs (s t : State) : Prop :=
  t = { s with outputs := t.outputs, outputSlots := t.outputSlots, field := t.field }

theorem State.OnlyOutputs.refl (s : State) : s.OnlyOutputs s := rfl

theorem State.OnlyOutputs.trans {s t u : State} (h : s.OnlyOutputs t) (k : t.OnlyOutputs u) : s.OnlyOutputs u := by
  unfold State.OnlyOutputs at *; rw [k, h]

theorem State.updateFan_onlyOutputs (s : State) (i : Fin 24) (g : OutputFields → FanDyn → FanDyn) :
    s.OnlyOutputs (s.updateFan i g) := by
  unfold State.OnlyOutputs; rw [s.updateFan_frame i g]

theorem State.updateDamper_onlyOutputs (s : State) (i : Fin 24) (g : OutputFields → DamperDyn → DamperDyn) :
    s.OnlyOutputs (s.updateDamper i g) := by
  unfold State.OnlyOutputs; rw [s.updateDamper_frame i g]

theorem State.queueDrive_onlyOutputs (s : State) (i : Fin 24) : s.OnlyOutputs (s.queueDrive i) := by
  unfold State.queueDrive; split <;> rfl

theorem State.startFan_onlyOutputs (s : State) (i : Fin 24) : s.OnlyOutputs (s.startFan i) :=
  (s.updateFan_onlyOutputs i _).trans (State.queueDrive_onlyOutputs _ i)

/-- A run of events each of which changes only the outputs changes only the outputs. -/
theorem State.foldl_onlyOutputs {α : Type} (f : State → α → State) (hf : ∀ s a, State.OnlyOutputs s (f s a)) (l : List α)
    (s : State) : s.OnlyOutputs (l.foldl f s) := by
  induction l generalizing s with
  | nil => exact .refl s
  | cons a l ih => exact (hf s a).trans (ih _)

/-- The path check changes only outputs and DRIVE frames (R101). -/
theorem State.pathCheck_onlyOutputs (s : State) : s.OnlyOutputs s.pathCheck := by
  refine State.foldl_onlyOutputs _ (fun s i => ?_) _ s
  split
  · exact s.startFan_onlyOutputs i
  · exact .refl s

theorem State.pathCheckThrough_onlyOutputs (s : State) (j : Fin 24) : s.OnlyOutputs (s.pathCheckThrough j) := by
  refine State.foldl_onlyOutputs _ (fun s i => ?_) _ s
  split
  · exact s.startFan_onlyOutputs i
  · exact .refl s

theorem State.queueDrives_onlyOutputs (s : State) : s.OnlyOutputs s.queueDrives :=
  State.foldl_onlyOutputs _ State.queueDrive_onlyOutputs _ s

theorem State.deliverOutputs_onlyOutputs (s : State) (flows : Vector Nat 24) (holds : Vector HoldMark 24)
    (targets : Vector DamperTarget 24) : s.OnlyOutputs (s.deliverOutputs flows holds targets) :=
  State.foldl_onlyOutputs _
    (fun s i => (s.updateFan_onlyOutputs i _).trans (State.updateDamper_onlyOutputs _ i _)) _ s

/-- An event at a point changes its point, the point slots, and through its zone the zones and their slots; nothing else. -/
theorem State.updatePoint_frame (s : State) (i : Fin 64) (g : PointFields → PointDyn → PointDyn) :
    s.updatePoint i g =
      { s with
        points := (s.updatePoint i g).points, pointSlots := (s.updatePoint i g).pointSlots
        zones := (s.updatePoint i g).zones, zoneSlots := (s.updatePoint i g).zoneSlots } := by
  unfold State.updatePoint
  split
  · dsimp only
    split <;> split <;> first | rfl | (unfold State.reformZone; rw [State.updateZone_frame]; rfl)
  · rfl

end Sys2Proof.Machine
end

