-- ==== Sys2Proof/Laws/Reports.lean ====
section
/-! SUPPORT. What the items can be whose place the manual leaves open: the grade in a point's trouble report (log entry 27),
and the difference of the two copies of the device record in READ_DEVICE (log entry 28). -/

namespace Sys2Proof.Machine

@[simp] theorem Grade.shown_clear : Grade.clear.shown = 0 := rfl

/-- The grade stands in a trouble report as its code, at one place for every grade (log entry 27). -/
theorem Grade.shown_eq_code_at_place :
    ∃ place : Nat, 2 ≤ place ∧ place ≤ 6 ∧ ∀ g : Grade, g.shown = byte (g.code * 2 ^ place) := by
  refine ⟨2 + Config.gradePlace.val, by omega, by omega, fun g => ?_⟩
  cases g <;> simp [Grade.shown, Grade.code, byte]

/-- A byte that is one more than a number below 255 is not 0. -/
theorem byte_succ_ne_zero (v : Fin 255) : byte (v.val + 1) ≠ 0 := by
  intro h
  have := congrArg BitVec.toNat h
  simp [byte] at this
  omega

/-- The page that shows a difference of the two copies, if one does, shows it exactly while they differ. -/
theorem State.differenceItem_ne_zero_iff (s : State) (pg : Fin 2) :
    s.differenceItem pg ≠ 0 ↔ s.active ≠ s.pendingRecord ∧ Config.differencePage = some pg := by
  unfold State.differenceItem
  split
  case isTrue h => exact iff_of_true (byte_succ_ne_zero _) h
  case isFalse h => exact iff_of_false (by simp) h

@[simp] theorem State.differenceItem_of_same (s : State) (pg : Fin 2) (h : s.active = s.pendingRecord) :
    s.differenceItem pg = 0 := by simp [State.differenceItem, h]

end Sys2Proof.Machine
end

