-- ==== Sys2Proof/Laws/Requests.lean ====
section
/-! SUPPORT. What a request can answer: each way a decided request ends, and the row of every request. -/

namespace Sys2Proof.Machine

variable {s t : State} {src tag : Byte} {r : Request}

/-- A decoded request while a RESTART is pending (R165). -/
theorem State.takeRequest_pending (h : s.restartPending = true) :
    s.takeRequest src tag r = s.refuse src r.code tag .busy := by
  simp [State.takeRequest, h]

/-- A request whose checks fail (R155). -/
theorem State.takeRequest_refused {c : ReplyCode} (h : s.restartPending = false) (k : s.decide r = .refused c) :
    s.takeRequest src tag r = s.refuse src r.code tag c := by
  simp [State.takeRequest, h, k]

/-- A request that is done, with its reply. -/
theorem State.takeRequest_done {data : List Byte} (h : s.restartPending = false) (k : s.decide r = .done t data) :
    s.takeRequest src tag r = t.queueReply .reply src r.code tag 0 data := by
  simp [State.takeRequest, h, k]

/-- An accepted SAVE, with no reply yet (R164). -/
theorem State.takeRequest_saving (h : s.restartPending = false) (k : s.decide r = .saving t) :
    s.takeRequest src tag r = t.acceptSave src tag := by
  simp [State.takeRequest, h, k]

/-- An accepted RESTART, with its reply (R165). -/
theorem State.takeRequest_restarting (h : s.restartPending = false) (k : s.decide r = .restarting t) :
    s.takeRequest src tag r = (t.setRestartPending true).queueReply .restartReply src r.code tag 0 [] := by
  simp [State.takeRequest, h, k]

/-- The row of a request is a request taken on the TRUNK port. -/
theorem exec_of_request {c : Instr} (h : Request.instr src tag r = some c) : exec c s = onRequest src tag r s := by
  cases r <;> simp only [Request.instr, Option.some.injEq] at h
  case zoneSuppress z v =>
    split at h
    · rename_i e; subst e; cases h; rfl
    · split at h
      · rename_i e; subst e; cases h; rfl
      · cases h
  case outputHand o v =>
    split at h
    · rename_i e; subst e; cases h; rfl
    · split at h
      · rename_i e; subst e; cases h; rfl
      · cases h
  all_goals subst h; rfl

/-- A refusal changes nothing but the TRUNK queue. -/
theorem State.refuse_onlyLines (s : State) (code : Byte) (c : ReplyCode) : s.OnlyLines (s.refuse src code tag c) := rfl

end Sys2Proof.Machine
end

