-- ==== Sys2Proof/Tests/Slice0.lean ====
section
/-! SUPPORT. Tests of the model against the manual's worked examples and tables, the well-formedness smoke tests, and for
every statement with hypotheses one theorem that shows a state and operands that meet them. -/

namespace Sys2Proof.Tests

open Sys2Proof Sys2Proof.Machine

/-! ## A small plant -/

/-- The CO point of the calibration example of chapter 1. -/
def pf : PointFields :=
  { PointFields.default with
    node := some 10, raw1 := 400, raw2 := 1200, raw3 := some 3000, val1 := 0, val2 := 100, val3 := 400
    riseB := some 200, fallB := some 160, levelB := some 2 }

/-- A second point, a smoke detector in the same zone. -/
def pg : PointFields := { PointFields.default with node := some 11, kind := .smoke, levelA := 4, faultLevel := 3 }

/-- A zone with one branch: fan 0 through damper 1. -/
def zf : ZoneFields :=
  { ZoneFields.default with
    dampers := #v[some 1, none, none, none], minFlow := 100, fumeLowFlow := 300, fumeHighFlow := 600, maxFlow := 900
    flammableFlow := 500, fireFlow := 1000, clock := some 0 }

def ff : OutputFields := { OutputFields.default with node := some 20 }
def df : OutputFields := { OutputFields.default with node := some 21, kind := .damper }

/-- A live CO point in grade A. -/
def live : PointDyn :=
  { pf.initial with state := .live, grade := .a, acc := 400, filtered := 100, lastRaw := 1200 }

/-- The smoke point as it was commissioned, and in FAULT. -/
def idle : PointDyn := pg.initial
def broken : PointDyn := { pg.initial with state := .fault .silent, silence := none }

/-- A zone at FUME_LOW, one whose fire condition has gone, and one that waits for release. -/
def fume : ZoneDyn := { ZoneDyn.initial with cond := 1, inForce := ⟨true, false, false, false, false⟩ }
def calming : ZoneDyn :=
  { ZoneDyn.initial with cond := 1, inForce := ⟨true, false, false, true, false⟩, runOn := some 8 }
def waiting : ZoneDyn :=
  { ZoneDyn.initial with cond := 1, inForce := ⟨true, false, false, true, false⟩, releaseWait := true }
def burning : ZoneDyn :=
  { ZoneDyn.initial with cond := 5, latch := true, inForce := ⟨true, false, false, false, true⟩ }

def fan (st : FanState) : FanDyn :=
  { FanDyn.initial with
    state := st, q := 1600, run := true
    pathTimer := if st = .pathWait then some 40 else none
    startTimer := if st = .starting then some 40 else none
    statusTimer := if st = .running then some 40 else none
    stopTimer := if st = .stopping then some 40 else none
    retryTimer := if st.isFault then some 40 else none }

def damper (st : DamperState) : DamperDyn :=
  { DamperDyn.initial df with
    state := st
    travelTimer := if st = .travelling then some 40 else none
    statusTimer := if st = .settled then some 40 else none }

/-- The plant: two points, a zone, a fan and a damper, each in service, and a DRAFT entry of each table at its end. -/
def plant (z : ZoneDyn) (f : FanState) (d : DamperState) : State :=
  { State.reset with
    points := ((State.reset.points.set 0 (.inService pf live)).set 1 (.inService pg idle)).set 63
      (.draft { PointFields.default with node := some 12 })
    zones := (State.reset.zones.set 0 (.inService zf z)).set 7 (.draft ZoneFields.default)
    outputs := ((State.reset.outputs.set 0 (.inService ff (.fan (fan f)))).set 1 (.inService df (.damper (damper d)))).set
      23 (.draft { OutputFields.default with node := some 22 })
    windows := State.reset.windows.set 7 (.draft WindowFields.default) }

/-- A frame's header from a node to a node. -/
def hd (src dst : Byte) : Header := ⟨3, 0, dst, src⟩

/-- A queued frame of a priority. -/
def queued (prio : BitVec 3) (o : Origin) (attempt : Option Nat) : QEntry := ⟨⟨prio, 5, 0, 255, 9, []⟩, o, attempt⟩

/-! ## Well-formedness -/

def nine : List Byte := List.replicate 9 0

theorem test_wf_sample : ¬(Instr.sample (hd 1 2) nine).wf := by decide
theorem test_wf_statusFan : ¬(Instr.statusFan (hd 1 2) nine).wf := by decide
theorem test_wf_statusDamper : ¬(Instr.statusDamper (hd 1 2) nine).wf := by decide
theorem test_wf_panelAlarm : ¬(Instr.panelAlarm (hd 1 2) (List.replicate 8 0)).wf := by decide
theorem test_wf_panelNormal : ¬(Instr.panelNormal (hd 1 2) (List.replicate 8 0)).wf := by decide
theorem test_wf_time : ¬(Instr.time (hd 1 2) nine).wf := by decide
theorem test_wf_fieldFrame : ¬(Instr.fieldFrame 0 nine).wf := by decide
theorem test_wf_fieldMgmtReq : ¬(Instr.fieldMgmtReq (hd 1 2) nine).wf := by decide
theorem test_wf_trunkFrame : ¬(Instr.trunkFrame 0 nine).wf := by decide
theorem test_wf_badRequest : ¬(Instr.badRequest 1 2 3 (List.replicate 7 0)).wf := by decide
theorem test_wf_accepts : (Instr.sample (hd 1 2) [1, 2, 0]).wf ∧ (Instr.trunkFrame 0 (List.replicate 8 0)).wf := by decide

/-! ## Worked examples and tables of the manual -/

/-- Section 1.4, "calibration of a CO point". -/
theorem test_calibration :
    calibrate pf 300 = ⟨0, false, true⟩ ∧ calibrate pf 400 = ⟨0, false, false⟩ ∧ calibrate pf 900 = ⟨63, false, false⟩
    ∧ calibrate pf 880 = ⟨60, false, false⟩ ∧ calibrate pf 1505 = ⟨151, false, false⟩
    ∧ calibrate pf 2600 = ⟨333, false, false⟩ ∧ calibrate pf 3000 = ⟨400, false, false⟩
    ∧ calibrate pf 3100 = ⟨400, true, false⟩ ∧ classify pf 4096 false false = .bad := by decide

/-- Section 4.5, "two fractions": q = 3100 is 193 and twelve sixteenths. -/
theorem test_dither :
    ((List.finRange 16).map (ditheredStep 3100)).sum = 3100 ∧ ditheredStep 3100 0 = 193 ∧ ditheredStep 3100 1 = 194
    ∧ ditheredStep 4080 7 = 255 := by decide

/-- Section 4.9, the fans, dampers and zones of the hall. -/
def hallFan (rated step : Nat) (nonex : Bool) : Entry OutputFields OutputDyn :=
  .inService { OutputFields.default with rated := rated, minStep := step, nonex := nonex } (.fan (fan .running))
def hallDamper : Entry OutputFields OutputDyn := .inService df (.damper (damper .settled))
def hallZone (fans : List (Fin 24)) (dampers : List (Option (Fin 24))) (demand fire : Nat) : ZoneFields :=
  { ZoneFields.default with
    count := fans.length
    fans := Vector.ofFn fun k => fans.getD k.val 0
    dampers := Vector.ofFn fun k => dampers.getD k.val none
    minFlow := demand, fumeLowFlow := demand, fumeHighFlow := demand, maxFlow := demand
    flammableFlow := 1200, fireFlow := fire }
def at_ (l : LevelSet) : ZoneDyn := { ZoneDyn.initial with inForce := l }
def hall (z0 z1 z2 : ZoneDyn) : State :=
  { State.reset with
    outputs := (((((State.reset.outputs.set 0 (hallFan 1000 30 false)).set 1 (hallFan 1500 40 true)).set 2
      (hallFan 600 50 false)).set 3 hallDamper).set 4 hallDamper).set 5 hallDamper
    zones := ((State.reset.zones.set 0 (.inService (hallZone [0, 1] [some 3, none] 1800 0) z0)).set 1
      (.inService (hallZone [1, 2] [some 4, none] 300 1600) z1)).set 2 (.inService (hallZone [2] [some 5] 900 0) z2) }

/-- Allocation 1: fumes. -/
theorem test_allocation_fumes :
    (hall (at_ ⟨false, true, false, false, false⟩) (at_ .none) (at_ ⟨true, false, false, false,
        false⟩)).sharing.shares.toList.take 3
      = [#v[1000, 800, 0, 0], #v[300, 0, 0, 0], #v[600, 0, 0, 0]] := by decide

/-- Allocation 2: battery fire in zone 1. -/
theorem test_allocation_fire :
    (hall (at_ ⟨false, true, false, false, false⟩) (at_ ⟨false, false, false, true, false⟩)
      (at_ ⟨true, false, false, false, false⟩)).sharing.shares.toList.take 3
      = [#v[1000, 0, 0, 0], #v[1500, 100, 0, 0], #v[0, 0, 0, 0]] := by decide

/-- Allocation 3: hydrogen in zone 0, with fan 1 under hold. -/
theorem test_allocation_hydrogen :
    let s := hall (at_ ⟨false, false, true, false, false⟩) (at_ .none) (at_ ⟨true, false, false, false, false⟩)
    s.sharing.shares.toList.take 3 = [#v[1000, 200, 0, 0], #v[300, 0, 0, 0], #v[600, 0, 0, 0]]
    ∧ s.holdMark 1 = .heldRunning := by decide

/-- The speeds of allocations 1 to 3. -/
theorem test_speeds :
    (fanResult { OutputFields.default with rated := 1500 } 1100 .none).q = 2992
    ∧ (fanResult { OutputFields.default with rated := 600, minStep := 50 } 100 .none).q = 800
    ∧ (fanResult { OutputFields.default with rated := 1500 } 500 .heldRunning).q = 1360 := by decide

/-- Section 11.1: the places of the five parts, with a DRIVE of priority 2 to node 21 from node 200 written out. -/
theorem test_identifier :
    (⟨2, kindDrive, 0, 21, 200, []⟩ : Frame).ident = 0b010_000011_0000_00010101_11001000#29 := by decide

/-- Section 11.3: an ENTRY_SET of table 2, entry 1, field 10 to 258, present. -/
theorem test_decode_entrySet : decodeRequest 2 [2, 1, 10, 2, 1, 0] = some (.entrySet 2 1 10 258 0) := by decide

/-- The CRC of R174 over the nine digits, a check value known outside the manual (log entry 10). -/
theorem test_crc : crc16 ((List.range 9).map fun n => BitVec.ofNat 8 (49 + n)) = 0x29B1#16 := by decide +kernel

/-- R121, R178, R184: the part after reset. -/
theorem test_reset :
    State.reset.active.node = 200 ∧ State.reset.field.on = true ∧ State.reset.deviceSlot.pending = true
    ∧ State.reset.response.runOn.toList = [300, 600, 900, 1800, 1800] ∧ State.reset.pending = [] := by decide

/-- A step takes the front command (a trunk MINUTE expiry moves the purge counters, R70). -/
theorem test_step : (match step (State.reset.setPending [.minuteTimerExpiry, .powerOn]) with
    | .next t => t.pending == [.powerOn] && t.clocks[0].counter == 1
    | _ => false) = true := by decide +kernel

/-! ## Witnesses: for each statement with hypotheses, a state and operands that meet them -/

/-- The plants of the witnesses: fume in the zone; a fire that is calming, one that waits, and one of the panel. -/
def pFume : State := plant fume .running .settled
def pCalm : State := plant calming .running .settled
def pWait : State := plant waiting .starting .travelling
def pBurn : State := plant burning .stopping .travelling
theorem witness_HeldPartAndOffPortTakeNothing :
    ({ pFume with powered := false } : State).works = false ∧ ({ pFume with powered := false } : State).pending = []
    ∧ ({ pFume with field := { Port.start with on := false } } : State).field.on = false
    ∧ ({ pFume with trunk := { Port.start with on := false } } : State).trunk.on = false
    ∧ Request.instr 9 1 .save = some (.save 9 1) := by decide

theorem witness_SampleTakenByItsPoint :
    pFume.Hears .field ∧ pFume.restartPending = false ∧ pFume.pointAt 10 = some 0
    ∧ pFume.points[(0 : Fin 64)] = .inService pf live ∧ samplePayload? [0x84, 3, 0] = some ⟨900, false, false⟩
    ∧ contribution pf (live.takeSample pf 900 false false) = contribution pf live
    ∧ (live.takeSample pf 900 false true).state.isFault ≠ live.state.isFault := by decide

theorem witness_FilterFollowsValidSamples :
    classify pf 4095 false false = .valid ∧ classify pf 4096 false false = .bad ∧ classify pf 0 true false = .warmUp
    ∧ classify pf 0 true true = .sensorFault ∧ live.state = .live ∧ idle.state ≠ .live ∧ broken.state.isFault = true
    ∧ live.state.isFault = false ∧ ({ pf with depth := 0 } : PointFields).depth = 0 := by decide

theorem witness_CalibrationInterpolates :
    pf.calOrder = true ∧ (400, 0) ∈ pf.pairs ∧ (400 < 401 ∧ 401 < 1200) ∧ (1200 < 2999 ∧ 2999 < 3000)
    ∧ pf.raw1 ≤ 400 ∧ (∃ p ∈ pf.pairs, 3000 ≤ p.1) := by decide

theorem witness_CalibrationInterpolates_segment : [(400, 0), (1200, 100)] <:+: pf.pairs := ⟨[], [(3000, 400)], rfl⟩

theorem witness_GradeRisesAndFalls :
    0 < pf.confirm ∧ 1 < pf.confirm ∧ 0 + 1 < pf.confirm ∧ 1 + 1 = pf.confirm ∧ candidate pf false 49 = .clear
    ∧ candidate pf false 50 = .a ∧ candidate pf false 200 = .b ∧ candidate pf true 0 = .b
    ∧ (false = false ∧ 34 < pf.fallA) ∧ ¬(35 < pf.fallA) ∧ pf.fallB = some 160 ∧ 159 < 160 ∧ ¬(160 < 160) := by decide

theorem witness_FilterStaysInRange : 0 ≤ 400 ∧ 400 ≤ 400 ∧ 0 * 2 ^ 2 ≤ 1600 ∧ 1600 ≤ 400 * 2 ^ 2 := by decide

theorem witness_SamplesForwardedByIndication :
    pFume.Hears .field ∧ pFume.trunk.queue.length < trunkRoom ∧ (hd 10 255).hop ≠ 15
    ∧ pFume.pointAt (hd 10 255).src = some 0 ∧ samplePayload? [0, 0, 0] = some ⟨0, false, false⟩
    ∧ samplePayload? [0, 0] = none ∧ pFume.pointAt 12 = none ∧ pFume.isPointNode 12 = true
    ∧ pFume.isPointNode 13 = false := by decide

theorem witness_SamplesForwardedByIndication_up :
    classify pf 4096 false false = .bad ∧ (live.takeSample pf 900 false false).state.code = live.state.code
    ∧ (live.takeSample pf 900 false false).grade = live.grade ∧ classify pf 900 false false ≠ .bad
    ∧ pf.forwardEvery = 0 := by decide

theorem witness_SilenceTakesThePointToFault :
    pFume.works = true ∧ pFume.restartDue = false ∧ pFume.points[(1 : Fin 64)] = .inService pg idle
    ∧ idle.state.isFault = false ∧ idle.silence.isSome = true
    ∧ pFume.points[(0 : Fin 64)] = .inService pf live ∧ live.silence.isSome = true := by decide

/-- The same with its release accepted. -/
def accepted : ZoneDyn := { calming with accepted := true }

theorem witness_zonesSound :
    calming.Sound ∧ waiting.Sound ∧ fume.Sound ∧ accepted.Sound ∧ burning.Sound :=
  ⟨by decide, by decide, by decide, by decide, by decide⟩

theorem witness_RunOnExpiryRemovesOrWaits :
    (pCalm.works = true ∧ pCalm.restartDue = false ∧ pCalm.zones[(0 : Fin 8)] = .inService zf calming) ∧ calming.Sound
    ∧ (calming.runOn.isSome = true ∧ 4 ≤ calming.level ∧ calming.accepted = false) ∧ accepted.Sound
    ∧ ((calming.inForce.erase calming.level).highest ≤ calming.cond
      ∧ ¬((calming.inForce.erase calming.level).highest < calming.cond ∧ calming.cond ≤ 2 ∧ calming.suppress = true)) :=
  ⟨by decide, by decide, by decide, by decide, by decide⟩

set_option synthInstance.maxSize 1000 in
theorem witness_ladders : pFume.LadderSound ∧ pBurn.LadderSound ∧ pCalm.LadderSound := ⟨by decide, by decide, by decide⟩

theorem witness_PanelAlarmLatchesItsZones :
    (pFume.Hears .trunk ∧ (hd 9 200).dst = pFume.active.node ∧ pFume.active.panelNode = 0
      ∧ pFume.zones[(0 : Fin 8)] = .inService zf fume ∧ (0x81 : Byte).getLsbD 0 = true ∧ fume.latch = false
      ∧ pFume.zones[(7 : Fin 8)].isInService = false ∧ (0x80 : Byte).getLsbD 0 = false)
    ∧ pFume.LadderSound ∧ pFume.ConditionsFormed := ⟨by decide, witness_ladders.1, by decide⟩

theorem witness_PanelNormalGivesConsent :
    (pBurn.Hears .trunk ∧ (hd 9 200).dst = pBurn.active.node ∧ pBurn.active.panelNode = 0
    ∧ pBurn.zones[(0 : Fin 8)] = .inService zf burning ∧ burning.level = 5 ∧ max burning.force (pBurn.contributions 0) < 5
    ∧ burning.cond = 5 ∧ pBurn.response.runOnOf 5 ≠ 0 ∧ burning.releaseWait = false
    ∧ fume.level ≠ 5 ∧ max (5 : Level) (pBurn.contributions 0) = 5) ∧ pBurn.LadderSound ∧ pBurn.ConditionsFormed :=
  ⟨by decide, witness_ladders.2.1, by decide⟩

theorem witness_PanelIgnoredOrMalformed :
    pFume.Hears .trunk ∧ (hd 9 200).dst = pFume.active.node
    ∧ Instr.panelAlarm (hd 9 200) [1, 2] ∈ [Instr.panelAlarm (hd 9 200) [1, 2], .panelNormal (hd 9 200) [1, 2]]
    ∧ [1, 2].length ≠ 1
    ∧ ({ pFume with active := { DeviceRecord.default with panelNode := 5 } } : State).active.panelNode ≠ 0
    ∧ (hd 9 200).src ≠ 5 := by decide

theorem witness_ZoneReleaseGivesConsent :
    (pCalm.Ready ∧ indexOf 8 0 = some 0 ∧ calming.level.val = (4 : Byte).toNat ∧ calming.cond < calming.level
    ∧ calming.releaseWait = false ∧ pWait.Ready ∧ pWait.zones[(0 : Fin 8)] = .inService zf waiting
    ∧ waiting.level.val = (4 : Byte).toNat ∧ waiting.cond < waiting.level ∧ waiting.releaseWait = true)
    ∧ waiting.Sound ∧ calming.Sound := ⟨by decide, by decide, by decide⟩

/-- A suppressed zone that holds level 2. -/
def held : ZoneDyn := { ZoneDyn.initial with cond := 2, suppress := true, held2 := true }

/-- A zone at FUME_LOW under suppression that holds nothing. -/
def quiet : ZoneDyn := { fume with suppress := true }

theorem witness_SuppressionHoldsFumeLevels :
    ((plant held .running .settled).Ready ∧ indexOf 8 0 = some 0
      ∧ (plant held .running .settled).zones[(0 : Fin 8)] = .inService zf held ∧ held.suppress = true
      ∧ held.level < held.highestHeld ∧ State.reset.response.runOnOf held.highestHeld ≠ 0 ∧ fume.suppress = false
      ∧ quiet.highestHeld ≤ quiet.level ∧ quiet.cond ≤ quiet.level)
    ∧ held.Sound ∧ fume.Sound ∧ quiet.Sound := ⟨by decide, by decide, by decide, by decide⟩

theorem witness_ForceWritesAnInput :
    pFume.Ready ∧ indexOf 8 0 = some 0 ∧ pFume.zones[(0 : Fin 8)] = .inService zf fume ∧ fume.Sound
    ∧ (5 : Byte).toNat ≤ 5 ∧ (0 : Byte).toNat ≤ 5 ∧ fume.level < 5 ∧ held.level < 2 ∧ pFume.contributions 0 = 1 := by decide

theorem witness_PurgePhaseIsItsMinutes :
    zf.clock = some 0 ∧ fits zf.purgeStart zf.purgeDuration pFume.clocks[(0 : Fin 2)].period = true
    ∧ pFume.clocks[(0 : Fin 2)].counter < pFume.clocks[(0 : Fin 2)].period := by decide

/-- A window that covers zone 0 on day 2 from 360 to 420. -/
def win : WindowFields := { WindowFields.default with dayMask := 4, start := 360, stop := 420, zoneMask := 1, floor := 250 }

theorem witness_DemandFollowsTheLevel :
    win.covers ⟨2, 360⟩ = true ∧ win.covers ⟨2, 419⟩ = true ∧ win.covers ⟨2, 420⟩ = false
    ∧ win.zoneMask.getLsbD 0 = true ∧ ZoneDyn.initial.level = 0 ∧ fume.level = 1 ∧ calming.level = 4
    ∧ (at_ ⟨false, false, true, false, false⟩).level = 3
    ∧ pFume.points[(0 : Fin 64)] = .inService pf live ∧ pf.zone = 0 ∧ live.state = .live ∧ contribution pf live = 1
    ∧ pf.riseA ≤ live.filtered := by decide

theorem witness_MinutesAdvanceTheClocks :
    pFume.works = true ∧ pFume.restartDue = false
    ∧ ¬(pFume.clocks[(0 : Fin 2)].period ≤ pFume.clocks[(0 : Fin 2)].counter + 1)
    ∧ (PurgeClock.mk 60 59 (some 90)).period ≤ (PurgeClock.mk 60 59 (some 90)).counter + 1
    ∧ zoneClock pFume.zones[(0 : Fin 8)] = some 0 := by decide

theorem witness_TimeFrameSetsTheClock :
    pFume.Hears .trunk ∧ (6 : Byte).toNat ≤ 6 ∧ (word16 0x9F 5).toNat ≤ 1439 ∧ (59 : Byte).toNat ≤ 59
    ∧ ¬((word16 0xA0 5).toNat ≤ 1439) ∧ [1, 2, 3].length ≠ 4 ∧ (hd 9 255).dst ≠ pFume.active.node ∧ (hd 9 255).hop ≠ 15
    ∧ (pFume.field.queue.filter QEntry.isForwarded).length < fieldForwardedRoom
    ∧ (13 : Byte) ≠ 255 ∧ pFume.isKnownNode 13 = false := by decide

theorem witness_AllocationIsDelivered :
    pFume.works = true ∧ pFume.restartDue = false ∧ pFume.zones[(0 : Fin 8)] = .inService zf fume
    ∧ pFume.outputs[(0 : Fin 24)] = .inService ff (.fan (fan .running))
    ∧ pFume.outputs[(1 : Fin 24)] = .inService df (.damper (damper .settled))
    ∧ pFume.zones[(7 : Fin 8)].isInService = false ∧ pFume.fan? 1 = none := by decide

theorem witness_AllocationQueuesTheDrives :
    pFume.works = true ∧ pFume.restartDue = false ∧ ff.node = some 20 ∧ df.node.isSome = true
    ∧ (fan .running).state ≠ .hand ∧ (damper .settled).state ≠ .hand := by decide

theorem witness_SharesStayWithinFansAndDemands :
    pFume.works = true ∧ pFume.restartDue = false ∧ pCalm.works = true ∧ pCalm.restartDue = false
    ∧ pCalm.claims 0 zf.fans[0] = true ∧ pCalm.claims 1 zf.fans[0] = false := by decide

theorem witness_DitherSpreadsTheFraction :
    (4080 : Nat) ≤ 4080 ∧ (fan .running).state = .running ∧ (pFume.driveEntry 0).isSome = true
    ∧ ((plant fume .stopping .settled).driveEntry 0).isSome = true := by decide

/-- A fan that was started without a path, on its way to a stop. -/
def unproved : FanDyn := { fan .stopping with noPath := true }

theorem witness_fansSound :
    (fan .running).Sound ∧ (fan .starting).Sound ∧ (fan .stopping).Sound ∧ (fan .hand).Sound ∧ (fan .pathWait).Sound
    ∧ (fan (.fault .startFail)).Sound ∧ unproved.Sound :=
  ⟨by decide, by decide, by decide, by decide, by decide, by decide, by decide⟩

theorem witness_FanStatusMovesItsFan :
    (pFume.Hears .field ∧ pFume.restartPending = false ∧ pFume.outputAt 20 = some 0
      ∧ pFume.outputs[(0 : Fin 24)] = .inService ff (.fan (fan .running))
      ∧ fanPayload? [80, 0] = some ⟨80, false⟩ ∧ fanPayload? [79, 0] = some ⟨79, false⟩
      ∧ fanPayload? [0, 1] = some ⟨0, true⟩
      ∧ (fan .running).q / 16 * ff.proof / 100 ≤ 80 ∧ ¬((fan .running).q / 16 * ff.proof / 100 ≤ 79)
      ∧ (fan .running).below + 1 < 3) ∧ (fan .running).Sound := ⟨by decide, by decide⟩

/-- The fan waits for its path, which its zone's share takes through damper 1. -/
def pPath : State := plant { fume with shares := #v[300, 0, 0, 0] } .pathWait .travelling

theorem witness_DamperStatusMovesItsDamper :
    pPath.Hears .field ∧ pPath.outputAt 21 = some 1
    ∧ pPath.outputs[(1 : Fin 24)] = .inService df (.damper (damper .travelling)) ∧ damperPayload? [1, 0] = some .opened
    ∧ damperPayload? [3, 0] = some .jammed ∧ damperPayload? [0, 0] = some .closed ∧ damperPayload? [2, 0] = some .moving
    ∧ (damper .travelling).target = .closed ∧ pPath.fanIs 0 .pathWait = true ∧ zf.branches = [0]
    ∧ zf.fans[(0 : Fin 4)] = 0 ∧ zf.dampers[(0 : Fin 4)] = some 1 ∧ (damper .hand).state = .hand
    ∧ (damper .settled).position ≠ .closed := by decide

theorem witness_OutputTimersExpire :
    (pFume.works = true ∧ pFume.restartDue = false ∧ pCalm.works = true ∧ pCalm.restartDue = false
    ∧ pCalm.outputs[(0 : Fin 24)] = .inService ff (.fan (fan .running))) ∧ (fan .running).Sound ∧ (fan .pathWait).Sound
    ∧ (damper .travelling).Sound ∧ (damper .settled).Sound := ⟨by decide, by decide, by decide, by decide, by decide⟩

theorem witness_HandTakesAndGivesBack :
    pFume.Ready ∧ indexOf 24 0 = some 0 ∧ indexOf 24 1 = some 1 ∧ pFume.outputLocked 0 = false
    ∧ pFume.outputLocked 1 = false ∧ (fan .running).state ≠ .hand ∧ (damper .settled).state ≠ .hand
    ∧ (plant fume .hand .hand).outputs[(0 : Fin 24)] = .inService ff (.fan (fan .hand))
    ∧ (plant fume .hand .hand).outputs[(1 : Fin 24)] = .inService df (.damper (damper .hand))
    ∧ (fan .hand).Sound ∧ (damper .hand).Sound ∧ (OutputDyn.fan (fan .hand)).inHand = true := by decide

theorem witness_OutputResetRecovers :
    pFume.Ready ∧ indexOf 24 0 = some 0 ∧ (fan (.fault .flowLost)).Sound ∧ (fan (.fault .flowLost)).state.isFault = true
    ∧ (fan .running).state.isFault = false ∧ (damper .settled).state ≠ .hand
        ∧ (damper (.fault .jammed)).state.isFault = true
    ∧ (plant fume (.fault .flowLost) (.fault .jammed)).outputs[(0 : Fin 24)] = .inService ff (.fan (fan (.fault .flowLost)))
    := by decide

theorem witness_FieldFramesGoUp :
    pFume.Hears .field ∧ pFume.Hears .trunk ∧ pFume.trunk.queue.length < trunkRoom
    ∧ (Frame.ofIdent 0x00500000 []).kind ∉ [kindSample, kindStatus, kindMgmtReq]
    ∧ (Frame.ofIdent 0x00500000 []).hop ≠ 15 ∧ (Frame.ofIdent 0x005F0000 []).hop = 15
    ∧ (Frame.ofIdent 0x00200005 []).kind = kindStatus ∧ pFume.outputAt (Frame.ofIdent 0x00200005 []).src = none
    ∧ pFume.outputAt (Frame.ofIdent 0x00200014 [1]).src = some 0 ∧ fanPayload? [1] = none
    ∧ damperPayload? [4, 0] = none := by decide

theorem witness_TrunkFramesGoDown :
    pFume.Hears .trunk ∧ (pFume.field.queue.filter QEntry.isForwarded).length < fieldForwardedRoom
    ∧ (Frame.ofIdent 0x00501400 []).kind ≠ kindTime ∧ (Frame.ofIdent 0x00501400 []).dst ≠ pFume.active.node
    ∧ pFume.isKnownNode (Frame.ofIdent 0x00501400 []).dst = true
    ∧ (Frame.ofIdent 0x00301400 []).kind = kindDrive ∧ pFume.outputAt (Frame.ofIdent 0x00301400 []).dst = some 0
    ∧ pFume.inHand 0 = false ∧ pFume.isKnownNode 13 = false ∧ (Frame.ofIdent 0x005F1400 []).hop = 15
    ∧ (Frame.ofIdent 0x0050C800 []).dst = pFume.active.node := by decide

/-- A plant whose queues are full: the TRUNK queue of priority 5, the FIELD queue with 16 forwarded frames of priority 5. -/
def pFull : State :=
  { pFume with
    trunk := { Port.start with queue := List.replicate 24 (queued 5 .reply none) }
    field := { Port.start with queue := List.replicate 16 (queued 5 .forwarded none) } }

theorem witness_FullQueueEvictsTheLeastUrgent :
    pFull.restartPending = false ∧ pFull.Hears .field ∧ pFull.Hears .trunk ∧ trunkRoom ≤ pFull.trunk.queue.length
    ∧ fieldForwardedRoom ≤ (pFull.field.queue.filter QEntry.isForwarded).length
    ∧ (∃ e ∈ pFull.trunk.queue, (Frame.ofIdent 0x00501400 []).prio < e.frame.prio)
    ∧ (∀ e ∈ pFull.trunk.queue, e.frame.prio ≤ (Frame.ofIdent 0x14501400 []).prio)
    ∧ (Frame.ofIdent 0x00501400 []).kind ∉ [kindSample, kindStatus, kindMgmtReq]
    ∧ (Frame.ofIdent 0x00501400 []).kind ∉ [kindTime, kindDrive] := by decide

theorem witness_ArbitersTakeTheMostUrgent :
    pFull.field.on = true ∧ pFull.field.offers = 0 ∧ pFull.field.queue ≠ [] ∧ pFume.field.queue = []
    ∧ pFume.trunk.on = true ∧ pFume.trunk.offers = 0 ∧ pFume.arbitrate.trunk.report.isSome = true
    ∧ ({ pFull with deviceSlot := Slot.cleared } : State).arbitrate.trunk.report = none
    ∧ ({ pFume with deviceSlot := Slot.cleared } : State).arbitrate.trunk.report = none := by decide

/-- A plant whose ports have a frame on offer: a zone report on the TRUNK, a run DRIVE after a forwarded frame on the FIELD. -/
def pOffer (n : Nat) : State :=
  { pFume with
    field := { Port.start with queue := [queued 5 .forwarded none, queued 2 (.drive 0 true) (some n)] }
    trunk := { Port.start with
      report := some ⟨some (.zone 0), ⟨4, kindZoneReport, 0, 255, 200, []⟩, false, n⟩ }
    zoneSlots := State.reset.zoneSlots.set 0 ⟨true, false, true⟩ }

theorem witness_CompletedFrameLeaves :
    (pOffer 3).Hears .field ∧ (pOffer 3).Hears .trunk ∧ ((pOffer 3).port .field).Sound ∧ ((pOffer 3).port .trunk).Sound
    ∧ ((pOffer 3).port .trunk).report.isSome = true
    ∧ (pOffer 3).field.queue = [queued 5 .forwarded none] ++ queued 2 (.drive 0 true) (some 3) :: []
    ∧ (queued 2 (.drive 0 true) (some 3)).onOffer = true ∧ (queued 2 (.drive 0 true) (some 3)).origin ≠ .restartReply := by
  decide

theorem witness_FailuresAbandonTheFrame :
    (pOffer 30).works = true ∧ (pOffer 30).restartDue = false ∧ ((pOffer 30).port .field).Sound
    ∧ ((pOffer 30).port .field).failures + 1 < 32 ∧ ((pOffer 31).port .field).failures + 1 = 32
    ∧ ((pOffer 31).port .field).Sound ∧ ((pOffer 31).port .field).offers = 1 ∧ ((pOffer 31).port .trunk).offers = 1
    ∧ ((pOffer 31).port .trunk).failures + 1 = 32
    ∧ ({ Port.start with on := false, recovery := some 4 } : Port).Sound := by decide

theorem witness_RequestsDecodeToTheirRows :
    Request.instr (hd 9 200).src 7 (.zoneRelease 0 4) = some (.zoneRelease 9 7 0 4)
        ∧ (hd 9 200).dst = State.reset.active.node
    ∧ (Request.args (.zoneRelease 0 4) ++ [1, 2, 3, 4]).length ≤ 6 ∧ decodeRequest 16 [0, 4] = some (.zoneRelease 0 4) := by
  decide

/-- A RESTART is pending and its reply is on offer. -/
def pRestart : State :=
  { pFume with restartPending := true, trunk := { Port.start with queue := [queued 6 .restartReply (some 0)] } }

theorem witness_RefusalsChangeNothing :
    pFume.Hears .trunk ∧ pFume.trunk.queue.length < trunkRoom ∧ decodeRequest 0 [] = none ∧ decodeRequest 16 [0] = none
    ∧ Request.instr 9 1 .restart = some (.restart 9 1) ∧ pFume.restartPending = false
    ∧ pRestart.Hears .trunk := by decide

theorem witness_RefusalsChangeNothing_refused :
    (match (pCalm.heard .trunk).decide .restart with
      | .refused .locked => true
      | _ => false) = true := by decide

/-- A SAVE is in flight. -/
def pSaving : State := { pFume with save := some ⟨9, 1, pFume.image⟩ }

theorem witness_LocksRefuse :
    pCalm.Ready ∧ pCalm.saving = false ∧ (1 : Byte).toNat = (0 : Fin 5).val + 1
    ∧ pCalm.points[(0 : Fin 64)] = .inService pf live ∧ pCalm.outputs[(0 : Fin 24)].isInService = true
    ∧ pSaving.saving = true ∧ pSaving.Ready := by decide

theorem witness_LocksRefuse_refs :
    lifeCycleRef 1 0 = .ok (.point 0) ∧ entryRef 7 0 = .ok .device ∧ tuneRef 6 1 = .ok (.clock 1) := ⟨rfl, rfl, rfl⟩

theorem witness_EntriesOpenAndClear :
    pFume.Ready ∧ pFume.saving = false ∧ indexOf 64 2 = some 2 ∧ pFume.points[(2 : Fin 64)] = .vacant
    ∧ indexOf 64 63 = some 63 ∧ pFume.points[(63 : Fin 64)] = .draft { PointFields.default with node := some 12 }
    ∧ pFume.zones[(1 : Fin 8)] = .vacant ∧ pFume.zones[(7 : Fin 8)] = .draft ZoneFields.default
    ∧ pFume.outputs[(2 : Fin 24)] = .vacant ∧ pFume.windows[(0 : Fin 8)] = .vacant
    ∧ pFume.windows[(7 : Fin 8)] = .draft WindowFields.default ∧ indexOf 8 7 = some 7 ∧ indexOf 24 23 = some 23
    ∧ pFume.lifeCycle (.point 0) ≠ .vacant ∧ pFume.lifeCycle (.point 0) ≠ .draft := by decide

theorem witness_EntrySetWritesOneField :
    pFume.Ready ∧ pFume.saving = false ∧ (1 : Byte).toNat ≤ 1 ∧ (5 : BitVec 16).toNat = 5 ∧ (240 : BitVec 16).toNat ≤ 240
    ∧ pFume.points[(63 : Fin 64)] = .draft { PointFields.default with node := some 12 }
    ∧ pFume.outputs[(23 : Fin 24)] = .draft { OutputFields.default with node := some 22 } := by decide

theorem witness_EntrySetWritesOneField_values :
    (∃ f', PointFields.default.set 1 (some 254) = .ok f') ∧ PointFields.default.set 1 (some 255) = .error .outOfRange
    ∧ PointFields.default.set 26 none = .error .badField ∧ (∃ f', ZoneFields.default.set 6 (some 255) = .ok f')
    ∧ (∃ f', OutputFields.default.set 5 (some 50) = .ok f') ∧ (∃ f', WindowFields.default.set 1 (some 127) = .ok f')
    ∧ (∃ r', Response.default.set 4 2 (some 0) = .ok r') ∧ (∃ r', DeviceRecord.default.set 1 (some 254) = .ok r') :=
  ⟨⟨_, rfl⟩, rfl, rfl, ⟨_, rfl⟩, ⟨_, rfl⟩, ⟨_, rfl⟩, ⟨_, rfl⟩, ⟨_, rfl⟩⟩

theorem witness_EntryGetReadsTheField :
    pFume.Ready ∧ pf.get 1 = some (some 10) ∧ pf.get 8 = some none ∧ zf.get 17 = some (some 0)
    ∧ PointFields.default.get 26 = none ∧ ZoneFields.default.get 0 = none ∧ OutputFields.default.get 11 = none
    ∧ WindowFields.default.get 6 = none ∧ State.reset.response.get 0 2 = none ∧ State.reset.response.get 4 2 = some (some 1)
    ∧ State.reset.active.get 5 = some (some 250) ∧ State.reset.active.get 6 = none := by decide

theorem witness_CommissionEntersService :
    let f := PointFields.default
    pFume.Ready ∧ pFume.saving = false ∧ (∀ p ∈ f.pairs, p.1 < 2 ^ f.width) ∧ f.fallA < f.riseA ∧ f.riseB = none
    ∧ (f.kind = .co ∧ f.levelA = 1)
    ∧ (pFume.zoneChecks { ZoneFields.default with fans := #v[2, 0, 0, 0] }).head? = some (false, .outputNotInService)
    ∧ (∀ c ∈ pFume.zoneChecks ZoneFields.default, c.1 = true)
    ∧ pFume.lifeCycle (.point 0) ≠ .draft ∧ WindowFields.default.start ≠ WindowFields.default.stop
    ∧ ({ WindowFields.default with stop := 0 } : WindowFields).start = 0 := by decide

/-- A zone that no point names, and outputs that no zone names. -/
def pAlone : State :=
  { pFume with
    points := State.reset.points
    zones := State.reset.zones.set 0 (.inService { zf with fans := #v[5, 0, 0, 0], dampers := #v[none, none, none,
        none] } ZoneDyn.initial) }

theorem witness_RetireLeavesService :
    pFume.Ready ∧ pFume.saving = false ∧ contribution pg idle = 0 ∧ pFume.ConditionsFormed
    ∧ pAlone.zones[(0 : Fin 8)].isInService = true ∧ ZoneDyn.initial.level = 0 ∧ fume.level ≠ 0
    ∧ pAlone.outputs[(0 : Fin 24)] = .inService ff (.fan (fan .running))
    ∧ pFume.points[(63 : Fin 64)].isInService = false ∧ pFume.zones[(7 : Fin 8)].isInService = false
    ∧ pFume.outputs[(2 : Fin 24)].isInService = false ∧ pFume.windows[(0 : Fin 8)].isInService = false := by decide

theorem witness_TunesAreStaged :
    pFume.Ready ∧ pFume.saving = false ∧ pFume.zones[(0 : Fin 8)] = .inService zf fume ∧ zf.clock = some 0
    ∧ (59 : BitVec 16).toNat < pFume.clocks[(0 : Fin 2)].staged.getD pFume.clocks[(0 : Fin 2)].period
    ∧ ¬((60 : BitVec 16).toNat < pFume.clocks[(0 : Fin 2)].staged.getD pFume.clocks[(0 : Fin 2)].period)
    ∧ ZoneFields.default.clock = none ∧ (240 : BitVec 16).toNat ≤ 240 ∧ (4 : BitVec 16).toNat < 5
    ∧ pFume.zones[(7 : Fin 8)].isInService = false := by decide

theorem witness_ReadsAnswerAndChangeNothing :
    pFume.Ready ∧ pFume.dayClock = none ∧ ({ pFume with dayClock := some ⟨6, 1439⟩ } : State).dayClock = some ⟨6, 1439⟩
    ∧ (fan .running).lastStatus = none ∧ indexOf 24 1 = some 1 ∧ indexOf 8 0 = some 0 ∧ indexOf 64 0 = some 0 := by decide

theorem witness_FieldsReadBackAsWritten :
    (∃ f', PointFields.default.set 1 (some 254) = .ok f') ∧ (∃ r', Response.default.set 3 2 (some 0) = .ok r')
    ∧ PointFields.default.get 26 = none := ⟨⟨_, rfl⟩, ⟨_, rfl⟩, rfl⟩

theorem witness_CountersClearZeroes :
    pFume.Ready ∧ pFume.points[(0 : Fin 64)].isInService = true ∧ pFume.points[(63 : Fin 64)].isInService = false := by decide

theorem witness_SaveWritesTheImage :
    pFume.Ready ∧ pFume.saving = false
    ∧ pSaving.works = true ∧ pSaving.restartDue = false ∧ pSaving.trunk.queue.length < trunkRoom
    ∧ pSaving.save.isSome = true := by decide

theorem witness_RestartWaitsAndKeepsTheTables :
    pFume.Ready ∧ pFume.saving = false ∧ pFume.fireState = false ∧ pRestart.Hears .trunk ∧ pRestart.trunk.Sound
    ∧ pRestart.restartPending = true ∧ pRestart.works = true
    ∧ pRestart.trunk.queue = [] ++ queued 6 .restartReply (some 0) :: [] := by decide

theorem witness_StartReadsTheStore :
    State.reset.save = none ∧ State.reset.resetLine = false ∧ State.reset.powered = true
    ∧ State.reset.store.valid? = none := by decide

theorem witness_StartReadsTheStore_valid (img : Image) : (StoreContent.image img (checkWord img)).valid? = some img := by
  simp [StoreContent.valid?]

theorem witness_StepKeepsCountersBounded : (pOffer 3).CountersBounded := by decide
theorem witness_StepKeepsQueuesSound : (pOffer 3).QueuesSound := by decide
theorem witness_StepKeepsLadderSound : pCalm.LadderSound := witness_ladders.2.2
theorem witness_StepKeepsMachinesSound : pFume.MachinesSound := by decide
theorem witness_StepKeepsConditionsFormed : pCalm.ConditionsFormed := by decide
set_option synthInstance.maxSize 4000 in
theorem witness_StepKeepsTablesConsistent : pFume.TablesConsistent := by decide

theorem witness_FireLevelsLeaveOnlyByConsent :
    pCalm.restartPending = false ∧ pCalm.zones[(0 : Fin 8)] = .inService zf calming ∧ calming.accepted = false
    ∧ calming.inForce.l4 = true ∧ pCalm.pending = [] := by decide

/-! ## Witnesses of the clauses that stand beside others in one statement -/

/-- A frame that has come with hop count 15. -/
def hd15 (src dst : Byte) : Header := ⟨3, 15, dst, src⟩

/-- A sample of a point that changes its contribution: the smoke point's fault, and the CO point's fall. -/
theorem witness_ZoneReformed :
    contribution pg broken ≠ contribution pg idle ∧ contribution pf (live.takeSample pf 0 false true) ≠ contribution pf live
    ∧ pFume.zones[pf.zone] = .inService zf fume ∧ fume.Sound ∧ contribution pg idle ≠ pg.faultLevel := by decide

/-- Each way a zone reforms: a rise, a hold, a return, a fall, a fall during a run-on, and run-ons of 0 s. -/
theorem witness_Reforms :
    fume.level < 2 ∧ quiet.suppress = true ∧ quiet.level < 2 ∧ calming.level = 4 ∧ 0 < fume.level ∧ fume.runOn = none
    ∧ fume.releaseWait = false ∧ calming.runOn.isSome = true ∧ waiting.releaseWait = true
    ∧ State.reset.response.runOnOf 1 ≠ 0
    ∧ (⟨#v[0, 0, 0, 0, 0], true, true⟩ : Response).runOnOf fume.level = 0
    ∧ (⟨#v[0, 0, 0, 0, 0], true, true⟩ : Response).runOnOf burning.level = 0 ∧ 4 ≤ burning.level ∧ fume.level < 4 := by
  decide

/-- Removal from a zone: the level below is present, has a run-on to start, and has one of 0 s. -/
theorem witness_Removes :
    (waiting.inForce.erase waiting.level).highest ≤ waiting.cond
    ∧ ({ waiting with cond := 0 } : ZoneDyn).cond < (waiting.inForce.erase waiting.level).highest
    ∧ State.reset.response.runOnOf (waiting.inForce.erase waiting.level).highest ≠ 0 := by decide

theorem witness_hop15 :
    (hd15 10 255).hop = 15 ∧ pFume.pointAt (hd15 10 255).src = some 0 ∧ pFume.outputAt (hd15 20 255).src = some 0
    ∧ (hd15 9 255).dst ≠ pFume.active.node ∧ (hd15 9 255).dst = 255 ∧ (fan .running).lastStatus ≠ some ⟨80, false⟩
    ∧ (damper .travelling).position ≠ .opened := by decide

theorem witness_CalibrationInterpolates_marks :
    399 < pf.raw1 ∧ (∀ p ∈ pf.pairs, p.1 < 3001) ∧ pf.raw1 ≤ 3000 ∧ ∃ p ∈ pf.pairs, 3000 ≤ p.1 := by decide

/-- A PANEL frame of action 3 and a MGMT_REQ of one byte, both to the part. -/
theorem witness_PanelIgnoredOrMalformed_action :
    (Frame.ofIdent (⟨0, kindPanel, 0, 200, 9, []⟩ : Frame).ident [3, 1]).kind = kindPanel
    ∧ (Frame.ofIdent (⟨0, kindPanel, 0, 200, 9, []⟩ : Frame).ident [3, 1]).dst = pFume.active.node
    ∧ pFume.active.panelNode = 0 ∧ (3 : Byte) ≠ 1 ∧ (3 : Byte) ≠ 2
    ∧ (Frame.ofIdent (⟨0, kindMgmtReq, 0, 200, 9, []⟩ : Frame).ident [32]).kind = kindMgmtReq
    ∧ (Frame.ofIdent (⟨0, kindMgmtReq, 0, 200, 9, []⟩ : Frame).ident [32]).dst = pFume.active.node
    ∧ [(32 : Byte)].length < 2 := by decide

/-- A window past midnight, on day 6 alone: its last minutes are on day 0. -/
def night : WindowFields := { win with dayMask := 64, start := 1380, stop := 60 }

theorem witness_DemandFollowsTheLevel_windows :
    win.start < win.stop ∧ night.stop < night.start ∧ night.covers ⟨6, 1439⟩ = true ∧ night.covers ⟨0, 59⟩ = true
    ∧ night.covers ⟨0, 60⟩ = false ∧ night.covers ⟨0, 1380⟩ = false := by decide

/-- Time: nothing is due, one expiry is due, and two are. -/
theorem witness_MinutesAdvanceTheClocks_time :
    pFume.pending = [] ∧ pFume.dueExpiries = []
    ∧ ({ pFume with driveTimer := 0 } : State).dueExpiries = [.drivePeriodExpiry]
    ∧ ({ pFume with driveTimer := 0, minuteTimer := 0 } : State).dueExpiries = [.minuteTimerExpiry, .drivePeriodExpiry] := by
  decide

theorem witness_AllocationIsDelivered_machines :
    pFume.MachinesSound ∧ (fan .running).Sound ∧ (fan .stopped).Sound ∧ (fan .pathWait).Sound ∧ (fan .stopping).Sound
    ∧ (damper .travelling).target = .closed ∧ pPath.MachinesSound :=
  ⟨by decide, by decide, by decide, by decide, by decide, by decide, by decide⟩

/-- Zone 1 is in fire: it comes before zone 0, claims fans 1 and 2, and shares fan 1 with it. -/
theorem witness_SharesStayWithinFansAndDemands_order :
    let s := hall (at_ ⟨false, true, false, false, false⟩) (at_ ⟨false, false, false, true, false⟩) (at_ .none)
    s.Precedes 1 0 ∧ s.Precedes 0 2 ∧ ¬s.Precedes 2 0 ∧ s.claims 1 1 = true ∧ s.claims 0 1 = false
    ∧ (∀ y, s.claims y 0 = false) ∧ (s.fan? 0).isSome = true ∧ s.fan? 3 = none := by decide

/-- Fan 1, which is NONEX, with hydrogen in zone 0, and with a fire in zone 1 beside it. -/
theorem witness_SharesStayWithinFansAndDemands_hold :
    (hall (at_ ⟨false, false, true, false, false⟩) (at_ .none) (at_ .none)).holdMark 1 = .heldRunning
    ∧ (hall (at_ ⟨false, false, true, false, false⟩) (at_ ⟨false, false, false, true, false⟩) (at_ .none)).holdMark 1 = .none := by
  decide

theorem witness_FullQueueEvictsTheLeastUrgent_reply :
    Request.instr 9 1 (.readDevice 0) = some (.readDevice 9 1 0) ∧ (∀ e ∈ pFull.trunk.queue, e.frame.prio ≤ 6)
    ∧ (∃ e ∈ List.replicate 24 (queued 7 .forwarded none), (6 : BitVec 3) < e.frame.prio) := by decide

theorem witness_FullQueueEvictsTheLeastUrgent_decided :
    (∃ data, (pFull.heard .trunk).decide (.readDevice 0) = .done (pFull.heard .trunk) data)
    ∧ (pFull.heard .trunk).decide (.readDevice 9) = .refused .outOfRange := ⟨⟨_, rfl⟩, rfl⟩

theorem witness_ArbitersTakeTheMostUrgent_reports :
    pFume.zones[(0 : Fin 8)] = .inService zf fume ∧ broken.state = .fault .silent ∧ live.state.isFault = false
    ∧ live.grade = .a
    ∧ (fan (.fault .flowLost)).state = .fault .flowLost ∧ unproved.noPath = true ∧ unproved.state.isFault = false
    ∧ (damper (.fault .jammed)).state = .fault .jammed ∧ pFume.points[(2 : Fin 64)].isInService = false := by decide

/-- The part with another node pending: R149's difference, which ENTRY_GET reads as field 1. -/
theorem witness_EntryGetReadsTheField_difference :
    ({ pFume with pendingRecord := { DeviceRecord.default with node := 201 } } : State).active
        ≠ ({ pFume with pendingRecord := { DeviceRecord.default with node := 201 } } : State).pendingRecord
    ∧ pFume.active = pFume.pendingRecord ∧ DeviceRecord.default.get 1 ≠ some (some 201) := by decide

/-- The same part is ready for a READ_DEVICE. -/
theorem witness_ReadsAnswerAndChangeNothing_copies :
    let s : State := { pFume with pendingRecord := { DeviceRecord.default with node := 201 } }
    s.Ready ∧ s.active ≠ s.pendingRecord := by decide

/-- Section 11.2: byte 4 of a raised point fault, whose grade is CLEAR. -/
theorem test_troubleReport :
    ({ pFume with points := pFume.points.set 1 (.inService pg broken) } : State).pointReportData 1 = [0, 1, 2, 1, 1, 0] := by
  decide

/-- A plant whose TRUNK queue is full of frames, the reply of the pending RESTART among them. -/
def pEvict : State :=
  { pFume with
    restartPending := true
    trunk := { Port.start with
      queue := List.replicate 12 (queued 5 .forwarded none) ++ queued 6 .restartReply none
        :: List.replicate 11 (queued 5 .forwarded none) } }

theorem witness_RestartWaitsAndKeepsTheTables_full :
    pFull.QueuesSound ∧ pFull.Hears .trunk ∧ pFull.restartPending = false ∧ pFull.saving = false ∧ pFull.fireState = false
    ∧ trunkRoom ≤ pFull.trunk.queue.length ∧ (∀ x ∈ pFull.trunk.queue, x.frame.prio ≤ 6)
    ∧ pEvict.Hears .field ∧ pEvict.restartPending = true ∧ trunkRoom ≤ pEvict.trunk.queue.length
    ∧ (∀ x ∈ List.replicate 12 (queued 5 .forwarded none) ++ List.replicate 11 (queued 5 .forwarded none),
        x.origin ≠ .restartReply ∧ x.frame.prio < 6)
    ∧ (Frame.ofIdent 0x00501400 []).prio < 6 ∧ (Frame.ofIdent 0x00501400 []).hop ≠ 15
    ∧ (Frame.ofIdent 0x00501400 []).kind ∉ [kindSample, kindStatus, kindMgmtReq] := by decide

theorem witness_StepKeepsMachinesSound_tables : pFume.TablesConsistent ∧ pFume.MachinesSound :=
  ⟨witness_StepKeepsTablesConsistent, witness_StepKeepsMachinesSound⟩

/-! ## Witnesses of the relations the claims spell out -/

theorem zoneInFire_iff (s : State) (z : Fin 8) : s.ZoneInFire z ↔ ∃ d ∈ s.zones[z].dyn?, 4 ≤ d.level := by
  cases h : s.zones[z] <;> simp [State.ZoneInFire, Entry.dyn?, h]

theorem zoneNames_iff (s : State) (z : Fin 8) (i : Fin 24) :
    s.ZoneNames z i ↔ ∃ f ∈ s.zones[z].served?, ∃ k ∈ f.branches, f.fans[k] = i ∨ f.dampers[k] = some i := by
  cases h : s.zones[z] <;> simp [State.ZoneNames, Entry.served?, h]

theorem pointHasNode_iff (s : State) (i : Fin 64) (n : Byte) :
    s.PointHasNode i n ↔ ∃ f ∈ s.points[i].fields?, f.node = some n := by
  cases h : s.points[i] <;> simp [State.PointHasNode, Entry.fields?, h]

theorem outputHasNode_iff (s : State) (i : Fin 24) (n : Byte) :
    s.OutputHasNode i n ↔ ∃ f ∈ s.outputs[i].fields?, f.node = some n := by
  cases h : s.outputs[i] <;> simp [State.OutputHasNode, Entry.fields?, h]

theorem periodFits_iff (s : State) (j : Fin 2) (n : Nat) :
    s.PeriodFits j n ↔ ∀ z : Fin 8, ∀ f ∈ s.zones[z].served?, ∀ d ∈ s.zones[z].dyn?, f.clock = some j →
      d.stagedStart.getD f.purgeStart < n ∧ d.stagedDuration.getD f.purgeDuration ≤ n := by
  refine forall_congr' fun z => ?_
  cases h : s.zones[z] <;> simp [Entry.served?, Entry.dyn?]

theorem witness_fires : (∀ z, ¬pFume.ZoneInFire z) ∧ pCalm.ZoneInFire 0 := by
  simp only [zoneInFire_iff]; decide

theorem witness_names :
    pFume.ZoneNames 0 0 ∧ pFume.ZoneNames 0 1 ∧ pCalm.ZoneNames 0 0 ∧ ∀ z, ¬pAlone.ZoneNames z 0 := by
  simp only [zoneNames_iff]; decide

/-- Full queues: a frame of priority 3 joins them and one of priority 5 does not; other queues have room. -/
theorem witness_fullQueues :
    ¬pFull.trunk.TrunkHasRoom ∧ ¬pFull.field.FieldHasRoom ∧ pFume.trunk.TrunkHasRoom ∧ pFume.field.FieldHasRoom
    ∧ pFull.trunk.Admits pFull.trunk.TrunkHasRoom (fun _ => true) (hd 10 255).prio
    ∧ ¬pFull.trunk.Admits pFull.trunk.TrunkHasRoom (fun _ => true) 5
    ∧ pFull.field.Admits pFull.field.FieldHasRoom QEntry.isForwarded (hd 9 255).prio
    ∧ ¬pFull.field.Admits pFull.field.FieldHasRoom QEntry.isForwarded 5
    ∧ pFull.restartPending = false ∧ pFull.Hears .field ∧ pFull.Hears .trunk := by decide

/-- Rows that meet a full queue: a sample, a TIME that goes down and one that does not, and a SAVE that completes. -/
theorem witness_fullQueues_rows :
    pFull.pointAt (hd 10 255).src = some 0 ∧ (live.takeSample pf 5000 false false).grade = live.grade
    ∧ classify pf 5000 false false = .bad ∧ pFull.outputAt (hd 20 255).src = some 0
    ∧ (fan .running).lastStatus ≠ some ⟨0, false⟩
    ∧ (hd 9 255).dst ≠ pFull.active.node ∧ (hd 9 13).dst ≠ 255 ∧ pFull.isKnownNode (hd 9 13).dst = false
    ∧ ({ pFull with save := pSaving.save } : State).save = some ⟨9, 1, pFume.image⟩
    ∧ ({ pFull with save := pSaving.save } : State).works = true := by decide

/-- A DRIVE to an output in HAND, which goes down. -/
theorem witness_fullQueues_drive :
    let s : State := { plant fume .hand .hand with field := pFull.field }
    let f := Frame.ofIdent 0x00301400 []
    f.kind = kindDrive ∧ f.dst ≠ s.active.node ∧ s.isKnownNode f.dst = true ∧ f.dst ≠ 255 ∧ f.hop ≠ 15
    ∧ s.outputAt f.dst = some 0 ∧ s.inHand 0 = true := by decide

/-- A zone above a held condition, one whose next level has a run-on of 0 s, and their ladders. -/
def above : ZoneDyn :=
  { held with inForce := ⟨false, false, true, false, false⟩, runOn := some 8 }
def below : ZoneDyn :=
  { ZoneDyn.initial with inForce := ⟨true, false, false, true, false⟩, runOn := some 8, accepted := true }
def noRunOn : Response := ⟨#v[0, 0, 0, 0, 0], true, true⟩

theorem witness_Removes_heldAndChained :
    (above.Sound ∧ above.level < 4 ∧ (above.inForce.erase above.level).highest < above.cond ∧ above.cond = 2
      ∧ above.suppress = true)
    ∧ below.Sound ∧ below.accepted = true ∧ below.cond < (below.inForce.erase below.level).highest
    ∧ noRunOn.runOnOf (below.inForce.erase below.level).highest = 0
    ∧ (below.inForce.erase below.level).highest < 4 :=
  ⟨by decide, by decide, rfl, by decide, rfl, by decide⟩

/-- The two removals themselves: the condition is held, and the level below goes at once with its run-on of 0 s. -/
theorem witness_Removes_results :
    above.Removes State.reset.response { held with runOn := none }
    ∧ below.Removes noRunOn ZoneDyn.initial :=
  ⟨.ends _ _ _ _ rfl rfl (by decide) (by decide),
    .chains _ _ _ _ rfl rfl (by decide) rfl (by decide) (.ends _ _ _ _ rfl rfl (by decide) (by decide))⟩

/-- Lifting a suppression whose highest held level is E or less, the condition, and above a lower condition. -/
theorem witness_SuppressionHoldsFumeLevels_tops :
    (quiet.held2 = false ∧ quiet.held1 = false ∧ quiet.suppress = true)
    ∧ (held.level < 2 ∧ held.cond = 2 ∧ held.suppress = true)
    ∧ ({ held with cond := 1, held1 := true } : ZoneDyn).Sound ∧ ({ held with cond := 0 } : ZoneDyn).Sound
    ∧ State.reset.response.runOnOf 2 ≠ 0 ∧ noRunOn.runOnOf 2 = 0 :=
  ⟨by decide, by decide, by decide, by decide, by decide⟩

/-- A report of OPEN from damper 1 starts fan 0, and no other. -/
theorem witness_DamperStatusMovesItsDamper_starts :
    pPath.fanIs 0 .pathWait = true ∧ ∃ (z : Fin 8) (g : ZoneFields) (e : ZoneDyn), ∃ k ∈ g.branches,
      pPath.zones[z] = .inService g e ∧ g.fans[k] = 0 ∧ g.dampers[k] = some 1 ∧ 0 < e.shares[k] :=
  ⟨by decide, 0, zf, { fume with shares := #v[300, 0, 0, 0] }, 0, by decide, rfl, rfl, rfl, by decide⟩

/-- Fire that reaches fan 0, and none. -/
theorem witness_OutputTimersExpire_fire :
    (∃ (z : Fin 8) (g : ZoneFields) (e : ZoneDyn), ∃ k ∈ g.branches,
      pCalm.zones[z] = .inService g e ∧ g.fans[k] = 0 ∧ 4 ≤ e.level)
    ∧ ¬∃ (z : Fin 8) (g : ZoneFields) (e : ZoneDyn), ∃ k ∈ g.branches,
      pFume.zones[z] = .inService g e ∧ g.fans[k] = 0 ∧ 4 ≤ e.level :=
  ⟨⟨0, zf, calming, 0, by decide, rfl, rfl, by decide⟩,
    fun ⟨z, g, e, _, _, h, _, hl⟩ => witness_fires.1 z ⟨g, e, h, hl⟩⟩

/-- The requests that are refused: an index just outside each table, an entry out of service, and an argument just outside. -/
theorem witness_RefusalsChangeNothing_requests :
    pFume.Ready ∧ 8 ≤ (8 : Byte).toNat ∧ 24 ≤ (24 : Byte).toNat ∧ 64 ≤ (64 : Byte).toNat
    ∧ pFume.zones[(7 : Fin 8)].isInService = false ∧ pFume.outputs[(23 : Fin 24)].isInService = false
    ∧ pFume.points[(63 : Fin 64)].isInService = false ∧ pFume.zones[(0 : Fin 8)].isInService = true
    ∧ pFume.outputs[(1 : Fin 24)].isInService = true ∧ pFume.damper? 1 ≠ none ∧ pFume.damper? 0 = none
    ∧ 1 < (2 : Byte).toNat ∧ 5 < (6 : Byte).toNat ∧ (8 : Byte) ∉ [(1 : Byte), 2, 3, 4, 5, 6, 7]
    ∧ ¬(1 ≤ (0 : Byte).toNat) ∧ ¬((6 : Byte).toNat ≤ 5) ∧ [6, 6, 5, 0].getD 1 0 < (7 : Byte).toNat := by decide

theorem witness_LocksRefuse_spelled :
    (∃ z, pCalm.ZoneInFire z) ∧ pCalm.ZoneInFire pf.zone ∧ (∃ z, pCalm.ZoneNames z 0 ∧ pCalm.ZoneInFire z) :=
  ⟨⟨0, witness_fires.2⟩, witness_fires.2, 0, witness_names.2.2.1, witness_fires.2⟩

/-- A node that another entry has, one that a copy of the device record has, one that is the entry's own, and a free one. -/
theorem witness_EntrySetWritesOneField_nodes :
    pFume.NodeInUse (some 63) none 20 ∧ pFume.NodeInUse (some 63) none 200 ∧ ¬pFume.NodeInUse (some 63) none 12
    ∧ ¬pFume.NodeInUse (some 63) none 13 ∧ pFume.PointHasNode 0 10 := by
  simp only [State.NodeInUse, pointHasNode_iff, outputHasNode_iff]; decide

theorem witness_EntrySetWritesOneField_periods :
    pFume.PeriodFits 0 5 ∧ ¬(plant { fume with stagedDuration := some 61 } .running .settled).PeriodFits 0 60
    ∧ (plant { fume with stagedDuration := some 61 } .running .settled).PeriodFits 0 61 := by
  simp only [periodFits_iff]; decide

theorem witness_EntrySetWritesOneField_refused :
    1 < (2 : Byte).toNat ∧ PointFields.default.get 25 ≠ none ∧ PointFields.default.get 26 = none
    ∧ indexOf 2 1 = some 1 ∧ (2 : Byte) ≠ 1 ∧ (4 : BitVec 16).toNat < 5 ∧ 240 < (241 : BitVec 16).toNat
    ∧ (∀ f, pFume.points[(0 : Fin 64)] ≠ .draft f) ∧ (∀ f, pFume.points[(2 : Fin 64)] ≠ .draft f)
    ∧ (∀ f, pFume.zones[(0 : Fin 8)] ≠ .draft f) ∧ (∀ f, pFume.outputs[(0 : Fin 24)] ≠ .draft f)
    ∧ ∀ f, pFume.windows[(0 : Fin 8)] ≠ .draft f :=
  ⟨by decide, by decide, by decide, by decide, by decide, by decide, by decide, nofun, nofun, nofun, nofun, nofun⟩

/-- The checks of a point, each failing after those before it: pairs that fall, a pair too wide, a threshold below its fall, a
level of another kind, a node in use, and a zone that is a DRAFT. -/
theorem witness_CommissionEntersService_point :
    ({ pf with val3 := 99 } : PointFields).calOrder = false
    ∧ ({ pf with raw3 := some 4096 } : PointFields).calOrder = true
    ∧ ({ pf with raw3 := some 4096 } : PointFields).calWidth = false
    ∧ pf.calWidth = true ∧ ({ pf with fallA := 50 } : PointFields).threshOrder = false
    ∧ pf.threshOrder = true ∧ ({ pf with levelB := some 3 } : PointFields).levelKind = false
    ∧ pf.levelKind = true ∧ pFume.zones[(7 : Fin 8)].isInService = false ∧ pFume.zones[(0 : Fin 8)].isInService = true
    ∧ pFume.ConditionsFormed := by decide

/-- A rising calibration, spelled out. -/
theorem witness_CommissionEntersService_calibration :
    let f := PointFields.default
    (f.raw4 ≠ none → f.raw3 ≠ none) ∧ ∀ p q, [p, q] <:+: f.pairs → p.1 < q.1 ∧ p.2 ≤ q.2 := by
  refine ⟨by decide, fun p q h => ?_⟩
  have hc : PointFields.default.pairs.IsChain fun p q => p.1 < q.1 ∧ p.2 ≤ q.2 := by decide
  obtain ⟨a, b, e⟩ := h
  exact List.isChain_iff_forall_rel_of_append_cons_cons.1 hc (by simpa using e.symm)

/-- The checks of a zone, each failing after those before it. -/
theorem witness_CommissionEntersService_zone :
    pFume.outputs[(2 : Fin 24)].isInService = false ∧ pFume.outputs[(1 : Fin 24)].isInService = true ∧ ff.kind = .fan
    ∧ df.kind = .damper ∧ ({ zf with fumeLowFlow := 99 } : ZoneFields).flowOrder = false ∧ zf.flowOrder = true
    ∧ ¬(({ zf with purgeDuration := 61 } : ZoneFields).purgeDuration ≤ pFume.clocks[(0 : Fin 2)].period)
    ∧ zf.branches = [0] ∧ pFume.outputs[zf.fans[(0 : Fin 4)]] = .inService ff (.fan (fan .running)) := by decide

/-- Node 22 is free for output 23, which has it, and node 20 is in use. -/
theorem witness_CommissionEntersService_nodes :
    ¬pFume.NodeInUse none (some 23) 22 ∧ pFume.NodeInUse none (some 23) 20 ∧ ¬pFume.NodeInUse (some 63) none 12 := by
  simp only [State.NodeInUse, pointHasNode_iff, outputHasNode_iff]; decide

/-- A zone that a point names, one that none names at FUME_LOW and at CALM, and outputs that are named and not. -/
theorem witness_RetireLeavesService_spelled :
    (∃ (i : Fin 64) (g : PointFields) (e : PointDyn), pFume.points[i] = .inService g e ∧ g.zone = 0)
    ∧ (¬∃ (i : Fin 64) (g : PointFields) (e : PointDyn), pAlone.points[i] = .inService g e ∧ g.zone = 0)
    ∧ ¬pFume.ZoneInFire pf.zone ∧ (∃ z, pFume.ZoneNames z 0) ∧ (∀ z, ¬pAlone.ZoneNames z 0) :=
  ⟨⟨0, pf, live, rfl, rfl⟩, fun ⟨i, g, e, h, _⟩ => by simp [pAlone, State.reset] at h,
    witness_fires.1 _, ⟨0, witness_names.1⟩, witness_names.2.2.2⟩

/-- Level 4 below a level 5 whose release has been accepted, and trunk frames that consent to nothing. -/
theorem witness_FireLevelsLeaveOnlyByConsent_below :
    let d : ZoneDyn := { calming with inForce := ⟨true, false, false, true, true⟩, accepted := true }
    d.Sound ∧ d.inForce.l4 = true ∧ d.inForce.l5 = true ∧ d.accepted = true
    ∧ (Frame.ofIdent 0x00501400 []).kind ≠ kindPanel ∧ (Frame.ofIdent 0x00501400 []).kind ≠ kindMgmtReq := by decide

end Sys2Proof.Tests
end

namespace Sys2Proof.Machine

/-! ## Calibration (R13, R14, R142) -/

/-- One calibration pair before another: its raw count is lower, and its value is not higher (R142). -/
abbrev PairRises (p q : Nat × Nat) : Prop := p.1 < q.1 ∧ p.2 ≤ q.2

theorem PairRises.trans {p q r : Nat × Nat} (h : PairRises p q) (k : PairRises q r) : PairRises p r :=
  ⟨h.1.trans k.1, h.2.trans k.2⟩

/-- CAL_ORDER's check of the pairs is that neighbours rise. -/
theorem pairsRise_iff_isChain (l : List (Nat × Nat)) : pairsRise l = true ↔ l.IsChain PairRises := by
  induction l with
  | nil => simp [pairsRise]
  | cons p l ih =>
    cases l with
    | nil => simp [pairsRise]
    | cons q rest => simp only [pairsRise, Bool.and_eq_true, decide_eq_true_eq, List.isChain_cons_cons, ih]

/-- CAL_ORDER's check of the pairs is that any two rise. -/
theorem pairsRise_iff_pairwise (l : List (Nat × Nat)) : pairsRise l = true ↔ l.Pairwise PairRises := by
  rw [pairsRise_iff_isChain]
  have : IsTrans (Nat × Nat) PairRises := ⟨fun _ _ _ => PairRises.trans⟩
  exact List.isChain_iff_pairwise

/-- Neighbours of a list, in the words of the claims. -/
theorem isChain_iff_infix {R : Nat × Nat → Nat × Nat → Prop} (l : List (Nat × Nat)) :
    l.IsChain R ↔ ∀ p q, [p, q] <:+: l → R p q := by
  rw [List.isChain_iff_forall_rel_of_append_cons_cons]
  constructor
  · rintro h p q ⟨pre, post, e⟩
    exact h (l₁ := pre) (l₂ := post) (by simpa using e.symm)
  · rintro h p q pre post e
    exact h p q ⟨pre, post, by simpa using e.symm⟩

/-- The first pair is always present. -/
theorem PointFields.pairs_eq_cons (f : PointFields) : ∃ rest, f.pairs = (f.raw1, f.val1) :: rest := ⟨_, rfl⟩

theorem PointFields.pairs_ne_nil (f : PointFields) : f.pairs ≠ [] := by simp [PointFields.pairs]

theorem PointFields.first_mem_pairs (f : PointFields) : (f.raw1, f.val1) ∈ f.pairs := by simp [PointFields.pairs]

/-- The last calibration pair that is present. -/
def PointFields.lastPair (f : PointFields) : Nat × Nat := f.pairs.getLastD (f.raw2, f.val2)

theorem PointFields.lastPair_eq (f : PointFields) : f.lastPair = f.pairs.getLast f.pairs_ne_nil := by
  rw [PointFields.lastPair, List.getLastD_eq_getLast?, List.getLast?_eq_some_getLast f.pairs_ne_nil]
  rfl

theorem PointFields.lastPair_mem (f : PointFields) : f.lastPair ∈ f.pairs := by
  rw [f.lastPair_eq]; exact List.getLast_mem _

theorem PointFields.lastPair_value (f : PointFields) : f.lastPair.2 = f.lastValue := rfl

/-- In rising pairs every pair is the first or rises from it. -/
theorem PointFields.first_le {f : PointFields} (h : pairsRise f.pairs = true) {p : Nat × Nat} (hp : p ∈ f.pairs) :
    f.raw1 ≤ p.1 ∧ f.val1 ≤ p.2 := by
  obtain ⟨rest, e⟩ := f.pairs_eq_cons
  rw [pairsRise_iff_pairwise, e, List.pairwise_cons] at h
  rw [e, List.mem_cons] at hp
  rcases hp with rfl | hp
  · exact ⟨le_rfl, le_rfl⟩
  · exact ⟨(h.1 p hp).1.le, (h.1 p hp).2⟩

/-- In rising pairs every pair is the last or rises to it. -/
theorem PointFields.le_lastPair {f : PointFields} (h : pairsRise f.pairs = true) {p : Nat × Nat} (hp : p ∈ f.pairs) :
    p.1 ≤ f.lastPair.1 ∧ p.2 ≤ f.lastPair.2 := by
  rw [pairsRise_iff_pairwise] at h
  rw [f.lastPair_eq]
  rw [← List.dropLast_append_getLast f.pairs_ne_nil, List.pairwise_append] at h
  rw [← List.dropLast_append_getLast f.pairs_ne_nil, List.mem_append] at hp
  rcases hp with hp | hp
  · have := h.2.2 p hp _ (List.mem_singleton.2 rfl)
    exact ⟨this.1.le, this.2⟩
  · rw [List.mem_singleton.1 hp]; exact ⟨le_rfl, le_rfl⟩

/-- The reading between two pairs lies between their values. -/
theorem interpolate_between {raw r1 v1 r2 v2 : Nat} (hr : raw < r2) (h1 : r1 ≤ raw) (hv : v1 ≤ v2) :
    v1 ≤ interpolate raw r1 v1 r2 v2 ∧ interpolate raw r1 v1 r2 v2 ≤ v2 := by
  have hnum : (raw - r1) * (v2 - v1) ≤ (r2 - r1) * (v2 - v1) := Nat.mul_le_mul_right _ (by omega)
  have hden : 0 < r2 - r1 := by omega
  have hquot : (2 * ((raw - r1) * (v2 - v1)) + (r2 - r1)) / (2 * (r2 - r1)) ≤ v2 - v1 := by
    refine Nat.le_of_lt_succ ((Nat.div_lt_iff_lt_mul (by omega)).2 ?_)
    calc 2 * ((raw - r1) * (v2 - v1)) + (r2 - r1)
        ≤ 2 * ((r2 - r1) * (v2 - v1)) + (r2 - r1) := by omega
      _ < 2 * ((r2 - r1) * (v2 - v1)) + 2 * (r2 - r1) := by omega
      _ = (v2 - v1 + 1) * (2 * (r2 - r1)) := by ring
  exact ⟨Nat.le_add_right _ _, (Nat.add_le_add_left hquot v1).trans (by omega)⟩

/-- The reading along rising pairs lies between the first and the last value, whatever the raw count. -/
theorem alongPairs_between (raw : Nat) (p : Nat × Nat) (l : List (Nat × Nat)) (h : (p :: l).IsChain PairRises) :
    p.2 ≤ alongPairs raw (p :: l) ∧ alongPairs raw (p :: l) ≤ ((p :: l).getLast (by simp)).2 := by
  induction l generalizing p with
  | nil => simp [alongPairs]
  | cons q rest ih =>
    obtain ⟨hpq, hrest⟩ := List.isChain_cons_cons.1 h
    obtain ⟨hlow, hhigh⟩ := ih q hrest
    rw [List.getLast_cons (by simp)]
    have hq : q.2 ≤ ((q :: rest).getLast (by simp)).2 := hlow.trans hhigh
    unfold alongPairs
    split
    · exact ⟨le_rfl, hpq.2.trans hq⟩
    · split
      · rename_i h1 h2
        have := interpolate_between h2 (Nat.le_of_not_le h1) hpq.2
        exact ⟨this.1, this.2.trans hq⟩
      · exact ⟨hpq.2.trans hlow, hhigh⟩

/-- The reading at a pair's raw count is the pair's value. -/
theorem alongPairs_at {l : List (Nat × Nat)} (h : l.Pairwise PairRises) {p : Nat × Nat} (hp : p ∈ l) :
    alongPairs p.1 l = p.2 := by
  induction l with
  | nil => cases hp
  | cons q l ih =>
    obtain ⟨hq, hl⟩ := List.pairwise_cons.1 h
    cases l with
    | nil => simp_all [alongPairs]
    | cons r rest =>
      rw [List.mem_cons] at hp
      unfold alongPairs
      rcases hp with rfl | hp
      · simp
      · have hr : r.1 ≤ p.1 := by
          rcases List.mem_cons.1 hp with rfl | hp'
          · exact le_rfl
          · exact (List.pairwise_cons.1 hl).1 p hp' |>.1.le
        rw [if_neg (Nat.not_le.2 (hq p hp).1), if_neg (Nat.not_lt.2 hr)]
        exact ih hl hp

/-- The reading strictly inside a segment is the rounded point of the segment. -/
theorem alongPairs_inside {l : List (Nat × Nat)} (h : l.Pairwise PairRises) {p q : Nat × Nat} {raw : Nat}
    (hs : [p, q] <:+: l) (hp : p.1 < raw) (hq : raw < q.1) : alongPairs raw l = interpolate raw p.1 p.2 q.1 q.2 := by
  induction l with
  | nil => simp at hs
  | cons a l ih =>
    obtain ⟨ha, hl⟩ := List.pairwise_cons.1 h
    cases l with
    | nil => have := hs.length_le; simp at this
    | cons b rest =>
      unfold alongPairs
      rcases List.infix_cons_iff.1 hs with hpre | hin
      · obtain ⟨rfl, rfl⟩ : p = a ∧ q = b := by simpa using hpre
        rw [if_neg (Nat.not_le.2 hp), if_pos hq]
      · have hpm : p ∈ b :: rest := hin.subset (by simp)
        have hb : b.1 ≤ p.1 := by
          rcases List.mem_cons.1 hpm with rfl | hp'
          · exact le_rfl
          · exact ((List.pairwise_cons.1 hl).1 p hp').1.le
        have hab := (ha p hpm).1
        rw [if_neg (by omega), if_neg (by omega)]
        exact ih hl hin

/-- A raw count between the first and the last pair is a pair's, or lies in one segment and no other (R13). -/
theorem exists_segment {l : List (Nat × Nat)} (h : l.Pairwise PairRises) {raw : Nat} (hlow : ∃ p ∈ l, p.1 ≤ raw)
    (hhigh : ∃ p ∈ l, raw ≤ p.1) :
    (∃ p ∈ l, p.1 = raw) ∨ ∃! pq : (Nat × Nat) × (Nat × Nat), [pq.1, pq.2] <:+: l ∧ pq.1.1 < raw ∧ raw < pq.2.1 := by
  induction l with
  | nil => obtain ⟨p, hp, -⟩ := hlow; cases hp
  | cons a l ih =>
    obtain ⟨ha, hl⟩ := List.pairwise_cons.1 h
    by_cases hmem : ∃ p ∈ a :: l, p.1 = raw
    · exact .inl hmem
    refine .inr ?_
    have hne : ∀ p ∈ a :: l, p.1 ≠ raw := fun p hp e => hmem ⟨p, hp, e⟩
    have ha1 : a.1 < raw := by
      refine lt_of_le_of_ne ?_ (hne a (by simp))
      obtain ⟨p, hp, hle⟩ := hlow
      rcases List.mem_cons.1 hp with rfl | hp
      · exact hle
      · exact (ha p hp).1.le.trans hle
    obtain ⟨top, htop, hraw⟩ := hhigh
    have htopl : top ∈ l := by
      rcases List.mem_cons.1 htop with rfl | htop
      · omega
      · exact htop
    cases l with
    | nil => cases htopl
    | cons b rest =>
      by_cases hb : raw < b.1
      · refine ⟨(a, b), ⟨⟨[], rest, rfl⟩, ha1, hb⟩, ?_⟩
        rintro ⟨p, q⟩ ⟨hin, hp, hq⟩
        rcases List.infix_cons_iff.1 hin with hpre | hin
        · obtain ⟨rfl, rfl⟩ : p = a ∧ q = b := by simpa using hpre
          rfl
        · have hpm : p ∈ b :: rest := hin.subset (by simp)
          rcases List.mem_cons.1 hpm with rfl | hpr
          · dsimp only at hp; omega
          · have := ((List.pairwise_cons.1 hl).1 p hpr).1
            dsimp only at hp; omega
      · have hb' : b.1 ≤ raw := Nat.le_of_not_lt hb
        rcases ih hl ⟨b, by simp, hb'⟩ ⟨top, htopl, hraw⟩ with ⟨p, hp, e⟩ | ⟨pq, ⟨hin, hp, hq⟩, huniq⟩
        · exact absurd e (hne p (List.mem_cons_of_mem _ hp))
        · refine ⟨pq, ⟨hin.trans (List.suffix_cons a _).isInfix, hp, hq⟩, ?_⟩
          rintro ⟨p, q⟩ ⟨hin', hp', hq'⟩
          rcases List.infix_cons_iff.1 hin' with hpre | hin'
          · obtain ⟨rfl, rfl⟩ : p = a ∧ q = b := by simpa using hpre
            dsimp only at hq'; omega
          · exact huniq (p, q) ⟨hin', hp', hq'⟩

/-- CAL_ORDER, in its two parts (R142). -/
theorem PointFields.calOrder_iff (f : PointFields) :
    f.calOrder = true ↔ (f.raw4 ≠ none → f.raw3 ≠ none) ∧ pairsRise f.pairs = true := by
  unfold PointFields.calOrder
  cases f.raw3 <;> cases f.raw4 <;> simp

/-- A raw count below the first pair (R14). -/
theorem calibrate_below {f : PointFields} {raw : Nat} (h : raw < f.raw1) : calibrate f raw = ⟨f.val1, false, true⟩ := by
  simp [calibrate, h]

/-- A raw count above the last pair (R14). -/
theorem calibrate_above {f : PointFields} {raw : Nat} (hr : pairsRise f.pairs = true) (h : f.lastPair.1 < raw) :
    calibrate f raw = ⟨f.lastValue, true, false⟩ := by
  have h1 := (PointFields.first_le hr f.lastPair_mem).1
  unfold calibrate
  rw [if_neg (by omega)]
  exact if_pos h

/-- A raw count between the first and the last pair (R13). -/
theorem calibrate_within {f : PointFields} {raw : Nat} (hlow : f.raw1 ≤ raw) (hhigh : raw ≤ f.lastPair.1) :
    calibrate f raw = ⟨alongPairs raw f.pairs, false, false⟩ := by
  unfold calibrate
  rw [if_neg (by omega)]
  exact if_neg (Nat.not_lt.2 hhigh)

/-- Every reading lies between the first and the last value (R13, R14). -/
theorem calibrate_between {f : PointFields} (h : f.calOrder = true) (raw : Nat) :
    f.val1 ≤ (calibrate f raw).value ∧ (calibrate f raw).value ≤ f.lastValue := by
  have hr := (f.calOrder_iff.1 h).2
  have hends := (PointFields.first_le hr f.lastPair_mem).2
  by_cases hlow : raw < f.raw1
  · rw [calibrate_below hlow]; exact ⟨le_rfl, hends⟩
  by_cases hhigh : f.lastPair.1 < raw
  · rw [calibrate_above hr hhigh]; exact ⟨hends, le_rfl⟩
  · rw [calibrate_within (Nat.le_of_not_lt hlow) (Nat.le_of_not_lt hhigh), ← f.lastPair_value, f.lastPair_eq]
    exact alongPairs_between raw _ _ ((pairsRise_iff_isChain _).1 hr)

/-- Settles O6, by induction over the calibration pairs. -/
theorem calibrationInterpolates : Obligations.CalibrationInterpolates := by
  unfold Obligations.CalibrationInterpolates
  intro f hcal
  have hr := (f.calOrder_iff.1 hcal).2
  have hpw := (pairsRise_iff_pairwise _).1 hr
  have hsub : ∀ {p}, p ∈ f.pairs → f.raw1 ≤ p.1 ∧ p.1 ≤ f.lastPair.1 := fun hp =>
    ⟨(PointFields.first_le hr hp).1, (PointFields.le_lastPair hr hp).1⟩
  refine ⟨fun p hp => ?_, fun p q raw hin hp hq => ?_, fun raw hlow hhigh => ?_, fun raw => ?_⟩
  · rw [calibrate_within (hsub hp).1 (hsub hp).2]
    exact alongPairs_at hpw hp
  · have hpm : p ∈ f.pairs := hin.subset (by simp)
    have hqm : q ∈ f.pairs := hin.subset (by simp)
    have hpq := (isChain_iff_infix _).1 ((pairsRise_iff_isChain _).1 hr) p q hin
    have heq : (calibrate f raw).value = interpolate raw p.1 p.2 q.1 q.2 := by
      rw [calibrate_within ((hsub hpm).1.trans hp.le) (hq.le.trans (hsub hqm).2)]
      exact alongPairs_inside hpw hin hp hq
    have hb := interpolate_between hq hp.le hpq.2
    exact ⟨heq, heq ▸ hb.1, heq ▸ hb.2⟩
  · exact exists_segment hpw ⟨_, f.first_mem_pairs, hlow⟩ hhigh
  · refine ⟨(calibrate_between hcal raw).1, (calibrate_between hcal raw).2, calibrate_below,
      fun h => calibrate_above hr (h _ f.lastPair_mem), fun hlow ⟨p, hp, hle⟩ => ?_⟩
    rw [calibrate_within hlow (hle.trans (hsub hp).2)]
    exact ⟨rfl, rfl⟩

/-! ## The filter (R15, R16) -/

/-- An accumulator in range that gives up its quotient and takes a reading in range stays in range. -/
theorem filterStep_bounds {D lo hi acc v : Nat} (hD : 0 < D) (hlo : lo ≤ v) (hhi : v ≤ hi) (h1 : lo * D ≤ acc)
    (h2 : acc ≤ hi * D) : lo * D ≤ acc - acc / D + v ∧ acc - acc / D + v ≤ hi * D := by
  obtain ⟨E, rfl⟩ : ∃ E, D = E + 1 := ⟨D - 1, by omega⟩
  have hq : (E + 1) * (acc / (E + 1)) + acc % (E + 1) = acc := Nat.div_add_mod acc (E + 1)
  have hr := Nat.mod_lt acc hD
  have hlow : lo ≤ acc / (E + 1) := (Nat.le_div_iff_mul_le hD).2 h1
  generalize acc / (E + 1) = q at *
  generalize acc % (E + 1) = r at *
  have hleft : acc - q = E * q + r := by
    have : (E + 1) * q = E * q + q := by ring
    omega
  have e1 : lo * (E + 1) = E * lo + lo := by ring
  have e2 : hi * (E + 1) = E * hi + hi := by ring
  have hmul : E * lo ≤ E * q := Nat.mul_le_mul_left E hlow
  refine ⟨by omega, ?_⟩
  rcases Nat.lt_or_ge q hi with hlt | hge
  · have : E * (q + 1) ≤ E * hi := Nat.mul_le_mul_left E hlt
    have : E * (q + 1) = E * q + E := by ring
    omega
  · have : E * hi ≤ E * q := Nat.mul_le_mul_left E hge
    have : (E + 1) * q = E * q + q := by ring
    omega

/-- The accumulator stays in range under a reading in range (R16). -/
theorem filterStep_between {k lo hi acc v : Nat} (hlo : lo ≤ v) (hhi : v ≤ hi) (h1 : lo * 2 ^ k ≤ acc)
    (h2 : acc ≤ hi * 2 ^ k) : lo * 2 ^ k ≤ filterStep k acc v ∧ filterStep k acc v ≤ hi * 2 ^ k :=
  filterStep_bounds (Nat.two_pow_pos k) hlo hhi h1 h2

/-- The accumulator starts in range with a reading in range (R16). -/
theorem filterStart_between {k lo hi v : Nat} (hlo : lo ≤ v) (hhi : v ≤ hi) :
    lo * 2 ^ k ≤ filterStart k v ∧ filterStart k v ≤ hi * 2 ^ k :=
  ⟨Nat.mul_le_mul_right _ hlo, Nat.mul_le_mul_right _ hhi⟩

/-- The filtered reading is the accumulator over 2^k, rounded to the nearest (R15). -/
theorem filterOutput_eq_iff {k acc v : Nat} (h1 : v * 2 ^ k ≤ acc) (h2 : acc ≤ v * 2 ^ k) : filterOutput k acc = v := by
  obtain rfl := le_antisymm h2 h1
  cases k with
  | zero => simp [filterOutput]
  | succ n =>
    have hn := Nat.two_pow_pos n
    simp only [filterOutput, Nat.succ_ne_zero, if_false, Nat.add_sub_cancel]
    rw [Nat.mul_comm, Nat.mul_add_div (Nat.two_pow_pos _), Nat.div_eq_of_lt (by rw [pow_succ]; omega), Nat.add_zero]

theorem le_filterOutput {k lo acc : Nat} (h : lo * 2 ^ k ≤ acc) : lo ≤ filterOutput k acc := by
  unfold filterOutput
  split
  · simp_all
  · exact (Nat.le_div_iff_mul_le (Nat.two_pow_pos k)).2 (h.trans (Nat.le_add_right _ _))

theorem filterOutput_le {k hi acc : Nat} (h : acc ≤ hi * 2 ^ k) : filterOutput k acc ≤ hi := by
  cases k with
  | zero => simpa [filterOutput] using h
  | succ n =>
    have hn := Nat.two_pow_pos n
    simp only [filterOutput, Nat.succ_ne_zero, if_false, Nat.add_sub_cancel]
    refine Nat.le_of_lt_succ ((Nat.div_lt_iff_lt_mul (Nat.two_pow_pos _)).2 ?_)
    calc acc + 2 ^ n ≤ hi * 2 ^ (n + 1) + 2 ^ n := by omega
      _ < hi * 2 ^ (n + 1) + 2 ^ (n + 1) := by rw [pow_succ]; omega
      _ = (hi + 1) * 2 ^ (n + 1) := by ring

/-- A filter that is started reads what it is started with (R15). -/
theorem filterOutput_filterStart (k v : Nat) : filterOutput k (filterStart k v) = v := filterOutput_eq_iff le_rfl le_rfl

/-- A reading leaves the accumulator as it is exactly when it is the accumulator's quotient. -/
theorem filterStep_eq_iff {k acc v : Nat} :
    filterStep k acc v = acc ↔ v * 2 ^ k ≤ acc ∧ acc < v * 2 ^ k + 2 ^ k := by
  have hle : acc / 2 ^ k ≤ acc := Nat.div_le_self _ _
  have hq : filterStep k acc v = acc ↔ acc / 2 ^ k = v := by unfold filterStep; omega
  rw [hq, Nat.div_eq_iff (Nat.two_pow_pos k)]
  have := Nat.two_pow_pos k
  omega

/-- Settles O8: the bounds of an update, of the start and of the filtered reading. -/
theorem filterStaysInRange : Obligations.FilterStaysInRange := by
  unfold Obligations.FilterStaysInRange
  intro k lo hi acc v hlo hhi h1 h2
  exact ⟨filterStep_between hlo hhi h1 h2, ⟨le_filterOutput h1, filterOutput_le h2⟩, filterOutput_filterStart k v,
    filterStep_eq_iff⟩

/-! ## Grading (R17 to R21) -/

/-- A sample supports grade B: it is OVER, or at rise_B, where the point has one (R17). -/
abbrev PointFields.SupportsB (f : PointFields) (ov : Bool) (v : Nat) : Prop := ∃ b, f.riseB = some b ∧ (ov = true ∨ b ≤ v)

/-- The candidate of a sample, by what it supports (R17). -/
theorem candidate_cases (f : PointFields) (ov : Bool) (v : Nat) :
    (f.SupportsB ov v ∧ candidate f ov v = .b)
    ∨ (¬f.SupportsB ov v ∧ (ov = true ∨ f.riseA ≤ v) ∧ candidate f ov v = .a)
    ∨ (¬f.SupportsB ov v ∧ ¬(ov = true ∨ f.riseA ≤ v) ∧ candidate f ov v = .clear) := by
  unfold candidate PointFields.SupportsB
  cases f.riseB with
  | none => by_cases h : ov = true ∨ f.riseA ≤ v <;> simp [h]
  | some b => by_cases hb : ov = true ∨ b ≤ v <;> by_cases h : ov = true ∨ f.riseA ≤ v <;> simp [hb, h]

theorem candidate_eq_b_iff {f : PointFields} {ov : Bool} {v : Nat} : candidate f ov v = .b ↔ f.SupportsB ov v := by
  rcases candidate_cases f ov v with ⟨hb, e⟩ | ⟨hb, -, e⟩ | ⟨hb, -, e⟩ <;> rw [e]
  · exact iff_of_true rfl hb
  · exact iff_of_false nofun hb
  · exact iff_of_false nofun hb

theorem candidate_eq_a_iff {f : PointFields} {ov : Bool} {v : Nat} :
    candidate f ov v = .a ↔ ¬f.SupportsB ov v ∧ (ov = true ∨ f.riseA ≤ v) := by
  rcases candidate_cases f ov v with ⟨hb, e⟩ | ⟨hb, ha, e⟩ | ⟨-, ha, e⟩ <;> rw [e]
  · exact iff_of_false nofun fun h => h.1 hb
  · exact iff_of_true rfl ⟨hb, ha⟩
  · exact iff_of_false nofun fun h => ha h.2

theorem belowFallA_iff {f : PointFields} {ov : Bool} {v : Nat} :
    belowFallA f ov v = true ↔ ov = false ∧ v < f.fallA := by simp [belowFallA]

theorem belowFallB_iff {f : PointFields} {ov : Bool} {v : Nat} :
    belowFallB f ov v = true ↔ ∃ b, f.fallB = some b ∧ ov = false ∧ v < b := by
  unfold belowFallB
  cases f.fallB <;> simp

/-- Settles O7: the candidate by what the sample supports, and each grade's rule in turn. -/
theorem gradeRisesAndFalls : Obligations.GradeRisesAndFalls := by
  unfold Obligations.GradeRisesAndFalls
  intro f ov v run hrun
  have hfull : run + 1 = f.confirm ↔ f.confirm ≤ run + 1 := by omega
  have hmore : run + 1 < f.confirm ↔ ¬f.confirm ≤ run + 1 := by omega
  dsimp only
  simp only [hfull, hmore, ← belowFallA_iff, ← belowFallB_iff]
  refine ⟨candidate_eq_b_iff, candidate_eq_a_iff, ?clear_none, ?clear_run, ?clear_rise, ?a_fall, ?a_run, ?a_rise, ?a_stay,
    ?b_fall, ?b_fallB, ?b_stay⟩
  case clear_none => exact fun hc => if_pos hc
  case clear_run => exact fun hc hr => (if_neg hc).trans (if_neg hr)
  case clear_rise => exact fun hc hr => (if_neg hc).trans (if_pos hr)
  case a_fall => exact fun hl => if_pos hl
  case a_run => exact fun hl hb hr => (if_neg hl).trans ((if_pos hb).trans (if_neg hr))
  case a_rise => exact fun hl hb hr => (if_neg hl).trans ((if_pos hb).trans (if_pos hr))
  case a_stay => exact fun hl hb => (if_neg hl).trans (if_neg hb)
  case b_fall => exact fun hl => if_pos hl
  case b_fallB => exact fun hl hb => (if_neg hl).trans (if_pos hb)
  case b_stay => exact fun hl hb => (if_neg hl).trans (if_neg hb)

/-- The run counter stays below the confirm count (R21). -/
theorem gradeStep_run_lt {f : PointFields} {run : Nat} (h : run < f.confirm) (ov : Bool) (v : Nat) (g : Grade) :
    (gradeStep f ov v g run).2 < f.confirm := by
  have hpos : 0 < f.confirm := by omega
  unfold gradeStep
  dsimp only
  cases g with
  | clear => split_ifs <;> first | exact hpos | (dsimp only; omega)
  | a => split_ifs <;> first | exact hpos | (dsimp only; omega)
  | b => split_ifs <;> exact hpos

/-! ## One sample at its point (R4 to R10) -/

/-- Which samples are valid (R4). -/
theorem classify_valid_iff {f : PointFields} {raw : Nat} {warm sensorFault : Bool} :
    classify f raw warm sensorFault = .valid ↔ sensorFault = false ∧ warm = false ∧ raw < 2 ^ f.width := by
  unfold classify
  cases sensorFault <;> cases warm <;> simp

/-- A point that has counted a sample and kept its raw count, before the sample's class is looked at (R3, R6). -/
def PointDyn.counted (f : PointFields) (d : PointDyn) (raw : Nat) : PointDyn :=
  { d with lastRaw := raw, forwardCount := (forwardStep f.forwardEvery d.forwardCount).1 }

section
variable {f : PointFields} {d : PointDyn} {raw : Nat} {warm sensorFault : Bool}

theorem PointDyn.takeSample_sensorFault (h : classify f raw warm sensorFault = .sensorFault) :
    d.takeSample f raw warm sensorFault = (d.counted f raw).takeSensorFault := by
  unfold PointDyn.takeSample; rw [h]; rfl

theorem PointDyn.takeSample_warmUp (h : classify f raw warm sensorFault = .warmUp) :
    d.takeSample f raw warm sensorFault = (d.counted f raw).takeWarmUp f := by
  unfold PointDyn.takeSample; rw [h]; rfl

theorem PointDyn.takeSample_bad (h : classify f raw warm sensorFault = .bad) :
    d.takeSample f raw warm sensorFault = { d.counted f raw with badCount := satInc d.badCount } := by
  unfold PointDyn.takeSample; rw [h]; rfl

theorem PointDyn.takeSample_valid (h : classify f raw warm sensorFault = .valid) :
    d.takeSample f raw warm sensorFault = (d.counted f raw).takeValid f raw := by
  unfold PointDyn.takeSample; rw [h]; rfl

/-- A sensor-fault sample at a point in AWAIT or LIVE. -/
theorem PointDyn.takeSensorFault_of_not (h : d.state.isFault = false) : d.takeSensorFault = d.enterFault .sensor := by
  simp [PointDyn.takeSensorFault, h]

theorem PointDyn.takeSensorFault_of_fault (h : d.state.isFault = true) : d.takeSensorFault = d := by
  simp [PointDyn.takeSensorFault, h]

/-- A valid sample in LIVE updates the filter and goes on with the grade and the run (R8). -/
theorem PointDyn.takeValid_of_live (h : d.state = .live) :
    d.takeValid f raw =
      let acc := filterStep f.depth d.acc (calibrate f raw).value
      let v := filterOutput f.depth acc
      let g := gradeStep f (calibrate f raw).overMark v d.grade d.run
      { d with
        state := .live, grade := g.1, run := g.2, acc := acc, filtered := v
        overMark := (calibrate f raw).overMark, underMark := (calibrate f raw).underMark, silence := f.silenceTimeout } := by
  simp [PointDyn.takeValid, h]

/-- A valid sample in AWAIT or FAULT starts the filter and the grading afresh (R7, R10). -/
theorem PointDyn.takeValid_of_not_live (h : d.state ≠ .live) :
    d.takeValid f raw =
      let acc := filterStart f.depth (calibrate f raw).value
      let v := filterOutput f.depth acc
      let g := gradeStep f (calibrate f raw).overMark v .clear 0
      { d with
        state := .live, grade := g.1, run := g.2, acc := acc, filtered := v
        overMark := (calibrate f raw).overMark, underMark := (calibrate f raw).underMark, silence := f.silenceTimeout } := by
  simp [PointDyn.takeValid, h]

/-- A sample that is not valid leaves the filter and the marks alone (R8 to R10). -/
theorem PointDyn.takeSample_keeps_filter (h : classify f raw warm sensorFault ≠ .valid) :
    (d.takeSample f raw warm sensorFault).acc = d.acc ∧ (d.takeSample f raw warm sensorFault).filtered = d.filtered
      ∧ (d.takeSample f raw warm sensorFault).overMark = d.overMark
      ∧ (d.takeSample f raw warm sensorFault).underMark = d.underMark := by
  cases hc : classify f raw warm sensorFault with
  | valid => exact absurd hc h
  | bad => rw [PointDyn.takeSample_bad hc]; exact ⟨rfl, rfl, rfl, rfl⟩
  | warmUp =>
    rw [PointDyn.takeSample_warmUp hc]; unfold PointDyn.takeWarmUp; split <;> exact ⟨rfl, rfl, rfl, rfl⟩
  | sensorFault =>
    rw [PointDyn.takeSample_sensorFault hc]; unfold PointDyn.takeSensorFault; split <;> exact ⟨rfl, rfl, rfl, rfl⟩

/-- Every sample is kept as the last raw count, and counts towards forward every (R3, R6). -/
theorem PointDyn.takeSample_counts :
    (d.takeSample f raw warm sensorFault).lastRaw = raw
      ∧ (d.takeSample f raw warm sensorFault).forwardCount = (forwardStep f.forwardEvery d.forwardCount).1 := by
  cases hc : classify f raw warm sensorFault with
  | valid => rw [PointDyn.takeSample_valid hc]; exact ⟨rfl, rfl⟩
  | bad => rw [PointDyn.takeSample_bad hc]; exact ⟨rfl, rfl⟩
  | warmUp => rw [PointDyn.takeSample_warmUp hc]; unfold PointDyn.takeWarmUp; split <;> exact ⟨rfl, rfl⟩
  | sensorFault => rw [PointDyn.takeSample_sensorFault hc]; unfold PointDyn.takeSensorFault; split <;> exact ⟨rfl, rfl⟩

/-- Only a bad sample counts as one (R5). -/
theorem PointDyn.takeSample_keeps_badCount (h : classify f raw warm sensorFault ≠ .bad) :
    (d.takeSample f raw warm sensorFault).badCount = d.badCount := by
  cases hc : classify f raw warm sensorFault with
  | valid => rw [PointDyn.takeSample_valid hc]; rfl
  | bad => exact absurd hc h
  | warmUp => rw [PointDyn.takeSample_warmUp hc]; unfold PointDyn.takeWarmUp; split <;> rfl
  | sensorFault => rw [PointDyn.takeSample_sensorFault hc]; unfold PointDyn.takeSensorFault; split <;> rfl

end

/-- Settles O5, class by class of the sample. -/
theorem filterFollowsValidSamples : Obligations.FilterFollowsValidSamples := by
  unfold Obligations.FilterFollowsValidSamples
  intro f d raw warm sensorFault
  refine ⟨PointDyn.takeSample_counts.1, classify_valid_iff, fun hc => ?_, PointDyn.takeSample_keeps_filter, fun hc => ?_,
    fun hc => ?_, fun hc hf => ?_, fun hc hf => ?_, PointDyn.takeSample_keeps_badCount⟩
  · rw [PointDyn.takeSample_valid hc]
    by_cases hl : d.state = .live
    · rw [PointDyn.takeValid_of_live (d := d.counted f raw) hl]
      refine ⟨rfl, rfl, (if_pos hl).symm, rfl, fun h => absurd hl h, fun hk => ?_, rfl, rfl, fun _ => rfl,
        fun h => absurd hl h⟩
      simp [hk, filterStep, filterOutput, PointDyn.counted]
    · rw [PointDyn.takeValid_of_not_live (d := d.counted f raw) hl]
      have hv := filterOutput_filterStart f.depth (calibrate f raw).value
      exact ⟨rfl, rfl, (if_neg hl).symm, rfl, fun _ => hv, fun _ => hv, rfl, rfl, fun h => absurd h hl, fun _ => rfl⟩
  · rw [PointDyn.takeSample_bad hc]; exact ⟨rfl, rfl, rfl, rfl, rfl⟩
  · rw [PointDyn.takeSample_warmUp hc, PointDyn.takeWarmUp]
    cases hf : d.state.isFault <;> simp [PointDyn.counted, hf, PointFields.silenceTimeout]
  · rw [PointDyn.takeSample_sensorFault hc, PointDyn.takeSensorFault_of_fault (d := d.counted f raw) hf]
    exact ⟨rfl, rfl, rfl, rfl⟩
  · rw [PointDyn.takeSample_sensorFault hc, PointDyn.takeSensorFault_of_not (d := d.counted f raw) hf]
    exact ⟨rfl, rfl, rfl, rfl⟩

end Sys2Proof.Machine

namespace Sys2Proof.Machine

/-! ## Entries of a table after one of them is set -/

/-- An entry of a table once one of them is set. -/
theorem vector_set_get {α : Type} {n : Nat} (v : Vector α n) (i j : Fin n) (x : α) :
    (v.set i x)[j] = if i = j then x else v[j] := by
  simp only [Fin.getElem_fin, Vector.getElem_set, Fin.ext_iff]

theorem vector_set_self {α : Type} {n : Nat} (v : Vector α n) (i : Fin n) (x : α) : (v.set i x)[i] = x := by
  rw [vector_set_get, if_pos rfl]

theorem vector_set_ne {α : Type} {n : Nat} (v : Vector α n) {i j : Fin n} (x : α) (h : j ≠ i) :
    (v.set i x)[j] = v[j] := by rw [vector_set_get, if_neg (Ne.symm h)]

theorem vector_ofFn_get {α : Type} {n : Nat} (f : Fin n → α) (i : Fin n) : (Vector.ofFn f)[i] = f i := by simp

/-! ## An event at one point (R22, R168) -/

/-- The point's trouble slot is set where R168 says. -/
def State.pointMarked (s : State) (i : Fin 64) (old new : PointState) : State :=
  match pointTrouble old new with
  | some raised => s.markPoint i raised
  | none => s

section
variable {s t : State} {i : Fin 64} {f : PointFields} {d : PointDyn} {g : PointFields → PointDyn → PointDyn}

/-- An event at an IN_SERVICE point: its state, its trouble slot, and its zone when the contribution changes. -/
theorem State.updatePoint_of (h : s.points[i] = .inService f d) :
    s.updatePoint i g =
      if contribution f d = contribution f (g f d) then
        (s.setPoint i (.inService f (g f d))).pointMarked i d.state (g f d).state
      else ((s.setPoint i (.inService f (g f d))).pointMarked i d.state (g f d).state).reformZone f.zone := by
  unfold State.updatePoint
  rw [h]
  rfl

/-- An event at a point that is not IN_SERVICE changes nothing. -/
theorem State.updatePoint_of_not (h : s.points[i].isInService = false) : s.updatePoint i g = s := by
  unfold State.updatePoint
  split
  · rename_i e; rw [e] at h; cases h
  · rfl

end

/-! ## What leaves the machines of points and outputs alone -/

/-- Every point and every output of `t` is as in `s`. -/
abbrev State.SameMachines (s t : State) : Prop := t.points = s.points ∧ t.outputs = s.outputs

section
variable {s t u : State}

theorem State.SameMachines.refl (s : State) : s.SameMachines s := ⟨rfl, rfl⟩

theorem State.SameMachines.trans (h : s.SameMachines t) (k : t.SameMachines u) : s.SameMachines u :=
  ⟨k.1.trans h.1, k.2.trans h.2⟩

theorem State.SameMachines.sound (h : s.SameMachines t) (hs : s.MachinesSound) : t.MachinesSound := by
  unfold State.MachinesSound; rw [h.1, h.2]; exact hs

theorem State.OnlyLines.sameMachines (h : s.OnlyLines t) : s.SameMachines t := by
  unfold State.OnlyLines at h; rw [h]; exact ⟨rfl, rfl⟩

theorem State.SameMachines.foldl {α : Type} {g : State → α → State} (hg : ∀ s a, State.SameMachines s (g s a))
    (l : List α) (s : State) : s.SameMachines (l.foldl g s) := by
  induction l generalizing s with
  | nil => exact .refl s
  | cons a l ih => exact (hg s a).trans (ih _)

theorem State.setPort_sameMachines (s : State) (p : PortId) (v : Port) : s.SameMachines (s.setPort p v) :=
  ⟨s.setPort_points p v, s.setPort_outputs p v⟩

theorem State.updateZone_sameMachines (s : State) (z : Fin 8) (g : ZoneDyn → ZoneDyn) :
    s.SameMachines (s.updateZone z g) := by rw [s.updateZone_frame z g]; exact ⟨rfl, rfl⟩

theorem State.reformZone_sameMachines (s : State) (z : Fin 8) : s.SameMachines (s.reformZone z) :=
  s.updateZone_sameMachines z _

theorem State.pointMarked_sameMachines (s : State) (i : Fin 64) (old new : PointState) :
    s.SameMachines (s.pointMarked i old new) := by unfold State.pointMarked; split <;> exact ⟨rfl, rfl⟩

theorem State.panelAlarm_sameMachines (s : State) (mask : Byte) : s.SameMachines (s.panelAlarm mask) := by
  refine .foldl (fun s z => ?_) _ s
  split
  · exact s.updateZone_sameMachines z _
  · exact .refl s

theorem State.panelNormal_sameMachines (s : State) (mask : Byte) : s.SameMachines (s.panelNormal mask) := by
  refine .foldl (fun s z => ?_) _ s
  split
  · exact s.updateZone_sameMachines z _
  · exact .refl s

theorem State.receivePanel_sameMachines (s : State) (f : Frame) : s.SameMachines (s.receivePanel f) := by
  unfold State.receivePanel
  split
  · split
    · exact s.setPort_sameMachines _ _
    · split
      · exact s.panelAlarm_sameMachines _
      · split
        · exact s.panelNormal_sameMachines _
        · exact ⟨rfl, rfl⟩
  · exact ⟨rfl, rfl⟩

theorem State.receiveTime_sameMachines (s : State) (f : Frame) : s.SameMachines (s.receiveTime f) := by
  unfold State.receiveTime State.takeTime
  split
  · split <;> exact ⟨rfl, rfl⟩
  · exact s.setPort_sameMachines _ _

theorem State.passDown_sameMachines (s : State) (f : Frame) : s.SameMachines (s.passDown f) := by
  unfold State.passDown
  split
  · split
    · exact ⟨rfl, rfl⟩
    · exact (s.forwardDown_onlyLines f).sameMachines
  · exact .refl s

theorem State.wrapClock_sameMachines (s : State) (j : Fin 2) : s.SameMachines (s.wrapClock j) := by
  have hadopt (u : State) (z : Fin 8) :
      u.SameMachines (if zoneClock u.zones[z] = some j then u.setZone z (adoptZone u.zones[z]) else u) := by
    split <;> exact ⟨rfl, rfl⟩
  unfold State.wrapClock
  exact State.SameMachines.trans (t := s.setClock j s.clocks[j].wrapped) ⟨rfl, rfl⟩ (.foldl hadopt _ _)

theorem State.advanceClock_sameMachines (s : State) (j : Fin 2) : s.SameMachines (s.advanceClock j) := by
  unfold State.advanceClock
  dsimp only
  split
  · exact s.wrapClock_sameMachines j
  · exact ⟨rfl, rfl⟩

theorem State.minuteExpired_sameMachines (s : State) : s.SameMachines s.minuteExpired :=
  State.SameMachines.trans (t := (s.setMinuteTimer minuteQuarters).setDayClock (s.dayClock.map DayClock.next)) ⟨rfl, rfl⟩
    ((State.advanceClock_sameMachines _ 0).trans (State.advanceClock_sameMachines _ 1))

theorem State.deliverZones_sameMachines (s : State) (demands : Vector Nat 8) (shares : Vector (Vector Nat 4) 8) :
    s.SameMachines (s.deliverZones demands shares) := .foldl (fun s z => s.updateZone_sameMachines z _) _ s

theorem State.queueDrives_sameMachines (s : State) : s.SameMachines s.queueDrives :=
  .foldl (fun s i => (s.queueDrive_onlyLines i).sameMachines) _ s

theorem State.setSlot_sameMachines (s : State) (id : SlotId) (x : Slot) : s.SameMachines (s.setSlot id x) := by
  cases id <;> exact ⟨rfl, rfl⟩

theorem State.reportTransmitted_sameMachines (s : State) (r : ReportOffer) : s.SameMachines (s.reportTransmitted r) := by
  unfold State.reportTransmitted
  split
  · exact s.setSlot_sameMachines _ _
  · exact .refl s

theorem State.reportAbandoned_sameMachines (s : State) (r : ReportOffer) : s.SameMachines (s.reportAbandoned r) := by
  unfold State.reportAbandoned
  split
  · exact s.setSlot_sameMachines _ _
  · exact .refl s

theorem State.breakSave_sameMachines (s : State) : s.SameMachines s.breakSave := by
  unfold State.breakSave; split <;> exact ⟨rfl, rfl⟩

theorem State.saveCompleted_sameMachines (s : State) (matched : Bool) : s.SameMachines (s.saveCompleted matched) := by
  unfold State.saveCompleted
  split
  · exact .refl s
  · have hmark (u : State) (p : Prop) [Decidable p] : u.SameMachines (if p then u else u.markDevice) := by
      split <;> exact ⟨rfl, rfl⟩
    have hstored (x : StoreContent) (y : StoreState) :
        s.SameMachines (((s.setSave none).setStore x).setStoreState y) := ⟨rfl, rfl⟩
    dsimp only
    split
    · exact ((hstored _ _).trans (hmark _ _)).trans (State.queueReply_onlyLines _ _ _ _ _ _ _).sameMachines
    · exact ((hstored _ _).trans (hmark _ _)).trans (State.queueReply_onlyLines _ _ _ _ _ _ _).sameMachines

end

/-! ## A table whose entry is set with a sound machine -/

section
variable {s : State}

theorem State.setPoint_machines {i : Fin 64} {e : Entry PointFields PointDyn} (hs : s.MachinesSound)
    (he : pointSound e = true) : (s.setPoint i e).MachinesSound := by
  refine ⟨fun j => ?_, hs.2⟩
  rw [State.setPoint_points, vector_set_get]
  split
  · exact he
  · exact hs.1 j

theorem State.setOutput_machines {i : Fin 24} {e : Entry OutputFields OutputDyn} (hs : s.MachinesSound)
    (he : outputSound e = true) : (s.setOutput i e).MachinesSound := by
  refine ⟨hs.1, fun j => ?_⟩
  rw [State.setOutput_outputs, vector_set_get]
  split
  · exact he
  · exact hs.2 j

theorem State.MachinesSound.point {i : Fin 64} {f : PointFields} {d : PointDyn} (hs : s.MachinesSound)
    (h : s.points[i] = .inService f d) : d.Sound f := by
  have := hs.1 i
  rw [h] at this
  exact of_decide_eq_true this

theorem State.MachinesSound.fan {i : Fin 24} {f : OutputFields} {d : FanDyn} (hs : s.MachinesSound)
    (h : s.outputs[i] = .inService f (.fan d)) : f.kind = .fan ∧ d.Sound := by
  have := hs.2 i
  rw [h] at this
  exact of_decide_eq_true this

theorem State.MachinesSound.damper {i : Fin 24} {f : OutputFields} {d : DamperDyn} (hs : s.MachinesSound)
    (h : s.outputs[i] = .inService f (.damper d)) : f.kind = .damper ∧ d.Sound := by
  have := hs.2 i
  rw [h] at this
  exact of_decide_eq_true this

/-- An event at a point keeps every machine sound when it keeps the point's own. -/
theorem State.updatePoint_machines {i : Fin 64} {g : PointFields → PointDyn → PointDyn} (hs : s.MachinesSound)
    (hg : ∀ f d, s.points[i] = .inService f d → d.Sound f → (g f d).Sound f) : (s.updatePoint i g).MachinesSound := by
  cases h : s.points[i] with
  | vacant | draft f => rw [State.updatePoint_of_not (by rw [h]; rfl)]; exact hs
  | inService f d =>
    have hset : (s.setPoint i (.inService f (g f d))).MachinesSound :=
      State.setPoint_machines hs (decide_eq_true (hg f d h (hs.point h)))
    have hmark := (State.pointMarked_sameMachines _ i d.state (g f d).state).sound hset
    rw [State.updatePoint_of h]
    split
    · exact hmark
    · exact (State.reformZone_sameMachines _ _).sound hmark

/-- An event at a fan keeps every machine sound when it keeps the fan. -/
theorem State.updateFan_machines {i : Fin 24} {g : OutputFields → FanDyn → FanDyn} (hs : s.MachinesSound)
    (hg : ∀ f d, s.outputs[i] = .inService f (.fan d) → d.Sound → (g f d).Sound) : (s.updateFan i g).MachinesSound := by
  cases h : s.fan? i with
  | none => rw [State.updateFan_of_not h]; exact hs
  | some d =>
    unfold State.fan? at h
    split at h
    · rename_i f d' e
      obtain ⟨hk, hd⟩ := hs.fan e
      have hset : (s.setOutput i (.inService f (.fan (g f d')))).MachinesSound :=
        State.setOutput_machines hs (decide_eq_true ⟨hk, hg f d' e hd⟩)
      rw [State.updateFan_of e]
      split
      · exact State.SameMachines.sound ⟨rfl, rfl⟩ hset
      · exact hset
    · cases h

/-- An event at a damper keeps every machine sound when it keeps the damper. -/
theorem State.updateDamper_machines {i : Fin 24} {g : OutputFields → DamperDyn → DamperDyn} (hs : s.MachinesSound)
    (hg : ∀ f d, s.outputs[i] = .inService f (.damper d) → d.Sound → (g f d).Sound) :
    (s.updateDamper i g).MachinesSound := by
  cases h : s.damper? i with
  | none => rw [State.updateDamper_of_not h]; exact hs
  | some d =>
    unfold State.damper? at h
    split at h
    · rename_i f d' e
      obtain ⟨hk, hd⟩ := hs.damper e
      have hset : (s.setOutput i (.inService f (.damper (g f d')))).MachinesSound :=
        State.setOutput_machines hs (decide_eq_true ⟨hk, hg f d' e hd⟩)
      rw [State.updateDamper_of e]
      split
      · exact State.SameMachines.sound ⟨rfl, rfl⟩ hset
      · exact hset
    · cases h

end

/-! ## Points (R3, R9, R16, R21) -/

section
variable {f : PointFields} {d : PointDyn}

/-- A point as it enters service or is reset (R3). -/
theorem PointFields.initial_sound (h : 1 ≤ f.confirm) : f.initial.Sound f := by
  exact ⟨rfl, fun _ => ⟨rfl, rfl⟩, h, by simp [PointFields.initial], Nat.zero_le _, Nat.zero_le _, fun k => by cases k⟩

theorem PointDyn.enterFault_sound (h : d.Sound f) (r : PointFault) : (d.enterFault r).Sound f := by
  obtain ⟨-, -, hrun, hfwd, hacc, hfil, -⟩ := h
  exact ⟨rfl, fun _ => ⟨rfl, rfl⟩, Nat.zero_lt_of_lt hrun, hfwd, hacc, hfil, fun k => by cases k⟩

/-- The forward counter stays below forward every (R6). -/
theorem forwardStep_lt {every count : Nat} (h : count < max 1 every) : (forwardStep every count).1 < max 1 every := by
  unfold forwardStep
  split
  · exact h
  · split <;> dsimp only <;> omega

theorem PointDyn.counted_sound (h : d.Sound f) (raw : Nat) : (d.counted f raw).Sound f := by
  obtain ⟨hs, hg, hrun, hfwd, hrest⟩ := h
  exact ⟨hs, hg, hrun, forwardStep_lt hfwd, hrest⟩

/-- A valid sample keeps the filter within the calibration values, in LIVE and as it starts (R15, R16). -/
theorem PointDyn.takeValid_sound (hcal : f.calOrder = true) (h : d.Sound f) (raw : Nat) : (d.takeValid f raw).Sound f := by
  obtain ⟨-, -, hrun, hfwd, hacc, -, hlive⟩ := h
  obtain ⟨hlo, hhi⟩ := calibrate_between hcal raw
  have sound (acc run : Nat) (g : Grade) (hb : f.val1 * 2 ^ f.depth ≤ acc ∧ acc ≤ f.lastValue * 2 ^ f.depth)
      (hr : run < f.confirm) (ov un : Bool) : PointDyn.Sound f
        { d with
          state := .live, grade := g, run := run, acc := acc, filtered := filterOutput f.depth acc
          overMark := ov, underMark := un, silence := f.silenceTimeout } :=
    ⟨rfl, fun k => absurd rfl k, hr, hfwd, hb.2, filterOutput_le hb.2, fun _ => ⟨hb.1, le_filterOutput hb.1⟩⟩
  by_cases hl : d.state = .live
  · rw [PointDyn.takeValid_of_live hl]
    exact sound _ _ _ (filterStep_between hlo hhi (hlive hl).1 hacc) (gradeStep_run_lt hrun _ _ _) _ _
  · rw [PointDyn.takeValid_of_not_live hl]
    exact sound _ _ _ (filterStart_between hlo hhi) (gradeStep_run_lt (by omega) _ _ _) _ _

theorem PointDyn.takeSample_sound (hcal : f.calOrder = true) (h : d.Sound f) (raw : Nat) (warm sensorFault : Bool) :
    (d.takeSample f raw warm sensorFault).Sound f := by
  have hc := PointDyn.counted_sound h raw
  cases k : classify f raw warm sensorFault with
  | valid => rw [PointDyn.takeSample_valid k]; exact PointDyn.takeValid_sound hcal hc raw
  | bad => rw [PointDyn.takeSample_bad k]; exact hc
  | warmUp =>
    rw [PointDyn.takeSample_warmUp k, PointDyn.takeWarmUp]
    split
    · exact hc
    · rename_i hf
      exact ⟨by simp [PointFields.silenceTimeout, timerOf, hf], hc.2⟩
  | sensorFault =>
    rw [PointDyn.takeSample_sensorFault k, PointDyn.takeSensorFault]
    split
    · exact hc
    · exact PointDyn.enterFault_sound hc _

@[simp] theorem Timer.tick_isSome (t : Timer) : (Timer.tick t).isSome = t.isSome := by cases t <;> rfl

theorem PointDyn.tick_sound (h : d.Sound f) : d.tick.Sound f := ⟨(Timer.tick_isSome _).trans h.1, h.2⟩

end

/-! ## Fans (R97) -/

section
variable {f : OutputFields} {d : FanDyn}

theorem FanDyn.initial_sound : FanDyn.initial.Sound := by decide

theorem FanDyn.enterFault_sound (h : d.Sound) (r : FanFault) : (d.enterFault f r).Sound := by
  obtain ⟨-, -, -, -, -, -, -, -, hretry⟩ := h
  simp [FanDyn.Sound, FanDyn.enterFault, FanDyn.stopTimers, FanState.isFault, timerOf, belowLimit, hretry]

theorem FanDyn.toStopped_sound (h : d.Sound) (hs : d.state ≠ .running) : d.toStopped.Sound := by
  obtain ⟨-, -, -, -, -, -, hbelow, -, hretry⟩ := h
  simp [FanDyn.Sound, FanDyn.toStopped, FanDyn.stopTimers, FanState.isFault, belowLimit, hretry, hbelow hs]

theorem FanDyn.toStarting_sound (h : d.Sound) (hs : d.state ≠ .running) : (d.toStarting f).Sound := by
  obtain ⟨-, -, -, -, -, -, hbelow, -, hretry⟩ := h
  simp [FanDyn.Sound, FanDyn.toStarting, FanDyn.stopTimers, FanState.isFault, timerOf, belowLimit, hretry, hbelow hs]

theorem FanDyn.toStopping_sound (h : d.Sound) : (d.toStopping f).Sound := by
  obtain ⟨-, -, -, -, -, -, -, -, hretry⟩ := h
  simp [FanDyn.Sound, FanDyn.toStopping, FanDyn.stopTimers, FanState.isFault, timerOf, belowLimit, hretry]

theorem FanDyn.toPathWait_sound (h : d.Sound) (hs : d.state ≠ .running) : (d.toPathWait f).Sound := by
  obtain ⟨-, -, -, -, -, -, hbelow, -, hretry⟩ := h
  simp [FanDyn.Sound, FanDyn.toPathWait, FanDyn.stopTimers, FanState.isFault, timerOf, belowLimit, hretry, hbelow hs]

theorem FanDyn.toHand_sound (h : d.Sound) : d.toHand.Sound := by
  unfold FanDyn.toHand
  split
  · exact h
  · obtain ⟨-, -, -, -, -, -, -, -, hretry⟩ := h
    simp [FanDyn.Sound, FanDyn.stopTimers, FanState.isFault, belowLimit, hretry]

theorem FanDyn.fromHand_sound (h : d.Sound) : d.fromHand.Sound := by
  unfold FanDyn.fromHand
  split
  · rename_i hh; exact FanDyn.toStopped_sound h (by simp [hh])
  · exact h

theorem FanDyn.deliver_sound (h : d.Sound) (r : FanResult) : (d.deliver f r).Sound := by
  have h' : FanDyn.Sound { d with flow := r.flow, q := r.q, run := r.run, hold := r.hold } := h
  unfold FanDyn.deliver
  dsimp only
  split
  · rename_i hs _; exact FanDyn.toPathWait_sound h' (by simp [hs])
  · rename_i hs _; exact FanDyn.toStopped_sound h' (by simp [hs])
  · exact FanDyn.toStopping_sound h'
  · exact FanDyn.toStopping_sound h'
  · rename_i hs _; exact FanDyn.toStarting_sound h' (by simp [hs])
  · exact h'

/-- A STATUS at a fan (R103 to R106): proof of the start, the row of results in RUNNING, and proof of the stop. -/
theorem FanDyn.takeStatus_sound (h : d.Sound) (st : FanStatus) : (d.takeStatus f st).Sound := by
  have h' : FanDyn.Sound { d with lastStatus := some st } := h
  obtain ⟨hpath, hstart, hstatus, hstop, hretry, hbelow, -, -, hcount⟩ := h
  have running {below : Nat} (hs : d.state = .running) (hb : below < belowLimit) : FanDyn.Sound
      { d with lastStatus := some st, statusTimer := timerOf f.statusTimeout, below := below } := by
    simp_all [FanDyn.Sound, FanState.isFault, timerOf]
  unfold FanDyn.takeStatus
  dsimp only
  split
  · split
    · simp [FanDyn.Sound, FanDyn.stopTimers, FanState.isFault, timerOf, belowLimit, hcount]
    · exact h'
  · rename_i hs
    split
    · exact FanDyn.enterFault_sound (running hs hbelow) _
    · split
      · exact running hs (by decide)
      · split
        · exact FanDyn.enterFault_sound (running hs hbelow) _
        · exact running hs (by omega)
  · rename_i hs
    split
    · exact FanDyn.toStopped_sound h' (by simp [hs])
    · exact h'
  · exact h'

theorem FanDyn.pathExpired_sound (h : d.Sound) (hs : d.state = .pathWait) (fire : Bool) :
    (d.pathExpired f fire).Sound := by
  unfold FanDyn.pathExpired
  split
  · obtain ⟨hpath, hstart, hstatus, hstop, hretry, hbelow, hzero, -, hcount⟩ :=
      FanDyn.toStarting_sound (f := f) h (by simp [hs])
    exact ⟨hpath, hstart, hstatus, hstop, hretry, hbelow, hzero, fun _ => .inl rfl, hcount⟩
  · exact FanDyn.enterFault_sound h _

theorem FanDyn.retryExpired_sound (h : d.Sound) (hs : d.state.isFault = true) (fire : Bool) :
    (d.retryExpired f fire).Sound := by
  have hne : d.state ≠ .running := fun e => by rw [e] at hs; cases hs
  unfold FanDyn.retryExpired
  split
  · obtain ⟨hpath, hstart, hstatus, hstop, hretry, hbelow, hzero, hno, -⟩ := FanDyn.toStopped_sound h hne
    exact ⟨hpath, hstart, hstatus, hstop, hretry, hbelow, hzero, hno, Nat.min_le_right _ _⟩
  · obtain ⟨hpath, hstart, hstatus, hstop, -, hrest⟩ := h
    exact ⟨hpath, hstart, hstatus, hstop, hs.symm, hrest⟩

theorem FanDyn.tick_sound (h : d.Sound) : d.tick.Sound := by
  obtain ⟨hpath, hstart, hstatus, hstop, hretry, hrest⟩ := h
  exact ⟨(Timer.tick_isSome _).trans hpath, (Timer.tick_isSome _).trans hstart, (Timer.tick_isSome _).trans hstatus,
    (Timer.tick_isSome _).trans hstop, (Timer.tick_isSome _).trans hretry, hrest⟩

end

/-! ## Dampers (R98) -/

section
variable {f : OutputFields} {d : DamperDyn}

theorem DamperDyn.initial_sound : (DamperDyn.initial f).Sound := ⟨rfl, rfl⟩

theorem DamperDyn.toTravelling_sound : (d.toTravelling f).Sound := ⟨rfl, rfl⟩

theorem DamperDyn.toSettled_sound : (d.toSettled f).Sound := ⟨rfl, rfl⟩

theorem DamperDyn.enterFault_sound (r : DamperFault) : (d.enterFault r).Sound := ⟨rfl, rfl⟩

theorem DamperDyn.toHand_sound (h : d.Sound) : d.toHand.Sound := by
  unfold DamperDyn.toHand
  split
  · exact h
  · exact ⟨rfl, rfl⟩

theorem DamperDyn.fromHand_sound (h : d.Sound) : (d.fromHand f).Sound := by
  unfold DamperDyn.fromHand
  split
  · exact DamperDyn.toTravelling_sound
  · exact h

theorem DamperDyn.deliver_sound (h : d.Sound) (t : DamperTarget) : (d.deliver f t).Sound := by
  unfold DamperDyn.deliver
  split
  · exact h
  · dsimp only
    split
    · exact DamperDyn.toTravelling_sound
    · exact DamperDyn.toTravelling_sound
    · exact h

theorem DamperDyn.takeStatus_sound (h : d.Sound) (r : DamperReport) : (d.takeStatus f r).Sound := by
  unfold DamperDyn.takeStatus
  dsimp only
  split
  · split
    · exact DamperDyn.enterFault_sound _
    · split
      · exact DamperDyn.toSettled_sound
      · exact h
  · split
    · exact DamperDyn.enterFault_sound _
    · split
      · exact DamperDyn.toSettled_sound
      · exact DamperDyn.toTravelling_sound
  · exact h

theorem DamperDyn.tick_sound (h : d.Sound) : d.tick.Sound :=
  ⟨(Timer.tick_isSome _).trans h.1, (Timer.tick_isSome _).trans h.2⟩

end

end Sys2Proof.Machine

namespace Sys2Proof.Machine

/-! ## What the consistent tables say of a point (R138, R142) -/

section
variable {s t : State}

theorem PointFields.InRange.confirm_pos {f : PointFields} (h : f.InRange) : 1 ≤ f.confirm := by
  obtain ⟨-, -, -, -, -, -, -, -, -, -, -, -, -, -, -, -, -, -, -, hconfirm, -⟩ := h
  exact hconfirm

/-- An IN_SERVICE point has passed CAL_ORDER. -/
theorem State.TablesConsistent.calOrder {i : Fin 64} {f : PointFields} {d : PointDyn} (ht : s.TablesConsistent)
    (h : s.points[i] = .inService f d) : f.calOrder = true := by
  have hseen : s.tables.points i = (some f, true) := by simp only [State.tables, h]; rfl
  exact (ht.1.1 i (by rw [hseen]) f (by rw [hseen]; rfl)).1

/-- The confirm count of a point in DRAFT is at least 1. -/
theorem State.TablesConsistent.confirm_pos {i : Fin 64} {f : PointFields} (ht : s.TablesConsistent)
    (h : s.points[i] = .draft f) : 1 ≤ f.confirm := by
  have hseen : s.tables.points i = (some f, false) := by simp only [State.tables, h]; rfl
  obtain ⟨-, -, hrange, -⟩ := ht
  exact (hrange.1 i f (by rw [hseen]; rfl)).confirm_pos

theorem Image.Consistent.confirm_pos {img : Image} {i : Fin 64} {f : PointFields} (h : img.Consistent)
    (hp : img.points[i] = .inService f ()) : 1 ≤ f.confirm := by
  have hseen : img.tables.points i = (some f, true) := by simp only [Image.tables, hp]; rfl
  obtain ⟨-, -, hrange, -⟩ := h
  exact (hrange.1 i f (by rw [hseen]; rfl)).confirm_pos

theorem State.TablesConsistent.heard (ht : s.TablesConsistent) (p : PortId) : (s.heard p).TablesConsistent := by
  cases p <;> exact ht

theorem State.MachinesSound.heard (hs : s.MachinesSound) (p : PortId) : (s.heard p).MachinesSound :=
  (s.setPort_sameMachines p _).sound hs

/-! ## The resets (R24, R118) -/

theorem OutputFields.initial_sound (f : OutputFields) : f.initial.Sound f = true := by
  unfold OutputFields.initial
  cases h : f.kind with
  | fan => exact decide_eq_true ⟨h, FanDyn.initial_sound⟩
  | damper => exact decide_eq_true ⟨h, DamperDyn.initial_sound⟩

theorem outputSound_resetEntry {δ : Type} (e : Entry OutputFields δ) :
    outputSound (resetEntry OutputFields.initial e) = true := by
  cases e with
  | vacant | draft f => rfl
  | inService f d => exact f.initial_sound

theorem pointSound_resetEntry {δ : Type} {e : Entry PointFields δ}
    (h : ∀ f d, e = .inService f d → 1 ≤ f.confirm) : pointSound (resetEntry PointFields.initial e) = true := by
  cases e with
  | vacant | draft f => rfl
  | inService f d => exact decide_eq_true (PointFields.initial_sound (h f d rfl))

/-- A reset leaves every machine as it enters service; a sound point has a confirm count to begin below. -/
theorem State.resetDynamic_machines (hs : ∀ i : Fin 64, pointSound s.points[i] = true) :
    s.resetDynamic.MachinesSound := by
  refine ⟨fun i => ?_, fun i => ?_⟩
  · have hreset : s.resetDynamic.points[i] = resetEntry PointFields.initial s.points[i] := vector_ofFn_get _ i
    rw [hreset]
    refine pointSound_resetEntry fun f d h => ?_
    have := hs i
    rw [h] at this
    exact Nat.one_le_of_lt (of_decide_eq_true this).2.2.1
  · have hreset : s.resetDynamic.outputs[i] = resetEntry OutputFields.initial s.outputs[i] := vector_ofFn_get _ i
    rw [hreset]
    exact outputSound_resetEntry _

theorem State.restarted_machines (hs : s.MachinesSound) : s.restarted.MachinesSound :=
  State.resetDynamic_machines (s := { s with
    active := s.pendingRecord
    clocks := Vector.ofFn fun j => s.clocks[j].wrapped
    zones := Vector.ofFn fun z => adoptZone s.zones[z] }) hs.1

/-- The tables restored from a consistent image hold sound machines (R178). -/
theorem State.restored_points {img : Image} (h : img.Consistent) (i : Fin 64) :
    pointSound (s.restored img).points[i] = true := by
  have hreset : (s.restored img).points[i] = resetEntry PointFields.initial img.points[i] := vector_ofFn_get _ i
  rw [hreset]
  exact pointSound_resetEntry fun f _ hp => h.confirm_pos hp

theorem StoreContent.image?_of_valid? {c : StoreContent} {img : Image} (h : c.valid? = some img) :
    c.image? = some img := by
  unfold StoreContent.valid? at h
  split at h
  · split at h
    · exact h
    · cases h
  · cases h

theorem State.startUp_machines (h : ∀ img ∈ s.store.image?, img.Consistent) : s.startUp.MachinesSound := by
  unfold State.startUp
  refine State.resetDynamic_machines fun i => ?_
  dsimp only
  split
  · rename_i img hv
    exact State.restored_points (h img (StoreContent.image?_of_valid? hv)) i
  · have hvacant : s.defaulted.points[i] = .vacant := by simp [State.defaulted]
    rw [hvacant]
    rfl

/-- The image in the store of a part whose SAVE has been broken off is consistent, if there is one (R176). -/
theorem State.TablesConsistent.breakSave_store (ht : s.TablesConsistent) :
    ∀ img ∈ s.breakSave.store.image?, img.Consistent := by
  obtain ⟨-, -, -, -, -, -, -, -, hstore, -⟩ := ht
  unfold State.breakSave
  split
  · intro img h; cases h
  · exact hstore

theorem State.powerUp_machines (ht : s.TablesConsistent) (hs : s.MachinesSound) : s.powerUp.MachinesSound := by
  unfold State.powerUp
  dsimp only
  split
  · exact (s.breakSave_sameMachines).sound hs
  · exact State.startUp_machines ht.breakSave_store

theorem State.release_machines (ht : s.TablesConsistent) (hs : s.MachinesSound) : s.release.MachinesSound := by
  unfold State.release
  dsimp only
  split
  · exact State.startUp_machines ht.breakSave_store
  · exact (s.breakSave_sameMachines).sound hs

/-- The end of an event keeps the machines sound: it resets them, or leaves them alone. -/
theorem State.finish_machines (hs : s.MachinesSound) : s.finish.MachinesSound := by
  unfold State.finish
  split
  · exact State.restarted_machines hs
  · exact s.arbitrate_quiet.1.sameMachines.sound hs

/-! ## Outputs in the machine (R100 to R116) -/

theorem State.startFan_machines {i : Fin 24} (hs : s.MachinesSound) (h : s.fanIs i .pathWait = true) :
    (s.startFan i).MachinesSound := by
  refine (State.queueDrive_onlyLines _ i).sameMachines.sound (State.updateFan_machines hs fun f d hd hsound => ?_)
  have hstate : d.state = .pathWait := by simpa [State.fanIs, State.fan?, hd] using h
  exact FanDyn.toStarting_sound hsound (by simp [hstate])

/-- A run of events each of which keeps the machines sound keeps them sound. -/
theorem State.foldl_machines {α : Type} {g : State → α → State}
    (hg : ∀ (s : State) a, s.MachinesSound → (g s a).MachinesSound) (l : List α) (hs : s.MachinesSound) :
    (l.foldl g s).MachinesSound := by
  induction l generalizing s with
  | nil => exact hs
  | cons a l ih => exact ih (hg s a hs)

theorem State.pathCheck_machines (hs : s.MachinesSound) : s.pathCheck.MachinesSound := by
  refine State.foldl_machines (fun s i hs => ?_) _ hs
  split
  · rename_i h; exact State.startFan_machines hs (by simp_all)
  · exact hs

theorem State.pathCheckThrough_machines (hs : s.MachinesSound) (j : Fin 24) : (s.pathCheckThrough j).MachinesSound := by
  refine State.foldl_machines (fun s i hs => ?_) _ hs
  split
  · rename_i h; exact State.startFan_machines hs (by simp_all)
  · exact hs

theorem State.deliverOutputs_machines (hs : s.MachinesSound) (flows : Vector Nat 24) (holds : Vector HoldMark 24)
    (targets : Vector DamperTarget 24) : (s.deliverOutputs flows holds targets).MachinesSound :=
  State.foldl_machines (fun _ _ hs =>
    State.updateDamper_machines (State.updateFan_machines hs fun _ _ _ h => FanDyn.deliver_sound h _)
      fun _ _ _ h => DamperDyn.deliver_sound h _) _ hs

theorem State.allocate_machines (hs : s.MachinesSound) : s.allocate.MachinesSound := by
  have htimer : (s.setDriveTimer s.active.drivePeriod).MachinesSound := State.SameMachines.sound (s := s) ⟨rfl, rfl⟩ hs
  unfold State.allocate
  dsimp only
  refine State.pathCheck_machines ((State.queueDrives_sameMachines _).sound (State.deliverOutputs_machines ?_ _ _ _))
  exact (State.deliverZones_sameMachines _ _ _).sound htimer

theorem State.takeDamperStatus_machines (hs : s.MachinesSound) (i : Fin 24) (r : DamperReport) :
    (s.takeDamperStatus i r).MachinesSound := by
  have h := State.updateDamper_machines (i := i) (g := fun f => DamperDyn.takeStatus f r) hs
    fun _ _ _ h => DamperDyn.takeStatus_sound h r
  unfold State.takeDamperStatus
  dsimp only
  split
  · exact State.pathCheckThrough_machines h i
  · exact h

/-- The fan whose timer an expiry names is in the state that the timer supervises. -/
theorem State.fanTimer_state {i : Fin 24} {st : FanState → Bool} {timer : FanDyn → Timer} {f : OutputFields} {d : FanDyn}
    (h : (s.fanTimer i st timer).isSome = true) (hd : s.outputs[i] = .inService f (.fan d)) : st d.state = true := by
  simp only [State.fanTimer, State.fan?, hd] at h
  split at h
  · assumption
  · cases h

theorem State.pathExpired_machines {i : Fin 24} (hs : s.MachinesSound) (h : (s.pathTimer i).isSome = true) :
    (s.pathExpired i).MachinesSound := by
  have hfan := State.updateFan_machines (i := i) (g := fun f => FanDyn.pathExpired f (s.fireInReach i)) hs
    fun f d hd hsound => FanDyn.pathExpired_sound hsound (by simpa using State.fanTimer_state h hd) _
  unfold State.pathExpired
  dsimp only
  split
  · exact (State.queueDrive_onlyLines _ i).sameMachines.sound hfan
  · exact hfan

theorem State.retryExpired_machines {i : Fin 24} (hs : s.MachinesSound) (h : (s.retryTimer i).isSome = true) :
    (s.retryExpired i).MachinesSound := by
  have hfan := State.updateFan_machines (i := i) (g := fun f => FanDyn.retryExpired f (s.fireInReach i)) hs
    fun f d hd hsound => FanDyn.retryExpired_sound hsound (State.fanTimer_state h hd) _
  unfold State.retryExpired
  dsimp only
  split
  · exact (State.queueDrive_onlyLines _ i).sameMachines.sound hfan
  · exact hfan

theorem State.handOn_machines (hs : s.MachinesSound) (i : Fin 24) : (s.handOn i).MachinesSound := by
  unfold State.handOn
  split
  · exact hs
  · exact (State.withdrawDrive_onlyLines _ i).sameMachines.sound (State.updateDamper_machines
      (State.updateFan_machines hs fun _ _ _ h => FanDyn.toHand_sound h) fun _ _ _ h => DamperDyn.toHand_sound h)

theorem State.handOff_machines (hs : s.MachinesSound) (i : Fin 24) : (s.handOff i).MachinesSound :=
  State.updateDamper_machines (State.updateFan_machines hs fun _ _ _ h => FanDyn.fromHand_sound h)
    fun _ _ _ h => DamperDyn.fromHand_sound h

/-- A dither index that advances touches no timer and no mark (R88). -/
theorem State.advanceDither_machines (hs : s.MachinesSound) (i : Fin 24) : (s.advanceDither i).MachinesSound := by
  unfold State.advanceDither
  split
  · rename_i f d h
    have hfan := hs.fan h
    exact State.setOutput_machines hs (decide_eq_true hfan)
  · exact hs

theorem State.frameLeft_machines (hs : s.MachinesSound) (e : QEntry) : (s.frameLeft e).MachinesSound := by
  unfold State.frameLeft
  split
  · exact State.advanceDither_machines hs _
  · exact hs

theorem State.completeOffer_machines (hs : s.MachinesSound) (p : PortId) : (s.completeOffer p).MachinesSound := by
  have h := (s.setPort_sameMachines p (s.port p).withdrawOffer).sound hs
  unfold State.completeOffer
  dsimp only
  split
  · exact (State.reportTransmitted_sameMachines _ _).sound h
  · split
    · exact State.frameLeft_machines h _
    · exact h

theorem State.abandonOffer_machines (hs : s.MachinesSound) (p : PortId) : (s.abandonOffer p).MachinesSound := by
  have h := fun v => (s.setPort_sameMachines p v).sound hs
  unfold State.abandonOffer
  dsimp only
  split
  · exact (State.reportAbandoned_sameMachines _ _).sound (h _)
  · split
    · exact State.frameLeft_machines (h _) _
    · exact h _

theorem State.failOffer_machines (hs : s.MachinesSound) (p : PortId) : (s.failOffer p).MachinesSound := by
  unfold State.failOffer
  split
  · exact State.abandonOffer_machines hs p
  · exact (s.setPort_sameMachines p _).sound hs

/-! ## Frames from the field (R130 to R132) -/

theorem State.takeSample_machines (ht : s.TablesConsistent) (hs : s.MachinesSound) (i : Fin 64) (v : SamplePayload) :
    (s.takeSample i v).MachinesSound := by
  have h := State.updatePoint_machines (i := i) (g := fun f d => d.takeSample f v.raw v.warm v.sensorFault) hs
    fun f d hd hsound => PointDyn.takeSample_sound (ht.calOrder hd) hsound _ _ _
  unfold State.takeSample
  split
  · dsimp only
    split
    · exact State.SameMachines.sound ⟨rfl, rfl⟩ h
    · exact h
  · exact hs

theorem State.forwardUp_machines (hs : s.MachinesSound) (f : Frame) : (s.forwardUp f).MachinesSound :=
  (s.forwardUp_onlyLines f).sameMachines.sound hs

theorem State.receiveSample_machines (ht : s.TablesConsistent) (hs : s.MachinesSound) (f : Frame) :
    (s.receiveSample f).MachinesSound := by
  unfold State.receiveSample
  split
  · split
    · split
      · exact State.forwardUp_machines (State.takeSample_machines ht hs _ _) f
      · exact State.takeSample_machines ht hs _ _
    · exact State.forwardUp_machines ((s.setPort_sameMachines _ _).sound hs) f
  · split
    · exact State.forwardUp_machines hs f
    · exact State.forwardUp_machines (State.SameMachines.sound (t := s.countStranger) ⟨rfl, rfl⟩ hs) f

theorem State.receiveFanStatus_machines (hs : s.MachinesSound) (i : Fin 24) (d : FanDyn) (f : Frame) :
    (s.receiveFanStatus i d f).MachinesSound := by
  unfold State.receiveFanStatus
  split
  · rename_i st _
    have h := State.updateFan_machines (i := i) (g := fun g => FanDyn.takeStatus g st) hs
      fun _ _ _ h => FanDyn.takeStatus_sound h st
    dsimp only
    split
    · exact State.forwardUp_machines h f
    · exact h
  · exact State.forwardUp_machines ((s.setPort_sameMachines _ _).sound hs) f

theorem State.receiveDamperStatus_machines (hs : s.MachinesSound) (i : Fin 24) (d : DamperDyn) (f : Frame) :
    (s.receiveDamperStatus i d f).MachinesSound := by
  unfold State.receiveDamperStatus
  split
  · dsimp only
    split
    · exact State.forwardUp_machines (State.takeDamperStatus_machines hs _ _) f
    · exact State.takeDamperStatus_machines hs _ _
  · exact State.forwardUp_machines ((s.setPort_sameMachines _ _).sound hs) f

theorem State.receiveStatus_machines (hs : s.MachinesSound) (f : Frame) : (s.receiveStatus f).MachinesSound := by
  unfold State.receiveStatus
  split
  · split
    · exact State.receiveFanStatus_machines hs _ _ f
    · exact State.receiveDamperStatus_machines hs _ _ f
    · exact State.forwardUp_machines hs f
  · exact State.forwardUp_machines hs f

theorem State.fieldReceive_machines (ht : s.TablesConsistent) (hs : s.MachinesSound) (f : Frame) :
    (s.fieldReceive f).MachinesSound := by
  unfold State.fieldReceive
  split
  · exact State.SameMachines.sound ⟨rfl, rfl⟩ hs
  · split
    · exact State.receiveSample_machines ht hs f
    · split
      · exact State.receiveStatus_machines hs f
      · exact State.forwardUp_machines hs f

/-! ## Requests (chapters 7 and 8) -/

/-- The state that a decision leaves, before its reply. -/
def Decision.state? : Decision → Option State
  | .refused _ => none
  | .done s _ => some s
  | .saving s => some s
  | .restarting s => some s

theorem Decision.ofChange_state? {x : Except ReplyCode State} (h : (Decision.ofChange x).state? = some t) : x = .ok t := by
  cases x with
  | error e => cases h
  | ok u => cases h; rfl

theorem Decision.ofRead_state? {x : Except ReplyCode (List Byte)} (h : (Decision.ofRead s x).state? = some t) :
    t = s := by
  cases x with
  | error e => cases h
  | ok data => cases h; rfl

theorem State.entryOpen_ok {table index : Byte} (h : s.entryOpen table index = .ok t) : ∃ r, t = s.openEntry r := by
  unfold State.entryOpen at h
  cases k : s.lifeCycleEntry table index .vacant with
  | error e => rw [k] at h; cases h
  | ok r => rw [k] at h; cases h; exact ⟨r, rfl⟩

theorem State.entryClear_ok {table index : Byte} (h : s.entryClear table index = .ok t) : ∃ r, t = s.clearEntry r := by
  unfold State.entryClear at h
  cases k : s.lifeCycleEntry table index .draft with
  | error e => rw [k] at h; cases h
  | ok r => rw [k] at h; cases h; exact ⟨r, rfl⟩

theorem State.openEntry_machines (hs : s.MachinesSound) (r : EntryRef) : (s.openEntry r).MachinesSound := by
  cases r with
  | point i => exact State.setPoint_machines hs rfl
  | output i => exact State.setOutput_machines hs rfl
  | zone | window | response | clock | device => exact State.SameMachines.sound ⟨rfl, rfl⟩ hs

theorem State.clearEntry_machines (hs : s.MachinesSound) (r : EntryRef) : (s.clearEntry r).MachinesSound := by
  cases r with
  | point i => exact State.setPoint_machines hs rfl
  | output i => exact State.setOutput_machines hs rfl
  | zone | window | response | clock | device => exact State.SameMachines.sound ⟨rfl, rfl⟩ hs

/-- A period that is staged changes one purge clock (R72). -/
theorem State.tunePeriod_sameMachines {j : Fin 2} {code : Nat} {v : Option Nat} (h : s.tunePeriod j code v = .ok t) :
    s.SameMachines t := by
  unfold State.tunePeriod at h
  split at h
  · cases h
  · split at h
    · cases h; exact ⟨rfl, rfl⟩
    · cases h

theorem State.tuneZone_sameMachines {z : Fin 8} {code : Nat} {v : Option Nat} (h : s.tuneZone z code v = .ok t) :
    s.SameMachines t := by
  unfold State.tuneZone at h
  split at h
  · split at h
    · cases h
    · split at h
      · cases h
      · split at h
        · cases h; exact ⟨rfl, rfl⟩
        · cases h
  · cases h

theorem State.entryTune_sameMachines {table index field : Byte} {value : BitVec 16}
    (h : s.entryTune table index field value = .ok t) : s.SameMachines t := by
  unfold State.entryTune at h
  split at h
  · cases h
  · split at h
    · cases h
    · split at h
      · exact State.tuneZone_sameMachines h
      · exact State.tunePeriod_sameMachines h
      · cases h

/-- A write that passes the presence check is the write itself (R152, R156). -/
theorem presenceChecked_ok {φ : Type} {known : Bool} {presence : Byte} {k : Written φ} {x : φ}
    (h : presenceChecked known presence k = .ok x) : k = .ok x := by
  unfold presenceChecked at h
  split at h
  · split at h
    · cases h
    · exact h
  · cases h

/-- An ENTRY_SET of a point's field leaves the entry in DRAFT. -/
theorem State.setPointField_ok {i : Fin 64} {code : Nat} {value : BitVec 16} {presence : Byte}
    (h : s.setPointField i code value presence = .ok t) : ∃ f, t = s.setPoint i (.draft f) := by
  unfold State.setPointField at h
  split at h
  · split at h
    · cases h
    · split at h
      · cases h
      · cases h; exact ⟨_, rfl⟩
  · cases h

theorem State.setZoneField_ok {z : Fin 8} {code : Nat} {value : BitVec 16} {presence : Byte}
    (h : s.setZoneField z code value presence = .ok t) : ∃ f, t = s.setZone z (.draft f) := by
  unfold State.setZoneField at h
  split at h
  · split at h
    · cases h
    · cases h; exact ⟨_, rfl⟩
  · cases h

theorem State.setOutputField_ok {i : Fin 24} {code : Nat} {value : BitVec 16} {presence : Byte}
    (h : s.setOutputField i code value presence = .ok t) : ∃ f, t = s.setOutput i (.draft f) := by
  unfold State.setOutputField at h
  split at h
  · split at h
    · cases h
    · split at h
      · cases h
      · cases h; exact ⟨_, rfl⟩
  · cases h

theorem State.setWindowField_ok {w : Fin 8} {code : Nat} {value : BitVec 16} {presence : Byte}
    (h : s.setWindowField w code value presence = .ok t) : ∃ f, t = s.setWindow w (.draft f) := by
  unfold State.setWindowField at h
  split at h
  · split at h
    · cases h
    · cases h; exact ⟨_, rfl⟩
  · cases h

theorem State.setResponseField_ok {l : Fin 5} {code : Nat} {value : BitVec 16} {presence : Byte}
    (h : s.setResponseField l code value presence = .ok t) : ∃ r, t = s.setResponse r := by
  unfold State.setResponseField at h
  split at h
  · cases h
  · split at h
    · cases h
    · cases h; exact ⟨_, rfl⟩

theorem State.setDeviceField_ok {code : Nat} {value : BitVec 16} {presence : Byte}
    (h : s.setDeviceField code value presence = .ok t) : ∃ r, t = s.setPendingRecord r := by
  unfold State.setDeviceField at h
  split at h
  · cases h
  · split at h
    · cases h
    · cases h; exact ⟨_, rfl⟩

theorem State.entrySet_machines {table index field : Byte} {value : BitVec 16} {presence : Byte} (hs : s.MachinesSound)
    (h : s.entrySet table index field value presence = .ok t) : t.MachinesSound := by
  unfold State.entrySet at h
  split at h
  · cases h
  · split at h
    · cases h
    · split at h
      · obtain ⟨f, rfl⟩ := State.setPointField_ok h; exact State.setPoint_machines hs rfl
      · obtain ⟨f, rfl⟩ := State.setZoneField_ok h; exact State.SameMachines.sound ⟨rfl, rfl⟩ hs
      · obtain ⟨f, rfl⟩ := State.setOutputField_ok h; exact State.setOutput_machines hs rfl
      · obtain ⟨f, rfl⟩ := State.setWindowField_ok h; exact State.SameMachines.sound ⟨rfl, rfl⟩ hs
      · obtain ⟨r, rfl⟩ := State.setResponseField_ok h; exact State.SameMachines.sound ⟨rfl, rfl⟩ hs
      · exact (State.tunePeriod_sameMachines (presenceChecked_ok h)).sound hs
      · obtain ⟨r, rfl⟩ := State.setDeviceField_ok h; exact State.SameMachines.sound ⟨rfl, rfl⟩ hs

theorem checked_ok {checks : List (Bool × CheckReason)} (h : checked checks s = .ok t) :
    firstFailing checks = none ∧ t = s := by
  unfold checked at h
  split at h
  · cases h
  · cases h; exact ⟨by assumption, rfl⟩

/-- All that a commission can do: a DRAFT entry enters service (R141). -/
theorem State.commissionEntry_ok {r : EntryRef} (h : s.commissionEntry r = .ok t) :
    (∃ i f, s.points[i] = .draft f ∧ t = s.commissionPoint i f) ∨ (∃ z f, s.zones[z] = .draft f ∧ t = s.commissionZone z f)
    ∨ (∃ i f, s.outputs[i] = .draft f ∧ t = s.commissionOutput i f)
    ∨ ∃ w f, s.windows[w] = .draft f ∧ t = s.setWindow w (.inService f ()) := by
  unfold State.commissionEntry at h
  split at h
  · split at h
    · exact .inl ⟨_, _, by assumption, (checked_ok h).2⟩
    · cases h
  · split at h
    · exact .inr (.inl ⟨_, _, by assumption, (checked_ok h).2⟩)
    · cases h
  · split at h
    · exact .inr (.inr (.inl ⟨_, _, by assumption, (checked_ok h).2⟩))
    · cases h
  · split at h
    · exact .inr (.inr (.inr ⟨_, _, by assumption, (checked_ok h).2⟩))
    · cases h
  · cases h

theorem State.entryCommission_ok {table index : Byte} (h : s.entryCommission table index = .ok t) :
    ∃ r, s.commissionEntry r = .ok t := by
  unfold State.entryCommission at h
  split at h
  · cases h
  · exact ⟨_, h⟩

theorem State.entryCommission_machines {table index : Byte} (ht : s.TablesConsistent) (hs : s.MachinesSound)
    (h : s.entryCommission table index = .ok t) : t.MachinesSound := by
  obtain ⟨r, h⟩ := State.entryCommission_ok h
  rcases State.commissionEntry_ok h with ⟨i, f, hd, rfl⟩ | ⟨z, f, -, rfl⟩ | ⟨i, f, -, rfl⟩ | ⟨w, f, -, rfl⟩
  · exact (State.reformZone_sameMachines _ _).sound
      (State.setPoint_machines hs (decide_eq_true (PointFields.initial_sound (ht.confirm_pos hd))))
  · exact State.SameMachines.sound ⟨rfl, rfl⟩ hs
  · exact State.setOutput_machines hs f.initial_sound
  · exact State.SameMachines.sound ⟨rfl, rfl⟩ hs

/-- All that a retirement can do: an IN_SERVICE entry returns to DRAFT (R145). -/
theorem State.retireEntry_ok {r : EntryRef} (h : s.retireEntry r = .ok t) :
    (∃ i f d, s.points[i] = .inService f d ∧ t = s.retirePoint i f d)
    ∨ (∃ z f d, s.zones[z] = .inService f d ∧ t = s.retireZone z f)
    ∨ (∃ i f d, s.outputs[i] = .inService f d ∧ t = s.retireOutput i f d)
    ∨ ∃ w f, s.windows[w] = .inService f () ∧ t = s.setWindow w (.draft f) := by
  unfold State.retireEntry at h
  split at h
  · split at h
    · split at h
      · cases h
      · cases h; exact .inl ⟨_, _, _, by assumption, rfl⟩
    · cases h
  · split at h
    · split at h
      · cases h
      · split at h
        · cases h; exact .inr (.inl ⟨_, _, _, by assumption, rfl⟩)
        · cases h
    · cases h
  · split at h
    · split at h
      · cases h
      · split at h
        · cases h
        · cases h; exact .inr (.inr (.inl ⟨_, _, _, by assumption, rfl⟩))
    · cases h
  · split at h
    · cases h; exact .inr (.inr (.inr ⟨_, _, by assumption, rfl⟩))
    · cases h
  · cases h

theorem State.entryRetire_ok {table index : Byte} (h : s.entryRetire table index = .ok t) :
    ∃ r, s.retireEntry r = .ok t := by
  unfold State.entryRetire at h
  split at h
  · cases h
  · exact ⟨_, h⟩

theorem State.detachReport_onlyLines (s : State) (z : Fin 8) : s.OnlyLines (s.detachReport z) := by
  unfold State.detachReport; split <;> rfl

theorem State.entryRetire_machines {table index : Byte} (hs : s.MachinesSound)
    (h : s.entryRetire table index = .ok t) : t.MachinesSound := by
  obtain ⟨r, h⟩ := State.entryRetire_ok h
  rcases State.retireEntry_ok h with ⟨i, f, d, -, rfl⟩ | ⟨z, f, d, -, rfl⟩ | ⟨i, f, d, -, rfl⟩ | ⟨w, f, -, rfl⟩
  · have hset := State.setPoint_machines (i := i) (e := .draft f) hs rfl
    refine (State.reformZone_sameMachines _ _).sound ?_
    split
    · exact State.SameMachines.sound ⟨rfl, rfl⟩ hset
    · exact hset
  · exact (State.detachReport_onlyLines _ z).sameMachines.sound (State.SameMachines.sound (s := s) ⟨rfl, rfl⟩ hs)
  · have hset := State.setOutput_machines (i := i) (e := .draft f) hs rfl
    unfold State.retireOutput
    dsimp only
    split
    · exact State.SameMachines.sound ⟨rfl, rfl⟩ hset
    · exact hset
  · exact State.SameMachines.sound ⟨rfl, rfl⟩ hs

/-- The zone requests change one zone at most (R39, R46 to R48). -/
theorem State.zoneRelease_sameMachines {zone level : Byte} (h : s.zoneRelease zone level = .ok t) : s.SameMachines t := by
  unfold State.zoneRelease at h
  split at h
  · cases h
  · split at h
    · cases h
    · split at h
      · cases h
      · split at h
        · cases h
        · cases h; exact s.updateZone_sameMachines _ _

theorem State.zoneSuppress_sameMachines {zone setting : Byte} (h : s.zoneSuppress zone setting = .ok t) :
    s.SameMachines t := by
  unfold State.zoneSuppress at h
  split at h
  · cases h
  · split at h
    · cases h; exact s.updateZone_sameMachines _ _
    · split at h
      · cases h; exact s.updateZone_sameMachines _ _
      · cases h

theorem State.zoneForce_sameMachines {zone level : Byte} (h : s.zoneForce zone level = .ok t) : s.SameMachines t := by
  unfold State.zoneForce at h
  split at h
  · cases h
  · split at h
    · cases h
    · cases h; exact s.updateZone_sameMachines _ _

theorem State.outputHand_machines {output setting : Byte} (hs : s.MachinesSound)
    (h : s.outputHand output setting = .ok t) : t.MachinesSound := by
  unfold State.outputHand at h
  split at h
  · cases h
  · split at h
    · cases h; exact State.handOff_machines hs _
    · split at h
      · split at h
        · cases h
        · cases h; exact State.handOn_machines hs _
      · cases h

/-- The output that a request names is IN_SERVICE. -/
theorem State.outputNamed_ok {output : Byte} {i : Fin 24} {d : OutputDyn} (h : s.outputNamed output = .ok (i, d)) :
    indexOf 24 output = some i ∧ ∃ f, s.outputs[i] = .inService f d := by
  unfold State.outputNamed at h
  split at h
  · cases h
  · split at h
    · cases h; exact ⟨by assumption, _, by assumption⟩
    · cases h

theorem State.outputReset_machines {output : Byte} (hs : s.MachinesSound) (h : s.outputReset output = .ok t) :
    t.MachinesSound := by
  unfold State.outputReset at h
  split at h
  · cases h
  · rename_i i d hn
    obtain ⟨-, f, hd⟩ := State.outputNamed_ok hn
    split at h
    · rename_i hfault
      cases h
      refine State.updateFan_machines hs fun g e he hsound => FanDyn.toStopped_sound hsound ?_
      obtain rfl : d = e := by rw [hd] at he; cases he; rfl
      intro hrun; rw [hrun] at hfault; cases hfault
    · cases h
  · split at h
    · cases h
    · cases h; exact State.updateDamper_machines hs fun _ _ _ _ => DamperDyn.toTravelling_sound

theorem State.countersClear_machines (hs : s.MachinesSound) : s.countersClear.MachinesSound := by
  have hout : s.countersClear.outputs = s.outputs := by unfold State.countersClear; rfl
  refine ⟨fun i => ?_, by rw [hout]; exact hs.2⟩
  have hclear : s.countersClear.points[i] = clearBadCount s.points[i] := vector_ofFn_get _ i
  rw [hclear]
  cases h : s.points[i] with
  | vacant | draft f => rfl
  | inService f d =>
    have hd := hs.point h
    exact decide_eq_true hd

/-- Every request leaves the machines sound, before its reply. -/
theorem State.decide_machines {r : Request} (ht : s.TablesConsistent) (hs : s.MachinesSound)
    (h : (s.decide r).state? = some t) : t.MachinesSound := by
  cases r with
  | entryOpen table index =>
    obtain ⟨r, rfl⟩ := State.entryOpen_ok (Decision.ofChange_state? h); exact State.openEntry_machines hs r
  | entrySet table index field value presence => exact State.entrySet_machines hs (Decision.ofChange_state? h)
  | entryCommission table index => exact State.entryCommission_machines ht hs (Decision.ofChange_state? h)
  | entryRetire table index => exact State.entryRetire_machines hs (Decision.ofChange_state? h)
  | entryClear table index =>
    obtain ⟨r, rfl⟩ := State.entryClear_ok (Decision.ofChange_state? h); exact State.clearEntry_machines hs r
  | entryTune table index field value => exact (State.entryTune_sameMachines (Decision.ofChange_state? h)).sound hs
  | zoneRelease zone level => exact (State.zoneRelease_sameMachines (Decision.ofChange_state? h)).sound hs
  | zoneSuppress zone setting => exact (State.zoneSuppress_sameMachines (Decision.ofChange_state? h)).sound hs
  | zoneForce zone level => exact (State.zoneForce_sameMachines (Decision.ofChange_state? h)).sound hs
  | outputHand output setting => exact State.outputHand_machines hs (Decision.ofChange_state? h)
  | outputReset output => exact State.outputReset_machines hs (Decision.ofChange_state? h)
  | entryGet | readZone | readPoint | readOutput | readCounter | readDevice =>
    rw [Decision.ofRead_state? h]; exact hs
  | countersClear => cases h; exact State.countersClear_machines hs
  | save =>
    simp only [State.decide] at h
    split at h <;> cases h
    exact hs
  | restart =>
    simp only [State.decide] at h
    split at h
    · cases h
    · split at h <;> cases h
      exact hs

theorem State.takeRequest_machines (ht : s.TablesConsistent) (hs : s.MachinesSound) (src tag : Byte) (r : Request) :
    (s.takeRequest src tag r).MachinesSound := by
  have refused (code : Byte) (c : ReplyCode) : (s.refuse src code tag c).MachinesSound :=
    (s.refuse_onlyLines code c).sameMachines.sound hs
  unfold State.takeRequest
  split
  · exact refused _ _
  · split
    · exact refused _ _
    · rename_i t data h
      exact (State.queueReply_onlyLines _ _ _ _ _ _ _).sameMachines.sound (State.decide_machines ht hs (by rw [h]; rfl))
    · rename_i t h
      exact State.SameMachines.sound (s := t) ⟨rfl, rfl⟩ (State.decide_machines ht hs (by rw [h]; rfl))
    · rename_i t h
      exact (State.queueReply_onlyLines _ _ _ _ _ _ _).sameMachines.sound
        (State.SameMachines.sound (s := t) ⟨rfl, rfl⟩ (State.decide_machines ht hs (by rw [h]; rfl)))

theorem State.takeEncoded_machines (ht : s.TablesConsistent) (hs : s.MachinesSound) (src code tag : Byte)
    (args : List Byte) : (s.takeEncoded src code tag args).MachinesSound := by
  unfold State.takeEncoded
  split
  · exact State.takeRequest_machines ht hs _ _ _
  · exact (s.refuse_onlyLines code _).sameMachines.sound hs

/-! ## Frames from the trunk (R133 to R135) -/

theorem State.receiveRequest_machines (ht : s.TablesConsistent) (hs : s.MachinesSound) (f : Frame) :
    (s.receiveRequest f).MachinesSound := by
  unfold State.receiveRequest
  split
  · exact State.takeEncoded_machines ht hs _ _ _ _
  · exact (s.setPort_sameMachines _ _).sound hs

theorem State.trunkReceive_machines (ht : s.TablesConsistent) (hs : s.MachinesSound) (f : Frame) :
    (s.trunkReceive f).MachinesSound := by
  unfold State.trunkReceive
  split
  · split
    · exact State.receiveRequest_machines ht hs f
    · split
      · exact (s.receivePanel_sameMachines f).sound hs
      · split
        · exact (s.receiveTime_sameMachines f).sound hs
        · exact hs
  · split
    · exact ((s.receiveTime_sameMachines f).trans (State.passDown_sameMachines _ f)).sound hs
    · exact (s.passDown_sameMachines f).sound hs

/-! ## Every command -/

theorem onEvent_machines {applies : Bool} {g : State → State} (hs : s.MachinesSound) (h : onEvent applies g s = .next t)
    (hg : applies = true → (g s).MachinesSound) : t.MachinesSound := by
  rcases onEvent_next.1 h with ⟨-, ha, rfl⟩ | ⟨-, rfl⟩
  · exact State.finish_machines (hg ha)
  · exact hs

theorem onFrame_machines {p : PortId} {g : State → State} (hs : s.MachinesSound) (h : onFrame p g s = .next t)
    (hg : (g (s.heard p)).MachinesSound) : t.MachinesSound := onEvent_machines hs h fun _ => hg

theorem fieldFrame_machines {f : Frame} (ht : s.TablesConsistent) (hs : s.MachinesSound)
    (h : onFrame .field (State.fieldReceive f) s = .next t) : t.MachinesSound :=
  onFrame_machines hs h (State.fieldReceive_machines (ht.heard _) (hs.heard _) f)

theorem trunkFrame_machines {f : Frame} (ht : s.TablesConsistent) (hs : s.MachinesSound)
    (h : onFrame .trunk (State.trunkReceive f) s = .next t) : t.MachinesSound :=
  onFrame_machines hs h (State.trunkReceive_machines (ht.heard _) (hs.heard _) f)

theorem onRequest_machines {src tag : Byte} {r : Request} (ht : s.TablesConsistent) (hs : s.MachinesSound)
    (h : onRequest src tag r s = .next t) : t.MachinesSound :=
  onFrame_machines hs h (State.takeRequest_machines (ht.heard _) (hs.heard _) src tag r)

/-- An expiry that takes the fan whose timer it names to FAULT. -/
theorem fanFault_machines {applies : Bool} {i : Fin 24} {r : FanFault} (hs : s.MachinesSound)
    (h : onEvent applies (State.updateFan · i fun f => FanDyn.enterFault f r) s = .next t) : t.MachinesSound :=
  onEvent_machines hs h fun _ => State.updateFan_machines hs fun _ _ _ h => FanDyn.enterFault_sound h r

theorem damperFault_machines {applies : Bool} {i : Fin 24} {r : DamperFault} (hs : s.MachinesSound)
    (h : onEvent applies (State.updateDamper · i fun _ => DamperDyn.enterFault r) s = .next t) : t.MachinesSound :=
  onEvent_machines hs h fun _ => State.updateDamper_machines hs fun _ _ _ _ => DamperDyn.enterFault_sound r

/-! ## What each row of the timers, the lines and the store is -/

theorem exec_silenceTimerExpiry (i : Fin 64) :
    exec (.silenceTimerExpiry i) s =
      onEvent (s.silenceTimer i).isSome (State.updatePoint · i fun _ => PointDyn.silent) s := rfl

theorem exec_runOnExpiry (z : Fin 8) :
    exec (.runOnExpiry z) s =
      onEvent (s.runOnTimer z).isSome (State.updateZone · z (ZoneDyn.runOnExpired s.response)) s := rfl

theorem exec_minuteTimerExpiry : exec .minuteTimerExpiry s = onEvent true State.minuteExpired s := rfl

theorem exec_purgeClockWrap (j : Fin 2) : exec (.purgeClockWrap j) s = onEvent true (State.wrapClock · j) s := rfl

theorem exec_drivePeriodExpiry : exec .drivePeriodExpiry s = onEvent true State.allocate s := rfl

theorem exec_pathTimerExpiry (i : Fin 24) :
    exec (.pathTimerExpiry i) s = onEvent (s.pathTimer i).isSome (State.pathExpired · i) s := rfl

theorem exec_retryTimerExpiry (i : Fin 24) :
    exec (.retryTimerExpiry i) s = onEvent (s.retryTimer i).isSome (State.retryExpired · i) s := rfl

theorem exec_transmitComplete (p : PortId) :
    exec (.transmitComplete p) s = onEvent (s.port p).attempting (State.completeOffer · p) s := rfl

theorem exec_failedAttempt (p : PortId) :
    exec (.failedAttempt p) s = onEvent (s.port p).attempting (State.failOffer · p) s := rfl

theorem exec_arbitrationLost (p : PortId) : exec (.arbitrationLost p) s = onEvent (s.port p).attempting id s := rfl

theorem exec_frameAbandon (p : PortId) :
    exec (.frameAbandon p) s = onEvent (s.port p).attempting (State.abandonOffer · p) s := rfl

theorem exec_recoveryTimerExpiry (p : PortId) :
    exec (.recoveryTimerExpiry p) s = onEvent (s.recoveryTimer p).isSome (State.recover · p) s := rfl

theorem exec_saveComplete (matched : Bool) :
    exec (.saveComplete matched) s = onEvent s.saving (State.saveCompleted · matched) s := rfl

theorem exec_restartTakesEffect :
    exec .restartTakesEffect s = if s.works && s.restartPending then .next s.restarted else .next s := rfl

/-- Every command keeps the machines sound. -/
theorem exec_machines {c : Instr} (ht : s.TablesConsistent) (hs : s.MachinesSound) (h : exec c s = .next t) :
    t.MachinesSound := by
  cases c with
  | sample hd data | statusFan hd data | statusDamper hd data | fieldFrame ident data | fieldMgmtReq hd data =>
    exact fieldFrame_machines ht hs h
  | panelAlarm hd rest | panelNormal hd rest | time hd data | trunkFrame ident data => exact trunkFrame_machines ht hs h
  | standardOrRemoteFrame p => exact onFrame_machines hs h ((State.setPort_sameMachines _ _ _).sound (hs.heard p))
  | badRequest src code tag args =>
    exact onFrame_machines hs h (State.takeEncoded_machines (ht.heard _) (hs.heard _) src code tag args)
  | entryOpen | entrySet | entryGet | entryCommission | entryRetire | entryClear | entryTune | zoneRelease
  | zoneSuppressOn | zoneSuppressOff | zoneForce | outputHandOn | outputHandOff | outputReset | readZone | readPoint
  | readOutput | readCounter | readDevice | countersClear | save | restart => exact onRequest_machines ht hs h
  | silenceTimerExpiry i =>
    rw [exec_silenceTimerExpiry] at h
    exact onEvent_machines hs h fun _ => State.updatePoint_machines hs fun _ _ _ h => PointDyn.enterFault_sound h _
  | runOnExpiry z =>
    rw [exec_runOnExpiry] at h
    exact onEvent_machines hs h fun _ => (s.updateZone_sameMachines z _).sound hs
  | minuteTimerExpiry =>
    rw [exec_minuteTimerExpiry] at h
    exact onEvent_machines hs h fun _ => s.minuteExpired_sameMachines.sound hs
  | purgeClockWrap j =>
    rw [exec_purgeClockWrap] at h
    exact onEvent_machines hs h fun _ => (s.wrapClock_sameMachines j).sound hs
  | drivePeriodExpiry =>
    rw [exec_drivePeriodExpiry] at h
    exact onEvent_machines hs h fun _ => State.allocate_machines hs
  | pathTimerExpiry i =>
    rw [exec_pathTimerExpiry] at h
    exact onEvent_machines hs h (State.pathExpired_machines hs)
  | startTimerExpiry i | fanStatusTimerExpiry i | stopTimerExpiry i => exact fanFault_machines hs h
  | retryTimerExpiry i =>
    rw [exec_retryTimerExpiry] at h
    exact onEvent_machines hs h (State.retryExpired_machines hs)
  | travelTimerExpiry i | damperStatusTimerExpiry i => exact damperFault_machines hs h
  | transmitComplete p =>
    rw [exec_transmitComplete] at h
    exact onEvent_machines hs h fun _ => State.completeOffer_machines hs p
  | failedAttempt p =>
    rw [exec_failedAttempt] at h
    exact onEvent_machines hs h fun _ => State.failOffer_machines hs p
  | arbitrationLost p =>
    rw [exec_arbitrationLost] at h
    exact onEvent_machines hs h fun _ => hs
  | frameAbandon p =>
    rw [exec_frameAbandon] at h
    exact onEvent_machines hs h fun _ => State.abandonOffer_machines hs p
  | recoveryTimerExpiry p =>
    rw [exec_recoveryTimerExpiry] at h
    exact onEvent_machines hs h fun _ => (s.setPort_sameMachines p _).sound hs
  | saveComplete matched =>
    rw [exec_saveComplete] at h
    exact onEvent_machines hs h fun _ => (s.saveCompleted_sameMachines matched).sound hs
  | restartTakesEffect =>
    rw [exec_restartTakesEffect] at h
    split at h <;> cases h
    · exact State.restarted_machines hs
    · exact hs
  | powerOn => cases h; exact State.powerUp_machines ht hs
  | supplyLoss => cases h; exact s.breakSave_sameMachines.sound hs
  | resetLineAssert => cases h; exact s.breakSave_sameMachines.sound hs
  | resetLineRelease => cases h; exact State.release_machines ht hs

/-! ## Every step -/

theorem pointSound_tick (e : Entry PointFields PointDyn) (h : pointSound e = true) :
    pointSound (e.mapDyn PointDyn.tick) = true := by
  cases e with
  | vacant | draft f => rfl
  | inService f d => exact decide_eq_true (PointDyn.tick_sound (of_decide_eq_true h))

theorem outputSound_tick (e : Entry OutputFields OutputDyn) (h : outputSound e = true) :
    outputSound (e.mapDyn OutputDyn.tick) = true := by
  cases e with
  | vacant | draft f => rfl
  | inService f d =>
    cases d with
    | fan d =>
      obtain ⟨hk, hd⟩ : f.kind = .fan ∧ d.Sound := of_decide_eq_true h
      exact decide_eq_true ⟨hk, FanDyn.tick_sound hd⟩
    | damper d =>
      obtain ⟨hk, hd⟩ : f.kind = .damper ∧ d.Sound := of_decide_eq_true h
      exact decide_eq_true ⟨hk, DamperDyn.tick_sound hd⟩

theorem State.passTime_machines (hs : s.MachinesSound) : s.passTime.MachinesSound := by
  unfold State.passTime
  split
  · refine State.finish_machines ⟨fun i => ?_, fun i => ?_⟩
    · dsimp only; rw [vector_ofFn_get]; exact pointSound_tick _ (hs.1 i)
    · dsimp only; rw [vector_ofFn_get]; exact outputSound_tick _ (hs.2 i)
  · exact hs

/-- The state that a due expiry meets differs at most in the count of free choices (log entry 3). -/
theorem State.nextExpiry_state {c : Instr} (h : s.nextExpiry = some (c, t)) :
    t = s ∨ t = s.setFreeIndex (s.freeIndex + 1) := by
  unfold State.nextExpiry at h
  split at h
  · split at h
    · cases h
    · cases h; exact .inl rfl
    · cases h; exact .inr rfl
  · cases h

/-- Settles O58: every command and every quarter second keeps each machine sound. -/
theorem stepKeepsMachinesSound : Obligations.StepKeepsMachinesSound := by
  unfold Obligations.StepKeepsMachinesSound
  intro s t ht hs h
  unfold step at h
  split at h
  · rename_i c rest hp
    exact exec_machines (s := s.setPending rest) ht hs h
  · unfold State.idle at h
    split at h
    · rename_i c u hnext
      rcases State.nextExpiry_state hnext with rfl | rfl
      · exact exec_machines ht hs h
      · exact exec_machines (s := s.setFreeIndex (s.freeIndex + 1)) ht hs h
    · cases h; exact State.passTime_machines hs

end

end Sys2Proof.Machine

namespace Sys2Proof.Machine

/-! ## The full-queue rule (R127) -/

/-- A running maximum passes a number exactly when its start or one of the values does. -/
theorem lt_foldl_max_iff {α : Type} (g : α → Nat) (n : Nat) (l : List α) (a : Nat) :
    n < l.foldl (fun m x => max m (g x)) a ↔ n < a ∨ ∃ x ∈ l, n < g x := by
  induction l generalizing a with
  | nil => simp
  | cons x l ih => rw [List.foldl_cons, ih, lt_max_iff, or_assoc]; simp

/-- Among the frames looked at, some frame is less urgent than a priority exactly when the least urgent of them is. -/
theorem lt_leastUrgent_iff {looked : QEntry → Bool} {q : List QEntry} {n : Nat} :
    n < leastUrgent looked q ↔ ∃ e ∈ q, looked e = true ∧ n < e.frame.prio.toNat := by
  rw [leastUrgent, lt_foldl_max_iff fun e : QEntry => e.frame.prio.toNat]
  simp [and_assoc]

theorem le_leastUrgent {looked : QEntry → Bool} {q : List QEntry} {e : QEntry} (he : e ∈ q) (hl : looked e = true) :
    e.frame.prio.toNat ≤ leastUrgent looked q := by
  by_contra h
  exact absurd (lt_leastUrgent_iff.2 ⟨e, he, hl, Nat.lt_of_not_le h⟩) (lt_irrefl _)

/-- Some frame looked at has the least urgent priority, when that is less urgent than another. -/
theorem exists_leastUrgent {looked : QEntry → Bool} {q : List QEntry} {n : Nat} (h : n < leastUrgent looked q) :
    ∃ e ∈ q, looked e = true ∧ e.frame.prio.toNat = leastUrgent looked q := by
  obtain ⟨e, he, hl, hlt⟩ := lt_leastUrgent_iff.1 (Nat.sub_one_lt_of_lt h)
  have := le_leastUrgent he hl
  exact ⟨e, he, hl, by omega⟩

/-- What is taken out is the newest frame of those that satisfy `p`. -/
theorem removeNewest_spec {p : QEntry → Bool} {q : List QEntry} (h : ∃ e ∈ q, p e = true) :
    ∃ pre x post, q = pre ++ x :: post ∧ p x = true ∧ (∀ e ∈ post, ¬p e = true) ∧ removeNewest p q = pre ++ post := by
  obtain ⟨e, he, hp⟩ := h
  obtain ⟨x, newer, older, hnewer, hx, hq, herase⟩ := List.exists_of_eraseP (List.mem_reverse.2 he) hp
  refine ⟨older.reverse, x, newer.reverse, ?_, hx, by simpa using hnewer, ?_⟩
  · rw [← List.reverse_reverse q, hq]; simp
  · rw [removeNewest, herase]; simp

section
variable {p q r : Port} {room : Prop} {looked : QEntry → Bool} {e : QEntry}

/-- Joining a queue, in the words of the claims: what becomes of the frames and the drop counter. -/
theorem Port.join_met {full : Bool} (hfull : full = false ↔ room) :
    p.Met (p.join full looked e).1 room looked e.frame e.origin p.counters := by
  rcases p.join_cases full looked e with ⟨hf, hj⟩ | ⟨hf, hlt, hj⟩ | ⟨hf, hle, hj⟩ <;> rw [hj]
  · exact ⟨rfl, rfl, fun _ => ⟨by simp [Port.frames], rfl⟩, fun h => absurd (hfull.1 hf) h⟩
  · have hno : ¬room := fun h => by rw [hfull.2 h] at hf; cases hf
    refine ⟨rfl, rfl, fun h => absurd h hno, fun _ => ⟨rfl, fun hall => ?_, fun _ => ?_⟩⟩
    · obtain ⟨x, hx, hl, hlt⟩ := lt_leastUrgent_iff.1 hlt
      exact absurd (BitVec.le_def.1 (hall x hx hl)) (Nat.not_le.2 hlt)
    · obtain ⟨y, hy, hl, hworst⟩ := exists_leastUrgent hlt
      obtain ⟨pre, x, post, hq, hx, hpost, hrem⟩ := removeNewest_spec (q := p.queue)
        (p := fun x => looked x && x.frame.prio.toNat == leastUrgent looked p.queue) ⟨y, hy, by simp [hl, hworst]⟩
      simp only [Bool.and_eq_true, beq_iff_eq] at hx hpost
      refine ⟨pre, post, x, hq, hx.1, fun z hz hzl => ?_, fun z hz hzl => ?_, ?_⟩
      · rw [BitVec.le_def, hx.2]; exact le_leastUrgent hz hzl
      · rw [BitVec.lt_def, hx.2]
        exact lt_of_le_of_ne (le_leastUrgent (by rw [hq]; simp [hz]) hzl) fun heq => hpost z hz ⟨hzl, heq⟩
      · simp [Port.frames, hrem]
  · have hno : ¬room := fun h => by rw [hfull.2 h] at hf; cases hf
    refine ⟨rfl, rfl, fun h => absurd h hno, fun _ => ⟨rfl, fun _ => rfl, fun ⟨x, hx, hl, hlt⟩ => ?_⟩⟩
    exact absurd (lt_leastUrgent_iff.2 ⟨x, hx, hl, BitVec.lt_def.1 hlt⟩) (Nat.not_lt.2 hle)

/-- A frame joins the queue exactly when the queue admits its priority. -/
theorem Port.join_joins_iff {full : Bool} (hfull : full = false ↔ room) :
    (p.join full looked e).2 = true ↔ p.Admits room looked e.frame.prio := by
  unfold Port.Admits
  simp only [BitVec.lt_def, ← lt_leastUrgent_iff]
  rcases p.join_cases full looked e with ⟨hf, hj⟩ | ⟨hf, hlt, hj⟩ | ⟨hf, hle, hj⟩ <;> rw [hj]
  · exact iff_of_true rfl (.inl (hfull.1 hf))
  · exact iff_of_true rfl (.inr hlt)
  · refine iff_of_false (by simp) (not_or.2 ⟨fun h => ?_, Nat.not_lt.2 hle⟩)
    rw [hfull.2 h] at hf; cases hf

/-- What is on offer does not count among what has met a queue. -/
theorem Port.Met.sameLine {f : Frame} {o : Origin} {c : PortCounters} (h : p.Met q room looked f o c)
    (k : q.SameLine r) : p.Met r room looked f o c := by
  obtain ⟨hon, hframes, hrec, hcount⟩ := k
  unfold Port.Met
  rw [hon, hframes, hrec, hcount]
  exact h

theorem Port.HeardOnly.sameLine {c : PortCounters} (h : p.HeardOnly q c) (k : q.SameLine r) : p.HeardOnly r c := by
  obtain ⟨hon, hframes, hrec, hcount⟩ := k
  unfold Port.HeardOnly
  rw [hon, hframes, hrec, hcount]
  exact h

theorem Port.Joined.sameLine {f : Frame} {o : Origin} {c : PortCounters} (h : p.Joined q f o c) (k : q.SameLine r) :
    p.Joined r f o c := by
  obtain ⟨hon, hframes, hrec, hcount⟩ := k
  unfold Port.Joined
  rw [hon, hframes, hrec, hcount]
  exact h

/-- A port after a frame has met its TRUNK queue, with room or without. -/
theorem Port.joinTrunk_met : p.MetTrunk (p.joinTrunk e).1 e.frame e.origin p.counters :=
  Port.join_met (by simp)

theorem Port.joinTrunk_joins_iff :
    (p.joinTrunk e).2 = true ↔ p.Admits p.TrunkHasRoom (fun _ => true) e.frame.prio :=
  Port.join_joins_iff (by simp)

end

/-! ## Forwarding up (R129, R130) -/

section
variable {s t u : State} {f : Frame} {c : PortCounters}

/-- Forwarding up, in the words of the claims. -/
theorem State.forwardUp_upward (s : State) (f : Frame) : s.Upward (s.forwardUp f) f s.field.counters := by
  have hmet : s.trunk.MetTrunk (s.trunk.joinTrunk (forwardedEntry f)).1 (onward f) .forwarded s.trunk.counters :=
    Port.joinTrunk_met
  have hjoins : (s.trunk.joinTrunk (forwardedEntry f)).2 = true ↔
      s.trunk.Admits s.trunk.TrunkHasRoom (fun _ => true) f.prio := Port.joinTrunk_joins_iff
  refine ⟨fun hop => ?_, fun hop => ?_⟩
  · rw [State.forwardUp_of_hop hop]
    exact ⟨Port.SameLine.refl _, rfl, rfl, rfl, rfl⟩
  · rw [State.forwardUp, if_neg hop]
    dsimp only
    split
    · rename_i h
      exact ⟨hmet, fun _ => ⟨rfl, rfl, rfl, rfl⟩, fun hno => absurd (hjoins.1 h) hno⟩
    · rename_i h
      exact ⟨hmet, fun hyes => absurd (hjoins.2 hyes) h, fun _ => ⟨rfl, rfl, rfl, rfl⟩⟩

/-- What has gone up, seen from the state before the frame was received. -/
theorem State.Upward.of_heard (h : u.Upward t f c) (htrunk : u.trunk = s.trunk)
    (hfield : s.field.HeardOnly u.field u.field.counters) : s.Upward t f c := by
  obtain ⟨hon, hframes, hrec, -⟩ := hfield
  unfold State.Upward Port.HeardOnly at h ⊢
  rw [htrunk, hon, hframes, hrec] at h
  exact h

theorem State.Upward.quiet (h : s.Upward t f c) (k : t.QuietLines u) : s.Upward u f c :=
  ⟨fun hop => ⟨(h.1 hop).1.trans k.2, (h.1 hop).2.sameLine k.1⟩,
    fun hop => ⟨(h.2 hop).1.sameLine k.2, fun hj => ((h.2 hop).2.1 hj).sameLine k.1,
      fun hj => ((h.2 hop).2.2 hj).sameLine k.1⟩⟩

/-- Whether a RESTART is due is told by its pending mark and the TRUNK queue (R165). -/
theorem State.restartDue_congr (hp : t.restartPending = s.restartPending) (hq : t.trunk.queue = s.trunk.queue) :
    t.restartDue = s.restartDue := by simp only [State.restartDue, Port.holdsRestartReply, hp, hq]

/-- A frame that joins a TRUNK queue with room makes no RESTART due. -/
theorem State.forwardUp_restartDue (hd : s.restartDue = false)
    (hr : s.restartPending = false ∨ s.trunk.TrunkHasRoom) : (s.forwardUp f).restartDue = false := by
  have hpend : (s.forwardUp f).restartPending = s.restartPending := by rw [s.forwardUp_onlyLines f]
  rcases hr with hr | hr
  · exact State.restartDue_of_not_pending (hpend.trans hr)
  · by_cases hop : f.hop = 15
    · rw [State.forwardUp_of_hop hop]; exact hd
    · rw [State.forwardUp_of_room hop hr]
      simp only [State.restartDue, Port.holdsRestartReply] at hd ⊢
      cases hp : s.restartPending
      · simp [hp]
      · rw [hp] at hd; simp_all

/-- A frame goes up at the end of an event that was otherwise quiet on the lines. -/
theorem State.forwardUp_finish (hd : u.restartDue = false) (hr : u.restartPending = false ∨ u.trunk.TrunkHasRoom) :
    u.Upward (u.forwardUp f).finish f u.field.counters ∧ u.OnlyLines (u.forwardUp f).finish := by
  have hq := State.finish_quiet (State.forwardUp_restartDue (f := f) hd hr)
  exact ⟨(u.forwardUp_upward f).quiet hq.2, (u.forwardUp_onlyLines f).trans hq.1⟩

end

/-! ## SAMPLE (R4, R6, R130) -/

section
variable {s t u : State} {p : PortId} {hd : Header} {data : List Byte}

@[simp] theorem State.heard_points : (s.heard p).points = s.points := s.setPort_points p _
@[simp] theorem State.heard_pointAt (node : Byte) : (s.heard p).pointAt node = s.pointAt node := by cases p <;> rfl
@[simp] theorem State.heard_isPointNode (node : Byte) : (s.heard p).isPointNode node = s.isPointNode node := by
  cases p <;> rfl

theorem exec_sample : exec (.sample hd data) s = onFrame .field (State.fieldReceive (hd.frame kindSample data)) s := rfl

/-- A SAMPLE frame is decided as one. -/
theorem State.fieldReceive_sample : s.fieldReceive (hd.frame kindSample data) = s.receiveSample (hd.frame kindSample data) := by
  have hreq : (hd.frame kindSample data).kind ≠ kindMgmtReq := by change kindSample ≠ kindMgmtReq; decide
  rw [State.fieldReceive, if_neg hreq]
  exact if_pos rfl

/-- A SAMPLE that the FIELD port hears. -/
theorem exec_sample_of_hears (h : s.Hears .field) :
    exec (.sample hd data) s = .next ((s.heard .field).receiveSample (hd.frame kindSample data)).finish := by
  rw [exec_sample, onFrame_of h.1 h.2.1, State.fieldReceive_sample]

/-- The counts of a heard port, on the lines as they were. -/
theorem State.heard_field_heardOnly (s : State) : s.field.HeardOnly (s.heard .field).field s.field.counters.heard :=
  ⟨rfl, rfl, rfl, rfl⟩

/-- When a sample is due, changed or bad (R6). -/
theorem sampleForwarded_iff {f : PointFields} {old new : PointDyn} {raw : Nat} {warm sensorFault : Bool} :
    sampleForwarded f old new raw warm sensorFault = true ↔
      (1 ≤ f.forwardEvery ∧ old.forwardCount + 1 = f.forwardEvery) ∨ new.state.code ≠ old.state.code
        ∨ new.grade ≠ old.grade ∨ classify f raw warm sensorFault = .bad := by
  have hdue : (forwardStep f.forwardEvery old.forwardCount).2 = true ↔
      1 ≤ f.forwardEvery ∧ old.forwardCount + 1 = f.forwardEvery := by
    unfold forwardStep
    split_ifs <;> simp <;> omega
  simp only [sampleForwarded, PointState.changed, Bool.or_eq_true, hdue, bne_iff_ne, beq_iff_eq, ne_comm, or_assoc]

theorem forwardStep_count (every count : Nat) :
    (forwardStep every count).1 = if every = 0 then count else if count + 1 = every then 0 else count + 1 := by
  unfold forwardStep
  split_ifs <;> rfl

/-- A sample that is taken touches no line and no pending RESTART. -/
theorem State.takeSample_lines (s : State) (i : Fin 64) (v : SamplePayload) :
    (s.takeSample i v).field = s.field ∧ (s.takeSample i v).trunk = s.trunk
      ∧ (s.takeSample i v).restartPending = s.restartPending := by
  unfold State.takeSample
  split
  · dsimp only
    split
    · rw [State.countBadSample_eq, State.updatePoint_frame]; exact ⟨rfl, rfl, rfl⟩
    · rw [State.updatePoint_frame]; exact ⟨rfl, rfl, rfl⟩
  · exact ⟨rfl, rfl, rfl⟩

/-- A well-formed SAMPLE of an IN_SERVICE point: the point takes it, and it goes up or stays (R130). -/
theorem exec_sample_taken {i : Fin 64} {f : PointFields} {d : PointDyn} {v : SamplePayload} (h : s.Hears .field)
    (hr : s.restartPending = false ∨ s.trunk.TrunkHasRoom) (hi : s.pointAt hd.src = some i)
    (hp : s.points[i] = .inService f d) (hv : samplePayload? data = some v) :
    let up := sampleForwarded f d (d.takeSample f v.raw v.warm v.sensorFault) v.raw v.warm v.sensorFault = true
    ∃ t, exec (.sample hd data) s = .next t ∧ ((s.heard .field).takeSample i v).OnlyLines t
      ∧ (up → s.Upward t (hd.frame kindSample data) s.field.counters.heard) ∧ (¬up → s.StayedBelow t) := by
  have hgoes : (s.heard .field).sampleGoesUp i v =
      sampleForwarded f d (d.takeSample f v.raw v.warm v.sensorFault) v.raw v.warm v.sensorFault := by
    unfold State.sampleGoesUp
    rw [State.heard_points, hp]
  have hreceive : (s.heard .field).receiveSample (hd.frame kindSample data) =
      if (s.heard .field).sampleGoesUp i v then ((s.heard .field).takeSample i v).forwardUp (hd.frame kindSample data)
      else (s.heard .field).takeSample i v := by
    unfold State.receiveSample
    rw [State.heard_pointAt, show (hd.frame kindSample data).src = hd.src from rfl, hi]
    dsimp only
    rw [show (hd.frame kindSample data).data = data from rfl, hv]
  obtain ⟨hfield, htrunk, hpend⟩ := (s.heard .field).takeSample_lines i v
  have hdue : ((s.heard .field).takeSample i v).restartDue = false := by
    rw [State.restartDue_congr hpend (by rw [htrunk]), State.heard_restartDue]; exact h.2.2
  have hroom : ((s.heard .field).takeSample i v).restartPending = false
      ∨ ((s.heard .field).takeSample i v).trunk.TrunkHasRoom := by rw [hpend, htrunk]; exact hr
  have hheard : s.field.HeardOnly ((s.heard .field).takeSample i v).field s.field.counters.heard := by
    rw [hfield]; exact s.heard_field_heardOnly
  dsimp only
  rw [exec_sample_of_hears h, hreceive, hgoes]
  split
  · rename_i hup
    obtain ⟨hupward, honly⟩ := State.forwardUp_finish (f := hd.frame kindSample data) hdue hroom
    have hcount : ((s.heard .field).takeSample i v).field.counters = s.field.counters.heard := hheard.2.2.2
    rw [hcount] at hupward
    exact ⟨_, rfl, honly, fun _ => hupward.of_heard htrunk (by rw [hcount]; exact hheard), fun hno => absurd hup hno⟩
  · rename_i hup
    obtain ⟨honly, hquiet⟩ := State.finish_quiet hdue
    refine ⟨_, rfl, honly, fun hyes => absurd hyes hup, fun _ => ⟨?_, hheard.sameLine hquiet.1⟩⟩
    have htrunk' := hquiet.2
    rw [htrunk] at htrunk'
    exact htrunk'

/-- A frame that is only counted and forwarded up. -/
theorem forwarded_onlyLines {c : PortCounters} {fr : Frame} (h : s.Hears .field)
    (hr : s.restartPending = false ∨ s.trunk.TrunkHasRoom) (hline : s.OnlyLines t) (htrunk : t.trunk = s.trunk)
    (hfield : s.field.HeardOnly t.field c) :
    s.OnlyLines (t.forwardUp fr).finish ∧ s.Upward (t.forwardUp fr).finish fr c := by
  have hpend : t.restartPending = s.restartPending := by rw [hline]
  have hdue : t.restartDue = false := by rw [State.restartDue_congr hpend (by rw [htrunk])]; exact h.2.2
  obtain ⟨hup, honly⟩ := State.forwardUp_finish (f := fr) hdue (by rw [hpend, htrunk]; exact hr)
  have hcount : t.field.counters = c := hfield.2.2.2
  rw [hcount] at hup
  exact ⟨hline.trans honly, hup.of_heard htrunk (by rw [hcount]; exact hfield)⟩

/-- Settles O9: the sample that is taken, the malformed one, that of a point in DRAFT, and the stranger's. -/
theorem samplesForwardedByIndication : Obligations.SamplesForwardedByIndication := by
  unfold Obligations.SamplesForwardedByIndication
  intro s hd data h hr
  have hsrc : (hd.frame kindSample data).src = hd.src := rfl
  refine ⟨fun i f d v hi hp hv => ?_, fun i hi hv => ?_, fun hi hnode => ?_, fun hnode => ?_⟩
  · obtain ⟨t, ht, -, hup, hstay⟩ := exec_sample_taken h hr hi hp hv
    rw [sampleForwarded_iff] at hup hstay
    exact ⟨PointDyn.takeSample_counts.2.trans (forwardStep_count _ _), t, ht, hup, hstay⟩
  · have hreceive : (s.heard .field).receiveSample (hd.frame kindSample data) =
        ((s.heard .field).countMalformed .field).forwardUp (hd.frame kindSample data) := by
      unfold State.receiveSample
      rw [State.heard_pointAt, hsrc, hi]
      dsimp only
      rw [show (hd.frame kindSample data).data = data from rfl, hv]
    rw [exec_sample_of_hears h, hreceive]
    exact ⟨_, rfl, forwarded_onlyLines h hr rfl rfl ⟨rfl, rfl, rfl, rfl⟩⟩
  · have hreceive : (s.heard .field).receiveSample (hd.frame kindSample data) =
        (s.heard .field).forwardUp (hd.frame kindSample data) := by
      unfold State.receiveSample
      rw [State.heard_pointAt, hsrc, hi]
      dsimp only
      rw [State.heard_isPointNode, hnode, if_pos rfl]
    rw [exec_sample_of_hears h, hreceive]
    exact ⟨_, rfl, forwarded_onlyLines h hr rfl rfl ⟨rfl, rfl, rfl, rfl⟩⟩
  · have hi : s.pointAt hd.src = none := by
      refine List.find?_eq_none.2 fun i hi => ?_
      have := List.any_eq_false.1 hnode i hi
      simp_all
    have hreceive : (s.heard .field).receiveSample (hd.frame kindSample data) =
        (s.heard .field).countStranger.forwardUp (hd.frame kindSample data) := by
      unfold State.receiveSample
      rw [State.heard_pointAt, hsrc, hi]
      dsimp only
      rw [State.heard_isPointNode, hnode, if_neg (by simp)]
    have hline : (s.setCounters { s.counters with stranger := satInc s.counters.stranger }).OnlyLines
        (s.heard .field).countStranger := rfl
    rw [exec_sample_of_hears h, hreceive]
    obtain ⟨honly, hup⟩ := forwarded_onlyLines
      (s := s.setCounters { s.counters with stranger := satInc s.counters.stranger }) (fr := hd.frame kindSample data)
      (c := s.field.counters.heard) h hr hline rfl ⟨rfl, rfl, rfl, rfl⟩
    exact ⟨_, rfl, honly, hup⟩

end

end Sys2Proof.Machine

namespace Sys2Proof.Machine

/-! ## What an evaluation leaves (R28, R30 to R36, R38) -/

section
variable {r : Response} {d : ZoneDyn} {c : Level}

@[simp] theorem ZoneDyn.removeTop_level (d : ZoneDyn) : d.removeTop.level = (d.inForce.erase d.level).highest := rfl

theorem ZoneDyn.removeTop_lt (h : 0 < d.level) : d.removeTop.level < d.level := LevelSet.erase_lt h

/-- Nothing of a progress towards removal stands: no run-on, no release accepted, no wait. -/
abbrev ZoneDyn.AtRest (d : ZoneDyn) : Prop := d.runOn = none ∧ d.accepted = false ∧ d.releaseWait = false

/-- A zone with its progress towards removal undone (R33). -/
def ZoneDyn.atRest (d : ZoneDyn) : ZoneDyn := { d with runOn := none, accepted := false, releaseWait := false }

theorem ZoneDyn.atRest_eq (h : d.AtRest) : d.atRest = d := by
  obtain ⟨hrun, hacc, hwait⟩ := h
  cases d
  simp only at hrun hacc hwait
  subst hrun hacc hwait
  rfl

/-- Check 1 when c is not above E. -/
theorem ZoneDyn.checkRise_of_le (h : d.cond ≤ d.level) : d.checkRise = d := by
  rw [ZoneDyn.checkRise, if_neg (not_lt.2 h)]

/-- Check 1 when c is above E and is taken in (R31). -/
theorem ZoneDyn.checkRise_takeIn (h : d.level < d.cond) (k : 3 ≤ d.cond ∨ d.suppress = false) :
    d.checkRise = d.takeIn d.cond := by rw [ZoneDyn.checkRise, if_pos h, if_pos k]

/-- Check 1 when c is above E and is held (R32). -/
theorem ZoneDyn.checkRise_hold (h : d.level < d.cond) (k : ¬(3 ≤ d.cond ∨ d.suppress = false)) :
    d.checkRise = d.hold d.cond := by rw [ZoneDyn.checkRise, if_pos h, if_neg k]

/-- Check 2 when E is above c. -/
theorem ZoneDyn.checkPresent_of_lt (h : d.cond < d.level) : d.checkPresent = d := by
  rw [ZoneDyn.checkPresent, if_neg fun k => absurd k.2 (not_le.2 h)]

/-- Check 2 when E is present, or is 0 with nothing to undo (R33). -/
theorem ZoneDyn.checkPresent_of_le (h : d.level ≤ d.cond) (k : d.level = 0 → d.AtRest) : d.checkPresent = d.atRest := by
  unfold ZoneDyn.checkPresent
  by_cases h0 : d.level = 0
  · rw [if_neg (by rw [h0]; simp), ZoneDyn.atRest_eq (k h0)]
  · rw [if_pos ⟨Fin.one_le_of_ne_zero h0, h⟩]; rfl

/-- An evaluation ends with its first two checks when no run-on is to start. -/
theorem evaluate_of_not_starts {runOnOf : Level → Nat} {n : Nat} (h : d.checkRise.checkPresent.runOnStarts = false) :
    evaluate runOnOf (n + 1) d = d.checkRise.checkPresent := by
  unfold evaluate
  dsimp only
  rw [if_neg (by simp [h])]

theorem ZoneDyn.runOnStarts_of_le (h : d.level ≤ d.cond) : d.runOnStarts = false := by
  simp [ZoneDyn.runOnStarts, not_lt.2 h]

/-- An evaluation of a zone whose E is above c: nothing more when a run-on or a wait stands (R34). -/
theorem evaluate_above_standing {runOnOf : Level → Nat} {n : Nat} (h : d.cond < d.level)
    (k : d.runOn.isSome = true ∨ d.releaseWait = true) : evaluate runOnOf (n + 1) d = d := by
  have hcheck : d.checkRise.checkPresent = d := by
    rw [ZoneDyn.checkRise_of_le h.le, ZoneDyn.checkPresent_of_lt h]
  rw [evaluate_of_not_starts, hcheck]
  rw [hcheck, ZoneDyn.runOnStarts]
  rcases k with k | k
  · obtain ⟨q, hq⟩ := Option.isSome_iff_exists.1 k
    simp [hq]
  · simp [k]

/-- An evaluation of a zone whose E is above c and has no progress: the run-on of E starts, or expires at once (R34 to
R36). -/
theorem evaluate_above {runOnOf : Level → Nat} {n : Nat} (h : d.cond < d.level) (hrun : d.runOn = none)
    (hwait : d.releaseWait = false) :
    evaluate runOnOf (n + 1) d =
      if runOnOf d.level = 0 then
        if d.mustWait then { d with releaseWait := true } else evaluate runOnOf n d.removeTop
      else { d with runOn := timerOf (runOnOf d.level) } := by
  have hcheck : d.checkRise.checkPresent = d := by
    rw [ZoneDyn.checkRise_of_le h.le, ZoneDyn.checkPresent_of_lt h]
  have hstart : d.runOnStarts = true := by simp [ZoneDyn.runOnStarts, h, hrun, hwait]
  conv_lhs => unfold evaluate
  dsimp only
  rw [hcheck, if_pos hstart]

/-- A run-on that is not 0 s starts (R34). -/
theorem evaluate_runs {runOnOf : Level → Nat} {n : Nat} (h : d.cond < d.level) (hrun : d.runOn = none)
    (hwait : d.releaseWait = false) (h0 : runOnOf d.level ≠ 0) :
    evaluate runOnOf (n + 1) d = { d with runOn := timerOf (runOnOf d.level) } := by
  rw [evaluate_above h hrun hwait, if_neg h0]

/-- A run-on of 0 s of a fire level without release waits for it (R34, R36). -/
theorem evaluate_waits {runOnOf : Level → Nat} {n : Nat} (h : d.cond < d.level) (hrun : d.runOn = none)
    (hwait : d.releaseWait = false) (h0 : runOnOf d.level = 0) (h4 : 4 ≤ d.level) (hacc : d.accepted = false) :
    evaluate runOnOf (n + 1) d = { d with releaseWait := true } := by
  rw [evaluate_above h hrun hwait, if_pos h0, if_pos (by simp [ZoneDyn.mustWait, isFire, h4, hacc])]

/-- A run-on of 0 s of a lower level removes it at once (R34, R35). -/
theorem evaluate_chains {runOnOf : Level → Nat} {n : Nat} (h : d.cond < d.level) (hrun : d.runOn = none)
    (hwait : d.releaseWait = false) (h0 : runOnOf d.level = 0) (h4 : d.level < 4) :
    evaluate runOnOf (n + 1) d = evaluate runOnOf n d.removeTop := by
  rw [evaluate_above h hrun hwait, if_pos h0, if_neg (by simp [ZoneDyn.mustWait, isFire, not_le.2 h4])]

/-- An evaluation of a zone whose c has risen above E and is taken in (R31). -/
theorem evaluate_takeIn {runOnOf : Level → Nat} {n : Nat} (h : d.level < d.cond) (k : 3 ≤ d.cond ∨ d.suppress = false) :
    evaluate runOnOf (n + 1) d = d.takeIn d.cond := by
  have hlevel : (d.takeIn d.cond).level = d.cond :=
    (LevelSet.highest_insert d.inForce d.cond).trans (max_eq_right h.le)
  have hcheck : d.checkRise.checkPresent = d.takeIn d.cond := by
    rw [ZoneDyn.checkRise_takeIn h k, ZoneDyn.checkPresent_of_le hlevel.le fun _ => ⟨rfl, rfl, rfl⟩]
    rfl
  rw [evaluate_of_not_starts, hcheck]
  rw [hcheck]
  exact ZoneDyn.runOnStarts_of_le hlevel.le

/-- An evaluation of a zone whose c has risen above E and is held under suppression (R32). -/
theorem evaluate_hold {runOnOf : Level → Nat} {n : Nat} (h : d.level < d.cond) (k : ¬(3 ≤ d.cond ∨ d.suppress = false))
    (hrest : d.level = 0 → d.AtRest) : evaluate runOnOf (n + 1) d = (d.hold d.cond).atRest := by
  have hcheck : d.checkRise.checkPresent = (d.hold d.cond).atRest := by
    rw [ZoneDyn.checkRise_hold h k]
    exact ZoneDyn.checkPresent_of_le h.le hrest
  rw [evaluate_of_not_starts, hcheck]
  rw [hcheck]
  exact ZoneDyn.runOnStarts_of_le h.le

/-- An evaluation of a zone whose c is E: its progress is undone (R33). -/
theorem evaluate_at {runOnOf : Level → Nat} {n : Nat} (h : d.cond = d.level) (hrest : d.level = 0 → d.AtRest) :
    evaluate runOnOf (n + 1) d = d.atRest := by
  have hcheck : d.checkRise.checkPresent = d.atRest := by
    rw [ZoneDyn.checkRise_of_le h.le, ZoneDyn.checkPresent_of_le h.ge hrest]
  rw [evaluate_of_not_starts, hcheck]
  rw [hcheck]
  exact ZoneDyn.runOnStarts_of_le h.ge

/-- The removal of E, evaluated afresh, is what the claims say of a removal (R38): it ends, or the level below is removed in
turn. -/
theorem ZoneDyn.removes_evaluate (r : Response) (n : Nat) (d : ZoneDyn) (h : d.removeTop.level.val < n) :
    d.Removes r (evaluate r.runOnOf n d.removeTop) := by
  induction n generalizing d with
  | zero => exact absurd h (Nat.not_lt_zero _)
  | succ n ih =>
    have hrest : d.removeTop.AtRest := ⟨rfl, rfl, rfl⟩
    have hcond : d.removeTop.cond = d.cond := rfl
    rcases lt_trichotomy d.removeTop.level d.cond with hlt | heq | hgt
    · refine .ends _ _ _ _ rfl rfl (.inl hlt.le) ?_
      have hnot : ¬d.cond < d.removeTop.level := not_lt.2 hlt.le
      by_cases k : 3 ≤ d.cond ∨ d.suppress = false
      · rw [evaluate_takeIn hlt k]
        have h1 : ¬(d.cond = 1 ∧ d.suppress = true) := by
          rintro ⟨e, hs⟩
          rcases k with k | k
          · rw [e] at k; exact absurd k (by decide)
          · rw [hs] at k; cases k
        have h2 : ¬(d.cond = 2 ∧ d.suppress = true) := by
          rintro ⟨e, hs⟩
          rcases k with k | k
          · rw [e] at k; exact absurd k (by decide)
          · rw [hs] at k; cases k
        simp only [ZoneDyn.removeTop_level] at hlt hnot
        simp [ZoneDyn.takeIn, ZoneDyn.removeTop, hlt, hnot, k, h1, h2]
      · rw [evaluate_hold hlt k fun _ => hrest]
        obtain ⟨hlow, hs⟩ := not_or.1 k
        simp only [ZoneDyn.removeTop_level] at hlt hnot
        simp only [ZoneDyn.hold, ZoneDyn.atRest, ZoneDyn.removeTop, hlt, hnot, k, Bool.not_eq_false] at hs ⊢
        simp [hs, beq_eq_decide]
    · refine .ends _ _ _ _ rfl rfl (.inl heq.le) ?_
      rw [evaluate_at heq.symm fun _ => hrest]
      simp only [ZoneDyn.removeTop_level] at heq
      simp [ZoneDyn.atRest, ZoneDyn.removeTop, heq]
    · have hnot : ¬d.removeTop.level < d.cond := not_lt.2 hgt.le
      by_cases h0 : r.runOnOf d.removeTop.level = 0
      · rcases Nat.lt_or_ge d.removeTop.level.val 4 with hlow | hfire
        · rw [evaluate_chains hgt rfl rfl h0 hlow]
          refine .chains _ _ _ _ rfl rfl hgt h0 hlow (ih d.removeTop ?_)
          have := ZoneDyn.removeTop_lt (d := d.removeTop) (lt_of_le_of_lt (Fin.zero_le _) hgt)
          exact lt_of_lt_of_le this (Nat.le_of_lt_succ h)
        · refine .ends _ _ _ _ rfl rfl (.inr (.inr hfire)) ?_
          rw [evaluate_waits hgt rfl rfl h0 hfire rfl]
          simp only [ZoneDyn.removeTop_level] at hgt hnot h0
          simp [ZoneDyn.removeTop, hgt, hnot, h0]
      · refine .ends _ _ _ _ rfl rfl (.inr (.inl h0)) ?_
        rw [evaluate_runs hgt rfl rfl h0]
        simp only [ZoneDyn.removeTop_level] at hgt hnot h0 ⊢
        simp [ZoneDyn.removeTop, hgt, hnot, h0]

/-- A condition that is formed afresh, in the words of the claims (R28, R30). -/
theorem ZoneDyn.reformed_reforms (r : Response) (contributions : Level) (h : d.Sound) :
    d.Reforms r (d.formed contributions) (d.reformed r contributions) := by
  obtain ⟨-, -, -, -, habove, hbelow⟩ := h
  unfold ZoneDyn.reformed
  generalize d.formed contributions = c
  dsimp only
  refine ⟨fun hc => if_pos hc, fun hc => ?_⟩
  rw [if_neg hc]
  have hzero : d.level = 0 → ({ d with cond := c } : ZoneDyn).AtRest := fun h0 => hbelow (by rw [h0]; exact Fin.zero_le _)
  refine ⟨fun hlt hk => evaluate_takeIn (d := { d with cond := c }) hlt hk, fun hlt h2 hs => ?_, fun heq => ?_,
    fun hlt hk => evaluate_above_standing (d := { d with cond := c }) hlt hk, fun hlt hrun hwait => ?_⟩
  · have hk : ¬(3 ≤ c ∨ d.suppress = false) := by
      rintro (k | k)
      · exact absurd (k.trans h2) (by decide)
      · rw [hs] at k; cases k
    exact evaluate_hold (d := { d with cond := c }) hlt hk hzero
  · exact evaluate_at (d := { d with cond := c }) heq hzero
  · have hacc : d.accepted = false := by
      refine (hbelow (not_lt.1 fun hc' => ?_)).2.1
      rcases habove hc' with k | k
      · rw [hrun] at k; cases k
      · rw [hwait] at k; cases k
    refine ⟨fun h0 => evaluate_runs (d := { d with cond := c }) hlt hrun hwait h0,
      fun h0 h4 => evaluate_waits (d := { d with cond := c }) hlt hrun hwait h0 h4 hacc, fun h0 h4 => ?_⟩
    rw [ZoneDyn.evaluated, chainBound, evaluate_chains (d := { d with cond := c }) hlt hrun hwait h0 h4]
    refine ZoneDyn.removes_evaluate r 5 _ ?_
    have := ZoneDyn.removeTop_lt (d := { d with cond := c }) (lt_of_le_of_lt (Fin.zero_le _) hlt)
    exact lt_trans this (lt_trans h4 (by decide))

/-- The condition that is formed stands, whatever the evaluation does (R27). -/
theorem ZoneDyn.reformed_cond (r : Response) (contributions : Level) (d : ZoneDyn) :
    (d.reformed r contributions).cond = d.formed contributions := by
  unfold ZoneDyn.reformed
  dsimp only
  split
  · rename_i h; exact h.symm
  · exact (ZoneDyn.evaluated_same r _).cond

/-- A condition that is formed as it was changes nothing (R28). -/
theorem ZoneDyn.reformed_of_formed {contributions : Level} (h : d.cond = d.formed contributions) :
    d.reformed r contributions = d := by rw [ZoneDyn.reformed]; exact if_pos h.symm

/-! ## An event at a zone and its report slot (R56) -/

/-- What R56 watches, in the words of the claims. -/
theorem ZoneDyn.watched_eq_iff (d d' : ZoneDyn) : d.watched = d'.watched ↔ d.SameReport d' := by
  have hforce : (0 < d.force ↔ 0 < d'.force) ↔ (d'.force = 0 ↔ d.force = 0) := by
    rw [Fin.pos_iff_ne_zero, Fin.pos_iff_ne_zero, not_iff_not]; exact Iff.comm
  simp only [ZoneDyn.watched, Watched.mk.injEq, decide_eq_decide, hforce]
  unfold ZoneDyn.SameReport
  constructor <;> rintro ⟨h1, h2, h3, h4, h5, h6, h7, h8⟩ <;>
    exact ⟨h1.symm, h2.symm, h3.symm, h4.symm, h5.symm, h6.symm, h7.symm, h8⟩

variable {s t : State} {z : Fin 8} {g : ZoneDyn → ZoneDyn}

/-- The report slot of an IN_SERVICE zone after an event at it. -/
theorem State.updateZone_slot {f : ZoneFields} (h : s.zones[z] = .inService f d) :
    (s.updateZone z g).zoneSlots[z] = s.zoneSlotAfter z d (g d) := by
  rw [State.updateZone_of h, State.zoneSlotAfter]
  by_cases k : d.SameReport (g d)
  · rw [if_pos ((ZoneDyn.watched_eq_iff _ _).2 k), if_pos k]; rfl
  · rw [if_neg fun e => k ((ZoneDyn.watched_eq_iff _ _).1 e), if_neg k, State.setZoneSlot_zoneSlots, vector_set_self]

/-- An event that leaves its zone as it is changes nothing. -/
theorem State.updateZone_id {f : ZoneFields} (h : s.zones[z] = .inService f d) (hg : g d = d) : s.updateZone z g = s := by
  rw [State.updateZone_of h, hg, if_pos rfl]
  have hset : s.zones.set z (.inService f d) = s.zones := by
    refine Vector.ext fun i hi => ?_
    have := vector_set_get s.zones z ⟨i, hi⟩ (.inService f d)
    simp only [Fin.getElem_fin] at this
    rw [this]
    split
    · rename_i e; subst e; exact h.symm
    · rfl
  unfold State.setZone
  rw [hset]

/-- Whether a slot's report is on offer is told by the TRUNK port. -/
theorem State.onOffer_congr (h : t.trunk = s.trunk) (id : SlotId) : t.onOffer id = s.onOffer id := by
  unfold State.onOffer; rw [h]

/-! ## Contributions (R27) -/

/-- What one point entry contributes to a zone: nothing out of service or for another zone. -/
def entryContribution (z : Fin 8) : Entry PointFields PointDyn → Level
  | .inService f d => if f.zone = z then contribution f d else 0
  | _ => 0

theorem State.contributions_eq (s : State) (z : Fin 8) :
    s.contributions z = (List.finRange 64).foldl (fun m i => max m (entryContribution z s.points[i])) 0 := by
  unfold State.contributions
  congr 1
  funext m i
  cases s.points[i] with
  | vacant | draft f => simp [entryContribution]
  | inService f d =>
    by_cases h : f.zone = z
    · simp [entryContribution, h]
    · simp [entryContribution, h]

/-- A point that contributes what it did before leaves every zone's contributions as they were. -/
theorem State.contributions_set {i : Fin 64} {e : Entry PointFields PointDyn}
    (hp : t.points = s.points.set i e) (he : entryContribution z e = entryContribution z s.points[i]) :
    t.contributions z = s.contributions z := by
  rw [State.contributions_eq, State.contributions_eq, hp]
  congr 1
  funext m j
  rw [vector_set_get]
  split
  · rename_i h; rw [he, h]
  · rfl

theorem State.contributions_congr (hp : t.points = s.points) (z : Fin 8) : t.contributions z = s.contributions z := by
  unfold State.contributions; rw [hp]

/-- A zone formed afresh, in the words of the claims: `u` differs from `s` in no zone, slot, response or offer. -/
theorem State.reformZone_reformed {u : State} (hz : u.zones = s.zones) (hslots : u.zoneSlots = s.zoneSlots)
    (hr : u.response = s.response) (ho : u.onOffer (.zone z) = s.onOffer (.zone z)) (htz : t.zones = (u.reformZone z).zones)
    (hts : t.zoneSlots = (u.reformZone z).zoneSlots) (htp : t.points = u.points) : s.ZoneReformed t z := by
  intro f d hd hsound
  have hd' : u.zones[z] = .inService f d := by rw [hz]; exact hd
  refine ⟨d.reformed s.response (u.contributions z), ?_, ?_, ?_⟩
  · rw [htz, State.reformZone, State.updateZone_self hd', hr]
  · rw [hts, State.reformZone, State.updateZone_slot hd', hr]
    unfold State.zoneSlotAfter
    rw [hslots, ho]
  · rw [State.contributions_congr htp]
    exact ZoneDyn.reformed_reforms _ _ hsound

theorem State.reformZone_other {y : Fin 8} (h : y ≠ z) :
    (s.reformZone z).zones[y] = s.zones[y] ∧ (s.reformZone z).zoneSlots[y] = s.zoneSlots[y] := State.updateZone_other h

end

end Sys2Proof.Machine

namespace Sys2Proof.Machine

/-! ## Tables and slots of a state that differs in the lines alone -/

theorem State.OnlyLines.points {s t : State} (h : s.OnlyLines t) : t.points = s.points := by
  rw [h]

theorem State.OnlyLines.zones {s t : State} (h : s.OnlyLines t) : t.zones = s.zones := by
  rw [h]

theorem State.OnlyLines.zoneSlots {s t : State} (h : s.OnlyLines t) : t.zoneSlots = s.zoneSlots := by
  rw [h]

theorem State.OnlyLines.pointSlots {s t : State} (h : s.OnlyLines t) : t.pointSlots = s.pointSlots := by
  rw [h]

/-! ## What an event at a point leaves (R22, R27, R168) -/

section
variable {s t : State} {i : Fin 64} {f : PointFields} {d : PointDyn} {g : PointFields → PointDyn → PointDyn}

theorem State.pointMarked_frame (s : State) (i : Fin 64) (old new : PointState) :
    s.pointMarked i old new = { s with pointSlots := (s.pointMarked i old new).pointSlots } := by
  unfold State.pointMarked; split <;> rfl

/-- A point that neither enters nor leaves FAULT sets no trouble slot. -/
theorem State.pointMarked_of_same {old new : PointState} (h : new.isFault = old.isFault) : s.pointMarked i old new = s := by
  cases old <;> cases new <;> first | rfl | cases h

/-- A point that leaves FAULT sets its trouble slot. -/
theorem State.pointMarked_of_exit {old new : PointState} (ho : old.isFault = true) (hn : new.isFault = false) :
    s.pointMarked i old new = s.markPoint i none := by
  cases old with
  | await | live => cases ho
  | fault r =>
    cases new with
    | await | live => rfl
    | fault r => cases hn

/-- A point that enters FAULT sets its trouble slot with the reason. -/
theorem State.pointMarked_of_entry {old : PointState} {r : PointFault} (ho : old.isFault = false) :
    s.pointMarked i old (.fault r) = s.markPoint i (some r.reason) := by
  cases old with
  | await | live => rfl
  | fault q => cases ho

theorem State.updatePoint_points (h : s.points[i] = .inService f d) :
    (s.updatePoint i g).points = s.points.set i (.inService f (g f d)) := by
  have hmark := (State.pointMarked_sameMachines (s.setPoint i (.inService f (g f d))) i d.state (g f d).state).1
  rw [State.updatePoint_of h]
  split
  · exact hmark
  · exact (State.reformZone_sameMachines _ _).1.trans hmark

theorem State.updatePoint_pointSlots (h : s.points[i] = .inService f d) :
    (s.updatePoint i g).pointSlots = (s.pointMarked i d.state (g f d).state).pointSlots := by
  have hset : ((s.setPoint i (.inService f (g f d))).pointMarked i d.state (g f d).state).pointSlots =
      (s.pointMarked i d.state (g f d).state).pointSlots := by unfold State.pointMarked; split <;> rfl
  rw [State.updatePoint_of h]
  split
  · exact hset
  · rw [State.reformZone, State.updateZone_frame]; exact hset

/-- A zone that the point does not name, or whose contribution stays, is as it was (R22). -/
theorem State.updatePoint_zone (h : s.points[i] = .inService f d) {z : Fin 8}
    (hz : z ≠ f.zone ∨ contribution f (g f d) = contribution f d) :
    (s.updatePoint i g).zones[z] = s.zones[z] ∧ (s.updatePoint i g).zoneSlots[z] = s.zoneSlots[z] := by
  have hmark := (s.setPoint i (.inService f (g f d))).pointMarked_frame i d.state (g f d).state
  rw [State.updatePoint_of h]
  split
  · rw [hmark]; exact ⟨rfl, rfl⟩
  · rename_i hc
    have hne : z ≠ f.zone := hz.resolve_right (Ne.symm hc)
    obtain ⟨hzone, hslot⟩ := State.reformZone_other
      (s := (s.setPoint i (.inService f (g f d))).pointMarked i d.state (g f d).state) hne
    rw [hzone, hslot, hmark]
    exact ⟨rfl, rfl⟩

/-- A changed contribution has its zone's condition formed afresh (R22, R27). -/
theorem State.updatePoint_reforms (h : s.points[i] = .inService f d)
    (hc : contribution f (g f d) ≠ contribution f d) (htz : t.zones = (s.updatePoint i g).zones)
    (hts : t.zoneSlots = (s.updatePoint i g).zoneSlots) (htp : t.points = (s.updatePoint i g).points) :
    s.ZoneReformed t f.zone := by
  have hmark := (s.setPoint i (.inService f (g f d))).pointMarked_frame i d.state (g f d).state
  rw [State.updatePoint_of h, if_neg (Ne.symm hc)] at htz hts htp
  refine State.reformZone_reformed ?_ ?_ ?_ ?_ htz hts (htp.trans (State.reformZone_sameMachines _ _).1)
  · rw [hmark]; rfl
  · rw [hmark]; rfl
  · rw [hmark]; rfl
  · exact State.onOffer_congr (by rw [hmark]; rfl) _

end

/-! ## SAMPLE at its point (R4, R5, R9, R10) -/

section
variable {s : State} {i : Fin 64} {f : PointFields} {d : PointDyn} {raw : Nat} {warm sensorFault : Bool}

/-- The states that a sample can leave a point in. -/
theorem PointDyn.takeSample_state : (d.takeSample f raw warm sensorFault).state = d.state
    ∨ (d.takeSample f raw warm sensorFault).state = .live
    ∨ (d.takeSample f raw warm sensorFault).state = .fault .sensor := by
  cases h : classify f raw warm sensorFault with
  | valid => rw [PointDyn.takeSample_valid h]; exact .inr (.inl rfl)
  | bad => rw [PointDyn.takeSample_bad h]; exact .inl rfl
  | warmUp => rw [PointDyn.takeSample_warmUp h, PointDyn.takeWarmUp]; split <;> exact .inl rfl
  | sensorFault =>
    rw [PointDyn.takeSample_sensorFault h, PointDyn.takeSensorFault]
    split
    · exact .inl rfl
    · exact .inr (.inr rfl)

/-- A sample that takes a point to FAULT does so with reason SENSOR (R9). -/
theorem PointDyn.takeSample_fault (ho : d.state.isFault = false)
    (hn : (d.takeSample f raw warm sensorFault).state.isFault = true) :
    (d.takeSample f raw warm sensorFault).state = .fault .sensor := by
  rcases PointDyn.takeSample_state (d := d) (f := f) (raw := raw) (warm := warm) (sensorFault := sensorFault)
    with h | h | h
  · rw [h, ho] at hn; cases hn
  · rw [h] at hn; cases hn
  · exact h

/-- A sample that is taken: the event at its point, and the count of bad samples. -/
theorem State.takeSample_of {v : SamplePayload} (h : s.points[i] = .inService f d) :
    s.takeSample i v =
      let u := s.updatePoint i fun f d => d.takeSample f v.raw v.warm v.sensorFault
      if classify f v.raw v.warm v.sensorFault = .bad then u.countBadSample else u := by
  unfold State.takeSample
  rw [h]

/-- A sample that is taken changes points, zones, their slots and the bad-sample counter alone. -/
theorem State.takeSample_frame {v : SamplePayload} (h : s.points[i] = .inService f d) :
    s.takeSample i v =
      let u := s.updatePoint i fun f d => d.takeSample f v.raw v.warm v.sensorFault
      { s with
        points := u.points, pointSlots := u.pointSlots, zones := u.zones, zoneSlots := u.zoneSlots
        counters := if classify f v.raw v.warm v.sensorFault = .bad
          then { s.counters with badSamples := satInc s.counters.badSamples } else s.counters } := by
  have hframe := s.updatePoint_frame i fun f d => d.takeSample f v.raw v.warm v.sensorFault
  rw [State.takeSample_of h]
  dsimp only
  split
  · rw [State.countBadSample_eq, hframe]; rfl
  · exact hframe

/-- Settles O4: the event at the sample's point, its zone and its slot. -/
theorem sampleTakenByItsPoint : Obligations.SampleTakenByItsPoint := by
  unfold Obligations.SampleTakenByItsPoint
  intro s hd data i f d v h hr hi hp hv
  obtain ⟨t, ht, honly, -, -⟩ := exec_sample_taken h hr hi hp hv
  have hp' : (s.heard .field).points[i] = .inService f d := hp
  rw [State.takeSample_frame hp'] at honly
  have hpoints := honly.points
  have hzones := honly.zones
  have hslots := honly.zoneSlots
  have hmarks := honly.pointSlots
  dsimp only at hpoints hzones hslots hmarks ⊢
  have hpointSlots := State.updatePoint_pointSlots
    (g := fun f d => d.takeSample f v.raw v.warm v.sensorFault) hp'
  refine ⟨t, ht, ?_, fun z hz => ?_, fun hc => ?_, fun j hj => ?_, fun hf => ?_⟩
  · conv_lhs => rw [honly]
    rw [State.updatePoint_points hp', hzones, hslots, hmarks]
    rfl
  · rw [hzones, hslots]
    exact State.updatePoint_zone hp' hz
  · exact State.updatePoint_reforms (s := s.heard .field) hp' hc hzones hslots hpoints
  · rw [hmarks, hpointSlots]
    by_cases hsame : (d.takeSample f v.raw v.warm v.sensorFault).state.isFault = d.state.isFault
    · rw [State.pointMarked_of_same hsame]; rfl
    · have hne : j ≠ i := hj.resolve_right hsame
      unfold State.pointMarked
      split
      · exact vector_set_ne _ _ hne
      · rfl
  · rw [hmarks, hpointSlots]
    cases ho : d.state.isFault with
    | true =>
      have hn : (d.takeSample f v.raw v.warm v.sensorFault).state.isFault = false := by
        rw [ho] at hf; simpa using hf
      rw [State.pointMarked_of_exit ho hn, if_neg (by simp [hn])]
      exact vector_set_self _ _ _
    | false =>
      have hn : (d.takeSample f v.raw v.warm v.sensorFault).state.isFault = true := by
        rw [ho] at hf; simpa using hf
      rw [PointDyn.takeSample_fault ho hn, State.pointMarked_of_entry ho]
      exact vector_set_self _ _ _

/-! ## SILENCE_TIMER_EXPIRY (R9, R11) -/

/-- Settles O10: the silent point's event, with no RESTART due at its end. -/
theorem silenceTakesThePointToFault : Obligations.SilenceTakesThePointToFault := by
  unfold Obligations.SilenceTakesThePointToFault
  intro s i f d hw hdue hp hf htimer
  have hruns : (s.silenceTimer i).isSome = true := by
    unfold State.silenceTimer
    rw [hp]
    simpa [hf] using htimer
  have hframe := s.updatePoint_frame i fun _ => PointDyn.silent
  have hdue' : (s.updatePoint i fun _ => PointDyn.silent).restartDue = false := by rw [hframe]; exact hdue
  obtain ⟨honly, hquiet⟩ := State.finish_quiet hdue'
  have hlines : s.QuietLines (s.updatePoint i fun _ => PointDyn.silent).finish := by
    refine ⟨?_, ?_⟩
    · rw [show s.field = (s.updatePoint i fun _ => PointDyn.silent).field by rw [hframe]]; exact hquiet.1
    · rw [show s.trunk = (s.updatePoint i fun _ => PointDyn.silent).trunk by rw [hframe]]; exact hquiet.2
  have hpoints := State.updatePoint_points (g := fun _ => PointDyn.silent) hp
  have hmarks := State.updatePoint_pointSlots (g := fun _ => PointDyn.silent) hp
  rw [show (PointDyn.silent d).state = .fault .silent from rfl, State.pointMarked_of_entry hf] at hmarks
  have hexec : exec (.silenceTimerExpiry i) s = .next (s.updatePoint i fun _ => PointDyn.silent).finish := by
    rw [exec_silenceTimerExpiry, onEvent_of hw hruns]
  generalize (s.updatePoint i fun _ => PointDyn.silent).finish = t at hexec honly hlines
  refine ⟨t, hexec, hlines, ?_, ?_, ?_, rfl⟩
  · conv_lhs => rw [honly, hframe]
    dsimp only
    rw [hpoints, hmarks, honly.zones, honly.zoneSlots]
    rfl
  · intro z hz
    rw [honly.zones, honly.zoneSlots]
    exact State.updatePoint_zone hp (hz.imp_right Eq.symm)
  · intro hc
    exact State.updatePoint_reforms (g := fun _ => PointDyn.silent) hp hc.symm honly.zones honly.zoneSlots honly.points

end

end Sys2Proof.Machine

namespace Sys2Proof.Machine

/-! ## A request that is answered (R153, R155) -/

section
variable {s t u : State} {src tag : Byte} {r : Request}

@[simp] theorem State.heard_saving (p : PortId) : (s.heard p).saving = s.saving := by cases p <;> rfl
@[simp] theorem State.heard_lifeCycle (p : PortId) (e : EntryRef) : (s.heard p).lifeCycle e = s.lifeCycle e := by
  cases p <;> rfl

/-- A reply joins a TRUNK queue with room, and nothing else changes but what is on offer (R153). -/
theorem State.queueReply_finish {dst code : Byte} {n : Nat} {data : List Byte} (hpend : u.restartPending = false)
    (hroom : u.trunk.TrunkHasRoom) :
    u.trunk.Joined (u.queueReply .reply dst code tag n data).finish.trunk (u.replyFrame dst code tag n data) .reply
        u.trunk.counters
      ∧ u.field.SameLine (u.queueReply .reply dst code tag n data).finish.field
      ∧ u.OnlyLines (u.queueReply .reply dst code tag n data).finish := by
  have honly := u.queueReply_onlyLines .reply dst code tag n data
  have hdue : (u.queueReply .reply dst code tag n data).restartDue = false :=
    State.restartDue_of_not_pending hpend
  obtain ⟨hfin, hfield, htrunk⟩ := State.finish_quiet hdue
  have hjoined : u.trunk.Joined (u.queueReply .reply dst code tag n data).trunk (u.replyFrame dst code tag n data) .reply
      u.trunk.counters := by
    rw [State.queueReply_of_room hroom]
    exact ⟨rfl, by simp [Port.frames], rfl, rfl⟩
  exact ⟨hjoined.sameLine htrunk, hfield, honly.trans hfin⟩

/-- Two ports of the same line hold as many frames. -/
theorem Port.SameLine.queue_length {p q : Port} (h : p.SameLine q) : q.queue.length = p.queue.length := by
  have hlen := congrArg List.length h.2.1
  simpa only [Port.frames, List.length_map] using hlen

/-- A request that is decided as done: its reply joins the TRUNK queue, and the rest is what the request left. -/
theorem onRequest_done {data : List Byte} (hr : s.Ready) (hdec : (s.heard .trunk).decide r = .done u data)
    (hpend : u.restartPending = false) (hact : u.active = s.active) (htrunk : (s.heard .trunk).trunk.SameLine u.trunk) :
    ∃ t, onRequest src tag r s = .next t
      ∧ s.trunk.Joined t.trunk (s.replyFrame src r.code tag 0 data) .reply s.trunk.counters.heard
      ∧ u.field.SameLine t.field ∧ u.OnlyLines t := by
  obtain ⟨⟨hworks, hon, -⟩, hnot, hroom⟩ := hr
  have hexec : onRequest src tag r s = .next (u.queueReply .reply src r.code tag 0 data).finish := by
    rw [onRequest, onFrame_of hworks hon, State.takeRequest_done (by simpa using hnot) hdec]
  have hroom' : u.trunk.TrunkHasRoom := by rw [Port.TrunkHasRoom, htrunk.queue_length]; exact hroom
  obtain ⟨⟨hon', hframes, hrec, hcount⟩, hfield, honly⟩ :=
    State.queueReply_finish (dst := src) (code := r.code) (tag := tag) (n := 0) (data := data) hpend hroom'
  obtain ⟨kon, kframes, krec, kcount⟩ := htrunk
  have hreply : u.replyFrame src r.code tag 0 data = s.replyFrame src r.code tag 0 data := by
    simp only [State.replyFrame, State.originate, hact]
  rw [hreply] at hframes
  refine ⟨_, hexec, ⟨hon'.trans kon, ?_, hrec.trans krec, hcount.trans kcount⟩, hfield, honly⟩
  rw [hframes, kframes]
  rfl

/-- A request that is refused is answered, and changes nothing else (R155). -/
theorem onRequest_refused {c : ReplyCode} (hr : s.Ready) (hdec : (s.heard .trunk).decide r = .refused c) :
    ∃ t, onRequest src tag r s = .next t ∧ s.Answered t src r.code tag c.code c.data ∧ s.OnlyLines t := by
  obtain ⟨⟨hworks, hon, -⟩, hnot, hroom⟩ := hr
  have hexec : onRequest src tag r s =
      .next ((s.heard .trunk).queueReply .reply src r.code tag c.code c.data).finish := by
    rw [onRequest, onFrame_of hworks hon, State.takeRequest_refused (by simpa using hnot) hdec, State.refuse]
  obtain ⟨hjoined, hfield, honly⟩ :=
    State.queueReply_finish (u := s.heard .trunk) (dst := src) (code := r.code) (tag := tag) (n := c.code) (data := c.data)
      hnot hroom
  exact ⟨_, hexec, ⟨hfield, hjoined⟩, State.OnlyLines.trans (t := s.heard .trunk) rfl honly⟩

/-! ## Naming the entry of a life-cycle request (R152) -/

section
variable {index : Byte}

theorem lifeCycleRef_point {i : Fin 64} (h : indexOf 64 index = some i) : lifeCycleRef 1 index = .ok (.point i) := by
  simp [lifeCycleRef, entryRef, indexed, h]

theorem lifeCycleRef_zone {z : Fin 8} (h : indexOf 8 index = some z) : lifeCycleRef 2 index = .ok (.zone z) := by
  simp [lifeCycleRef, entryRef, indexed, h]

theorem lifeCycleRef_output {i : Fin 24} (h : indexOf 24 index = some i) : lifeCycleRef 3 index = .ok (.output i) := by
  simp [lifeCycleRef, entryRef, indexed, h]

theorem lifeCycleRef_window {w : Fin 8} (h : indexOf 8 index = some w) : lifeCycleRef 4 index = .ok (.window w) := by
  simp [lifeCycleRef, entryRef, indexed, h]

/-- A life-cycle request of an entry in the state it takes, with no SAVE in flight. -/
theorem State.lifeCycleEntry_of {table : Byte} {e : EntryRef} {from_ : LifeCycle} (hs : s.saving = false)
    (he : lifeCycleRef table index = .ok e) (hl : s.lifeCycle e = from_) :
    s.lifeCycleEntry table index from_ = .ok e := by
  simp [State.lifeCycleEntry, he, hs, hl]

/-- A life-cycle request of an entry in another state than it takes is answered STATE. -/
theorem State.lifeCycleEntry_state {table : Byte} {e : EntryRef} {from_ : LifeCycle} (hs : s.saving = false)
    (he : lifeCycleRef table index = .ok e) (hl : s.lifeCycle e ≠ from_) :
    s.lifeCycleEntry table index from_ = .error .state := by
  simp [State.lifeCycleEntry, he, hs, hl]

end

/-! ## The checks of a commission (R141) -/

/-- CAL_ORDER, in the words of the claims (R142). -/
theorem PointFields.calOrder_iff_infix (f : PointFields) :
    f.calOrder = true ↔ (f.raw4 ≠ none → f.raw3 ≠ none) ∧ ∀ p q, [p, q] <:+: f.pairs → p.1 < q.1 ∧ p.2 ≤ q.2 := by
  rw [f.calOrder_iff, pairsRise_iff_isChain, isChain_iff_infix]

/-- CAL_WIDTH (R142). -/
theorem PointFields.calWidth_iff (f : PointFields) : f.calWidth = true ↔ ∀ p ∈ f.pairs, p.1 < 2 ^ f.width := by
  simp [PointFields.calWidth]

/-- THRESH_ORDER (R142). -/
theorem PointFields.threshOrder_iff (f : PointFields) :
    f.threshOrder = true ↔ f.fallA < f.riseA
      ∧ ∀ b, f.riseB = some b → ∃ c, f.fallB = some c ∧ f.riseA ≤ b ∧ f.fallA ≤ c ∧ c < b := by
  unfold PointFields.threshOrder
  cases f.riseB with
  | none => simp
  | some b => cases f.fallB <;> simp [and_assoc]

/-- The levels that a kind allows (R2). -/
abbrev PointKind.Allowed (k : PointKind) (l : Level) : Prop :=
  match k with
  | .co | .no2 => l = 1 ∨ l = 2
  | .h2 => l = 3
  | .smoke | .heat => l = 4

theorem PointKind.allows_iff (k : PointKind) (l : Level) : k.allows l = true ↔ k.Allowed l := by
  cases k <;> simp [PointKind.allows, PointKind.Allowed]

/-- LEVEL_KIND (R142). -/
theorem PointFields.levelKind_iff (f : PointFields) :
    f.levelKind = true ↔ f.kind.Allowed f.levelA
      ∧ (f.riseB ≠ none → ∃ l, f.levelB = some l ∧ f.kind.Allowed l ∧ f.levelA ≤ l) := by
  unfold PointFields.levelKind
  rw [Bool.and_eq_true, PointKind.allows_iff]
  cases f.riseB with
  | none => simp
  | some b => cases f.levelB <;> simp [PointKind.allows_iff]

/-! ### Nodes (R139) -/

theorem State.pointNode_iff {i : Fin 64} {node : Byte} : s.pointNode i = some node ↔ s.PointHasNode i node := by
  unfold State.pointNode State.PointHasNode
  cases s.points[i] <;> simp [Entry.fields?]

theorem State.outputNode_iff {i : Fin 24} {node : Byte} : s.outputNode i = some node ↔ s.OutputHasNode i node := by
  unfold State.outputNode State.OutputHasNode
  cases s.outputs[i] <;> simp [Entry.fields?]

theorem State.nodeTaken_point_iff {i : Fin 64} {node : Byte} :
    s.nodeTaken (.point i) node = true ↔ s.NodeInUse (some i) none node := by
  simp [State.nodeTaken, State.NodeInUse, State.pointNode_iff, State.outputNode_iff, or_assoc, and_comm]

theorem State.nodeTaken_output_iff {i : Fin 24} {node : Byte} :
    s.nodeTaken (.output i) node = true ↔ s.NodeInUse none (some i) node := by
  simp [State.nodeTaken, State.NodeInUse, State.pointNode_iff, State.outputNode_iff, or_assoc, and_comm]

/-- NODE_DUPLICATE of a point (R142). -/
theorem State.nodeFree_point_iff {i : Fin 64} {node : Option Byte} :
    s.nodeFree (.point i) node = true ↔ ∃ n, node = some n ∧ ¬s.NodeInUse (some i) none n := by
  cases node <;> simp [State.nodeFree, ← State.nodeTaken_point_iff]

/-- NODE_DUPLICATE of an output (R144). -/
theorem State.nodeFree_output_iff {i : Fin 24} {node : Option Byte} :
    s.nodeFree (.output i) node = true ↔ ∃ n, node = some n ∧ ¬s.NodeInUse none (some i) n := by
  cases node <;> simp [State.nodeFree, ← State.nodeTaken_output_iff]

/-! ### Zones (R143) -/

theorem State.outputIs_iff {i : Fin 24} {k : OutputKind} :
    s.outputIs i k = true ↔ ∃ g d, s.outputs[i] = .inService g d ∧ g.kind = k := by
  unfold State.outputIs
  cases s.outputs[i] <;> simp

/-- OUTPUT_NOT_IN_SERVICE (R143). -/
theorem State.branchesInService_iff {f : ZoneFields} :
    s.branchesInService f = true ↔ ∀ k ∈ f.branches,
      s.outputs[f.fans[k]].isInService = true ∧ ∀ j ∈ f.dampers[k], s.outputs[j].isInService = true := by
  unfold State.branchesInService
  rw [List.all_eq_true]
  refine forall₂_congr fun k _ => ?_
  cases f.dampers[k] <;> simp

/-- KIND_MISMATCH (R143). -/
theorem State.branchKinds_iff {f : ZoneFields} :
    s.branchKinds f = true ↔ ∀ k ∈ f.branches,
      s.outputIs f.fans[k] .fan = true ∧ ∀ j ∈ f.dampers[k], s.outputIs j .damper = true := by
  unfold State.branchKinds
  rw [List.all_eq_true]
  refine forall₂_congr fun k _ => ?_
  cases f.dampers[k] <;> simp

/-- FLOW_ORDER (R143). -/
theorem ZoneFields.flowOrder_iff (f : ZoneFields) :
    f.flowOrder = true ↔ f.minFlow ≤ f.fumeLowFlow ∧ f.fumeLowFlow ≤ f.fumeHighFlow ∧ f.fumeHighFlow ≤ f.maxFlow := by
  simp [ZoneFields.flowOrder, and_assoc]

theorem fits_iff {start duration period : Nat} :
    fits start duration period = true ↔ start < period ∧ duration ≤ period := by simp [fits]

/-- PURGE_RANGE (R75, R143). -/
theorem State.purgeRange_iff {f : ZoneFields} :
    s.purgeRange f = true ↔ ∀ j, f.clock = some j →
      ∀ period, period = s.clocks[j].period ∨ s.clocks[j].staged = some period →
        f.purgeStart < period ∧ f.purgeDuration ≤ period := by
  have hperiods (c : PurgeClock) :
      (fits f.purgeStart f.purgeDuration c.period && fits f.purgeStart f.purgeDuration c.next) = true ↔
        ∀ period, period = c.period ∨ c.staged = some period → f.purgeStart < period ∧ f.purgeDuration ≤ period := by
    rw [Bool.and_eq_true, fits_iff, fits_iff, PurgeClock.next]
    cases c.staged <;> simp [or_imp, forall_and, and_and_and_comm]
  unfold State.purgeRange
  cases f.clock with
  | none => simp
  | some j =>
    refine (hperiods s.clocks[j]).trans ⟨fun h k e => ?_, fun h => h j rfl⟩
    cases e
    exact h

end

end Sys2Proof.Machine

namespace Sys2Proof.Machine

section
variable {s t u : State} {src tag index table : Byte} {r : Request}

/-- A request that is decided as done, where it leaves both lines as it met them. -/
theorem onRequest_changes {data : List Byte} (hr : s.Ready) (hdec : (s.heard .trunk).decide r = .done (u.heard .trunk) data)
    (htrunk : u.trunk = s.trunk) (hfield : u.field = s.field) (hact : u.active = s.active)
    (hpend : u.restartPending = s.restartPending) :
    ∃ t, onRequest src tag r s = .next t ∧ s.Answered t src r.code tag 0 data ∧ u.OnlyLines t := by
  obtain ⟨t, ht, hjoined, hsame, honly⟩ := onRequest_done (src := src) (tag := tag) hr hdec (hpend.trans hr.2.1) hact
    (by rw [show (u.heard .trunk).trunk = (s.heard .trunk).trunk from congrArg Port.countReceived htrunk]
        exact Port.SameLine.refl _)
  rw [show (u.heard .trunk).field = s.field from hfield] at hsame
  exact ⟨t, ht, ⟨hsame, hjoined⟩, State.OnlyLines.trans (t := u.heard .trunk) rfl honly⟩

/-! ## ENTRY_COMMISSION (R141 to R144) -/

/-- A commission of a DRAFT entry, with no SAVE in flight, is decided by its checks. -/
theorem State.entryCommission_of {e : EntryRef} (hs : s.saving = false) (he : lifeCycleRef table index = .ok e)
    (hl : s.lifeCycle e = .draft) : (s.heard .trunk).entryCommission table index = (s.heard .trunk).commissionEntry e := by
  rw [State.entryCommission, State.lifeCycleEntry_of (by simpa using hs) he (by simpa using hl)]

/-- A commission that enters service. -/
theorem commission_done (hr : s.Ready) (h : (s.heard .trunk).entryCommission table index = .ok (u.heard .trunk))
    (htrunk : u.trunk = s.trunk) (hfield : u.field = s.field) (hact : u.active = s.active)
    (hpend : u.restartPending = s.restartPending) : s.Done (.entryCommission src tag table index) src 4 tag [] u :=
  onRequest_changes (r := .entryCommission table index) hr (by rw [State.decide, h]; rfl) htrunk hfield hact hpend

/-- A commission that is refused. -/
theorem commission_refused {c : ReplyCode} (hr : s.Ready) (h : (s.heard .trunk).entryCommission table index = .error c) :
    s.Refuses (.entryCommission src tag table index) src 4 tag c :=
  onRequest_refused (r := .entryCommission table index) hr (by rw [State.decide, h]; rfl)

/-- A point enters service with no contribution, so that a zone whose condition is formed stays as it is (R12, R27). -/
theorem State.commissionPoint_of_formed {i : Fin 64} {f : PointFields} (hp : s.points[i] = .draft f)
    (hz : s.zones[f.zone].isInService = true) (hformed : s.ConditionsFormed) :
    s.commissionPoint i f = s.setPoint i (.inService f f.initial) := by
  cases h : s.zones[f.zone] with
  | vacant | draft g => rw [h] at hz; cases hz
  | inService g e =>
    have hcond : e.cond = e.formed (s.contributions f.zone) := hformed f.zone e (by rw [h]; rfl)
    have hnew : entryContribution f.zone (.inService f f.initial) = 0 := if_pos rfl
    have hcontrib : (s.setPoint i (.inService f f.initial)).contributions f.zone = s.contributions f.zone :=
      State.contributions_set rfl (by rw [hp, hnew]; rfl)
    exact State.updateZone_id (s := s.setPoint i (.inService f f.initial)) h
      (ZoneDyn.reformed_of_formed (by rw [hcontrib]; exact hcond))

/-- The commission of a point in DRAFT: the checks of R142 in their order, and the point in service (R12). -/
theorem State.entryCommission_point {i : Fin 64} {f : PointFields} (hs : s.saving = false)
    (hi : indexOf 64 index = some i) (hp : s.points[i] = .draft f) :
    (s.heard .trunk).entryCommission 1 index = checked (s.pointChecks i f) ((s.heard .trunk).commissionPoint i f) := by
  rw [State.entryCommission_of hs (lifeCycleRef_point hi) (by simp only [State.lifeCycle, hp]; rfl), State.commissionEntry]
  simp only [State.heard_points, hp]
  rfl

/-- The commission of a zone in DRAFT (R53, R143). -/
theorem State.entryCommission_zone {z : Fin 8} {f : ZoneFields} (hs : s.saving = false)
    (hi : indexOf 8 index = some z) (hp : s.zones[z] = .draft f) :
    (s.heard .trunk).entryCommission 2 index = checked (s.zoneChecks f) ((s.heard .trunk).commissionZone z f) := by
  have hp' : (s.heard .trunk).zones[z] = .draft f := hp
  rw [State.entryCommission_of hs (lifeCycleRef_zone hi) (by simp only [State.lifeCycle, hp]; rfl), State.commissionEntry]
  simp only [hp']
  rfl

/-- The commission of an output in DRAFT (R117, R144). -/
theorem State.entryCommission_output {i : Fin 24} {f : OutputFields} (hs : s.saving = false)
    (hi : indexOf 24 index = some i) (hp : s.outputs[i] = .draft f) :
    (s.heard .trunk).entryCommission 3 index =
      checked [(s.nodeFree (.output i) f.node, .nodeDuplicate)] ((s.heard .trunk).commissionOutput i f) := by
  have hp' : (s.heard .trunk).outputs[i] = .draft f := hp
  rw [State.entryCommission_of hs (lifeCycleRef_output hi) (by simp only [State.lifeCycle, hp]; rfl), State.commissionEntry]
  simp only [hp']
  rfl

/-- The commission of a window in DRAFT (R144). -/
theorem State.entryCommission_window {w : Fin 8} {f : WindowFields} (hs : s.saving = false)
    (hi : indexOf 8 index = some w) (hp : s.windows[w] = .draft f) :
    (s.heard .trunk).entryCommission 4 index =
      checked [(f.start != f.stop, .windowRange)] ((s.heard .trunk).setWindow w (.inService f ())) := by
  have hp' : (s.heard .trunk).windows[w] = .draft f := hp
  rw [State.entryCommission_of hs (lifeCycleRef_window hi) (by simp only [State.lifeCycle, hp]; rfl), State.commissionEntry]
  simp only [hp']

/-- An output as the claims say that it enters service (R117). -/
theorem OutputFields.initial_eq (f : OutputFields) :
    f.initial = match f.kind with
      | .fan => .fan FanDyn.initial
      | .damper => .damper ⟨.travelling, .closed, .unknown, timerOf f.travelTimeout, none⟩ := by
  unfold OutputFields.initial
  cases f.kind <;> rfl

/-- Settles O45: each table's checks in their order, and the entry in service. -/
theorem commissionEntersService : Obligations.CommissionEntersService := by
  unfold Obligations.CommissionEntersService
  intro s src tag index hr hs
  have failed {p : Prop} {b : Bool} (hb : b = true ↔ p) (h : ¬p) : b = false := Bool.eq_false_iff.2 (mt hb.1 h)
  refine ⟨fun i f hi hp => ?_, fun z f hi hp => ?_, fun i f hi hp => ?_, fun w f hi hp => ?_, fun table e he hl => ?_⟩
  · have hentry := State.entryCommission_point hs hi hp
    have refused {c : CheckReason}
        (h : checked (s.pointChecks i f) ((s.heard .trunk).commissionPoint i f) = .error (.checkFailed c)) :
        s.Refuses (.entryCommission src tag 1 index) src 4 tag (.checkFailed c) := commission_refused hr (hentry.trans h)
    unfold State.pointChecks at hentry refused
    refine ⟨fun h => refused ?_, fun k1 h => refused ?_, fun k1 k2 h => refused ?_, fun k1 k2 k3 h => refused ?_,
      fun k1 k2 k3 k4 h => refused ?_, fun k1 k2 k3 k4 k5 h => refused ?_, fun k1 k2 k3 k4 k5 k6 hformed => ?_⟩
    · rw [failed f.calOrder_iff_infix h]; rfl
    · rw [f.calOrder_iff_infix.2 k1, failed f.calWidth_iff h]; rfl
    · rw [f.calOrder_iff_infix.2 k1, f.calWidth_iff.2 k2, failed f.threshOrder_iff h]; rfl
    · rw [f.calOrder_iff_infix.2 k1, f.calWidth_iff.2 k2, f.threshOrder_iff.2 k3, failed f.levelKind_iff h]; rfl
    · rw [f.calOrder_iff_infix.2 k1, f.calWidth_iff.2 k2, f.threshOrder_iff.2 k3, f.levelKind_iff.2 k4,
        failed State.nodeFree_point_iff h]; rfl
    · rw [f.calOrder_iff_infix.2 k1, f.calWidth_iff.2 k2, f.threshOrder_iff.2 k3, f.levelKind_iff.2 k4,
        State.nodeFree_point_iff.2 k5, failed Iff.rfl h]; rfl
    · rw [f.calOrder_iff_infix.2 k1, f.calWidth_iff.2 k2, f.threshOrder_iff.2 k3, f.levelKind_iff.2 k4,
        State.nodeFree_point_iff.2 k5, k6,
        State.commissionPoint_of_formed (s := s.heard .trunk) hp k6 hformed] at hentry
      exact commission_done hr hentry rfl rfl rfl rfl
  · have hentry := State.entryCommission_zone hs hi hp
    have refused {c : CheckReason}
        (h : checked (s.zoneChecks f) ((s.heard .trunk).commissionZone z f) = .error (.checkFailed c)) :
        s.Refuses (.entryCommission src tag 2 index) src 4 tag (.checkFailed c) := commission_refused hr (hentry.trans h)
    have hkinds : s.branchKinds f = true ↔ ∀ k ∈ f.branches,
        (∃ g d, s.outputs[f.fans[k]] = .inService g d ∧ g.kind = .fan)
          ∧ ∀ j ∈ f.dampers[k], ∃ g d, s.outputs[j] = .inService g d ∧ g.kind = .damper := by
      simp only [State.branchKinds_iff, State.outputIs_iff]
    unfold State.zoneChecks at hentry refused
    refine ⟨fun h => refused ?_, fun k1 h => refused ?_, fun k1 k2 h => refused ?_, fun k1 k2 k3 h => refused ?_,
      fun k1 k2 k3 k4 => ?_⟩
    · rw [failed State.branchesInService_iff h]; rfl
    · rw [State.branchesInService_iff.2 k1, failed hkinds h]; rfl
    · rw [State.branchesInService_iff.2 k1, hkinds.2 k2, failed f.flowOrder_iff h]; rfl
    · rw [State.branchesInService_iff.2 k1, hkinds.2 k2, f.flowOrder_iff.2 k3, failed State.purgeRange_iff h]; rfl
    · rw [State.branchesInService_iff.2 k1, hkinds.2 k2, f.flowOrder_iff.2 k3, State.purgeRange_iff.2 k4] at hentry
      exact commission_done hr hentry rfl rfl rfl rfl
  · have hentry := State.entryCommission_output hs hi hp
    refine ⟨fun h => ?_, fun h => ?_⟩
    · rw [State.nodeFree_output_iff.2 h] at hentry
      have hdone := commission_done (src := src) (tag := tag) (u := s.commissionOutput i f) hr hentry rfl rfl rfl rfl
      rw [State.commissionOutput, f.initial_eq] at hdone
      exact hdone
    · rw [failed State.nodeFree_output_iff h] at hentry
      exact commission_refused hr hentry
  · have hentry := State.entryCommission_window hs hi hp
    refine ⟨fun h => ?_, fun h => ?_⟩
    · rw [bne_iff_ne.2 h] at hentry
      exact commission_done hr hentry rfl rfl rfl rfl
    · rw [failed bne_iff_ne (not_not.2 h)] at hentry
      exact commission_refused hr hentry
  · refine commission_refused hr ?_
    rw [State.entryCommission, State.lifeCycleEntry_state (by simpa using hs) he (by simpa using hl)]

/-! ## ENTRY_RETIRE (R145) -/

/-- The zone is in fire, by its E (R50). -/
theorem State.isFire_zoneLevel_iff {z : Fin 8} : isFire (s.zoneLevel z) = true ↔ s.ZoneInFire z := by
  unfold State.zoneLevel State.ZoneInFire
  cases s.zones[z] <;> simp [isFire]

/-- An IN_SERVICE point names the zone (R145). -/
theorem State.zoneReferenced_iff {z : Fin 8} :
    s.zoneReferenced z = true ↔ ∃ (i : Fin 64) (g : PointFields) (e : PointDyn), s.points[i] = .inService g e ∧ g.zone = z := by
  unfold State.zoneReferenced
  rw [List.any_eq_true]
  constructor
  · rintro ⟨i, -, h⟩
    split at h
    · exact ⟨i, _, _, by assumption, by simpa using h⟩
    · cases h
  · rintro ⟨i, g, e, h, hz⟩
    exact ⟨i, List.mem_finRange i, by simp [h, hz]⟩

/-- A branch of an IN_SERVICE zone names the output (R145). -/
theorem State.reachesOutput_iff {z : Fin 8} {i : Fin 24} : s.reachesOutput z i = true ↔ s.ZoneNames z i := by
  unfold State.reachesOutput State.ZoneNames ZoneFields.namesOutput
  cases s.zones[z] <;> simp

theorem State.outputReferenced_iff {i : Fin 24} : s.outputReferenced i = true ↔ ∃ z, s.ZoneNames z i := by
  simp [State.outputReferenced, State.reachesOutput_iff]

theorem State.outputLocked_iff {i : Fin 24} : s.outputLocked i = true ↔ ∃ z, s.ZoneNames z i ∧ s.ZoneInFire z := by
  simp only [State.outputLocked, List.any_eq_true, Bool.and_eq_true, State.reachesOutput_iff, State.isFire_zoneLevel_iff,
    List.mem_finRange, true_and]

/-- A retirement of an IN_SERVICE entry, with no SAVE in flight, is decided by the entry. -/
theorem State.entryRetire_of {e : EntryRef} (hs : s.saving = false) (he : lifeCycleRef table index = .ok e)
    (hl : s.lifeCycle e = .inService) : (s.heard .trunk).entryRetire table index = (s.heard .trunk).retireEntry e := by
  rw [State.entryRetire, State.lifeCycleEntry_of (by simpa using hs) he (by simpa using hl)]

/-- A retirement that is done: its reply, and what it leaves. -/
theorem retire_done (hr : s.Ready) (h : (s.heard .trunk).entryRetire table index = .ok u)
    (hpend : u.restartPending = false) (hact : u.active = s.active) (htrunk : (s.heard .trunk).trunk.SameLine u.trunk) :
    ∃ t, exec (.entryRetire src tag table index) s = .next t
      ∧ s.trunk.Joined t.trunk (s.replyFrame src 5 tag 0 []) .reply s.trunk.counters.heard
      ∧ u.field.SameLine t.field ∧ u.OnlyLines t :=
  onRequest_done (r := .entryRetire table index) hr (by rw [State.decide, h]; rfl) hpend hact htrunk

/-- A retirement that is refused. -/
theorem retire_refused {c : ReplyCode} (hr : s.Ready) (h : (s.heard .trunk).entryRetire table index = .error c) :
    s.Refuses (.entryRetire src tag table index) src 5 tag c :=
  onRequest_refused (r := .entryRetire table index) hr (by rw [State.decide, h]; rfl)

/-- A retirement of an entry that is not IN_SERVICE is answered STATE. -/
theorem retire_state {e : EntryRef} (hr : s.Ready) (hs : s.saving = false) (he : lifeCycleRef table index = .ok e)
    (hl : s.lifeCycle e ≠ .inService) : s.Refuses (.entryRetire src tag table index) src 5 tag .state := by
  refine retire_refused hr ?_
  rw [State.entryRetire, State.lifeCycleEntry_state (by simpa using hs) he (by simpa using hl)]

theorem Entry.lifeCycle_ne_inService {φ δ : Type} {e : Entry φ δ} (h : e.isInService = false) :
    e.lifeCycle ≠ .inService := by
  cases e with
  | vacant | draft f => exact nofun
  | inService f d => cases h

/-- The point's trouble slot as it leaves service (R12, R168). -/
def State.pointSlotsRetired (s : State) (i : Fin 64) (d : PointDyn) : Vector TroubleSlot 64 :=
  if d.state.isFault then
    s.pointSlots.set i { s.pointSlots[i] with slot := s.pointSlots[i].slot.mark (s.onOffer (.point i)) }
  else s.pointSlots

/-- The part with a point back in DRAFT, before its zone is formed afresh. -/
def State.pointWithdrawn (s : State) (i : Fin 64) (f : PointFields) (d : PointDyn) : State :=
  { s with points := s.points.set i (.draft f), pointSlots := s.pointSlotsRetired i d }

theorem State.retirePoint_eq (s : State) (i : Fin 64) (f : PointFields) (d : PointDyn) :
    s.retirePoint i f d = (s.pointWithdrawn i f d).reformZone f.zone := by
  unfold State.retirePoint State.pointWithdrawn State.pointSlotsRetired
  cases d.state.isFault <;> rfl

/-- A point that leaves service changes itself, its slot, and through its zone the zones and their slots; nothing else. -/
theorem State.retirePoint_frame (s : State) (i : Fin 64) (f : PointFields) (d : PointDyn) :
    s.retirePoint i f d = { s with
      points := s.points.set i (.draft f), pointSlots := s.pointSlotsRetired i d
      zones := (s.retirePoint i f d).zones, zoneSlots := (s.retirePoint i f d).zoneSlots } := by
  rw [State.retirePoint_eq, State.reformZone, State.updateZone_frame]
  rfl

/-- A point that contributes nothing leaves a zone whose condition is formed as it was. -/
theorem State.retirePoint_of_formed {i : Fin 64} {f : PointFields} {d : PointDyn} (hp : s.points[i] = .inService f d)
    (hformed : s.ConditionsFormed) (hc : contribution f d = 0) : s.retirePoint i f d = s.pointWithdrawn i f d := by
  rw [State.retirePoint_eq]
  cases h : s.zones[f.zone] with
  | vacant | draft g => exact State.updateZone_of_not (s := s.pointWithdrawn i f d) (congrArg Entry.isInService h)
  | inService g e =>
    have hcond : e.cond = e.formed (s.contributions f.zone) := hformed f.zone e (by rw [h]; rfl)
    have hold : entryContribution f.zone (.inService f d) = 0 := (if_pos rfl).trans hc
    have hcontrib : (s.pointWithdrawn i f d).contributions f.zone = s.contributions f.zone :=
      State.contributions_set rfl (by rw [hp, hold]; rfl)
    exact State.updateZone_id (s := s.pointWithdrawn i f d) h
      (ZoneDyn.reformed_of_formed (by rw [hcontrib]; exact hcond))

/-- The retirement of a point whose zone is not in fire (R12). -/
theorem State.entryRetire_point {i : Fin 64} {f : PointFields} {d : PointDyn} (hs : s.saving = false)
    (hi : indexOf 64 index = some i) (hp : s.points[i] = .inService f d) (hfire : ¬s.ZoneInFire f.zone) :
    (s.heard .trunk).entryRetire 1 index = .ok ((s.heard .trunk).retirePoint i f d) := by
  have hcold : isFire ((s.heard .trunk).zoneLevel f.zone) = false :=
    Bool.eq_false_iff.2 fun h => hfire (State.isFire_zoneLevel_iff.1 h)
  rw [State.entryRetire_of hs (lifeCycleRef_point hi) (by simp only [State.lifeCycle, hp]; rfl), State.retireEntry]
  simp [hp, hcold]

/-- The retirement of a zone (R54, R145). -/
theorem State.entryRetire_zone {z : Fin 8} {f : ZoneFields} {d : ZoneDyn} (hs : s.saving = false)
    (hi : indexOf 8 index = some z) (hp : s.zones[z] = .inService f d) :
    (s.heard .trunk).entryRetire 2 index =
      if s.zoneReferenced z then .error .referenced
      else if d.level = 0 then .ok ((s.heard .trunk).retireZone z f) else .error .state := by
  have hp' : (s.heard .trunk).zones[z] = .inService f d := hp
  rw [State.entryRetire_of hs (lifeCycleRef_zone hi) (by simp only [State.lifeCycle, hp]; rfl), State.retireEntry]
  simp only [hp']
  rfl

/-- The retirement of an output that no zone in fire names (R117, R145). -/
theorem State.entryRetire_output {i : Fin 24} {f : OutputFields} {d : OutputDyn} (hs : s.saving = false)
    (hi : indexOf 24 index = some i) (hp : s.outputs[i] = .inService f d) (hlock : s.outputLocked i = false) :
    (s.heard .trunk).entryRetire 3 index =
      if s.outputReferenced i then .error .referenced else .ok ((s.heard .trunk).retireOutput i f d) := by
  have hp' : (s.heard .trunk).outputs[i] = .inService f d := hp
  have hlock' : (s.heard .trunk).outputLocked i = false := hlock
  rw [State.entryRetire_of hs (lifeCycleRef_output hi) (by simp only [State.lifeCycle, hp]; rfl), State.retireEntry]
  simp only [hp', hlock', Bool.false_eq_true, if_false]
  rfl

/-- The retirement of a window (R145). -/
theorem State.entryRetire_window {w : Fin 8} {f : WindowFields} (hs : s.saving = false)
    (hi : indexOf 8 index = some w) (hp : s.windows[w] = .inService f ()) :
    (s.heard .trunk).entryRetire 4 index = .ok ((s.heard .trunk).setWindow w (.draft f)) := by
  have hp' : (s.heard .trunk).windows[w] = .inService f () := hp
  rw [State.entryRetire_of hs (lifeCycleRef_window hi) (by simp only [State.lifeCycle, hp]; rfl), State.retireEntry]
  simp only [hp']

/-- A zone's report on offer loses its slot, and its line stays as it was (R54, R170). -/
theorem State.detachReport_sameLine (s : State) (z : Fin 8) : s.trunk.SameLine (s.detachReport z).trunk := by
  unfold State.detachReport
  split <;> exact ⟨rfl, rfl, rfl, rfl⟩

/-- The slots of the outputs as one leaves service (R117, R168). -/
theorem State.retireOutput_eq (s : State) (i : Fin 24) (f : OutputFields) (d : OutputDyn) :
    s.retireOutput i f d =
      { s with
        outputs := s.outputs.set i (.draft f)
        outputSlots := if d.troubled then s.outputSlots.set i (s.outputMarked i s.outputSlots[i].lastReason)
          else s.outputSlots
        field := { s.field with queue := s.field.queue.filter fun e => !e.isDriveOf i } } := by
  unfold State.retireOutput
  cases d.troubled <;> rfl

/-- Settles O46: the point and its zone, the zone, the output, the window, and what is not IN_SERVICE. -/
theorem retireLeavesService : Obligations.RetireLeavesService := by
  unfold Obligations.RetireLeavesService
  intro s src tag index hr hs
  refine ⟨fun i f d hi hp hfire => ?_, fun z f d hi hp => ?_, fun i f d hi hp hcold => ?_, fun w f hi hp => ?_,
    fun i hi h => ?_, fun z hi h => ?_, fun i hi h => ?_, fun w hi h => ?_⟩
  · have hentry := State.entryRetire_point hs hi hp hfire
    have hretire := (s.heard .trunk).retirePoint_eq i f d
    have hframe := (s.heard .trunk).retirePoint_frame i f d
    obtain ⟨t, ht, hjoined, hfield, honly⟩ := retire_done (src := src) (tag := tag) hr hentry
      (by rw [hframe]; exact hr.2.1) (by rw [hframe]; rfl) (by rw [hframe]; exact Port.SameLine.refl _)
    rw [show ((s.heard .trunk).retirePoint i f d).field = s.field by rw [hframe]; rfl] at hfield
    have hzones := honly.zones
    have hslots := honly.zoneSlots
    have hpoints : t.points = ((s.heard .trunk).pointWithdrawn i f d).points := by rw [honly.points, hframe]; rfl
    refine ⟨t, ht, ⟨hfield, hjoined⟩, ?_, fun z hz => ?_, fun hformed hc => ?_, ?_, fun g e hg => ?_⟩
    · conv_lhs => rw [honly, hframe]
      rw [hzones, hslots]
      rfl
    · rw [hzones, hslots, hretire]
      exact State.reformZone_other (s := (s.heard .trunk).pointWithdrawn i f d) hz
    · rw [hzones, hslots, State.retirePoint_of_formed (s := s.heard .trunk) hp hformed hc]
      exact ⟨rfl, rfl⟩
    · rw [hretire] at hzones hslots
      exact State.reformZone_reformed (u := (s.heard .trunk).pointWithdrawn i f d) rfl rfl rfl rfl hzones hslots hpoints
    · rw [hzones, hretire, State.contributions_congr hpoints]
      exact ⟨_, State.updateZone_self (s := (s.heard .trunk).pointWithdrawn i f d) hg, ZoneDyn.reformed_cond _ _ e⟩
  · have hentry := State.entryRetire_zone hs hi hp
    refine ⟨fun href => ?_, fun href hl => ?_, fun href hl => ?_⟩
    · rw [State.zoneReferenced_iff.2 href, if_pos rfl] at hentry
      exact retire_refused hr hentry
    · rw [if_neg (mt State.zoneReferenced_iff.1 href), if_neg hl] at hentry
      exact retire_refused hr hentry
    · rw [if_neg (mt State.zoneReferenced_iff.1 href), if_pos hl] at hentry
      have honlyz : ((s.setZone z (.draft f)).setZoneSlot z ⟨false, false, false⟩).OnlyLines
          ((s.heard .trunk).retireZone z f) :=
        State.OnlyLines.trans (t := ((s.heard .trunk).setZone z (.draft f)).setZoneSlot z Slot.cleared) rfl
          (State.detachReport_onlyLines _ z)
      obtain ⟨t, ht, hjoined, hfield, honly⟩ := retire_done (src := src) (tag := tag) hr hentry
        (by rw [honlyz]; exact hr.2.1) (by rw [honlyz]; rfl) (State.detachReport_sameLine _ z)
      have hsame : ((s.heard .trunk).retireZone z f).field = s.field := by
        unfold State.retireZone State.detachReport; split <;> rfl
      rw [hsame] at hfield
      exact ⟨t, ht, ⟨hfield, hjoined⟩, honlyz.trans honly⟩
  · have hlock : s.outputLocked i = false := Bool.eq_false_iff.2 fun h => by
      obtain ⟨z, hn, hf⟩ := State.outputLocked_iff.1 h
      exact hcold z hn hf
    have hentry := State.entryRetire_output hs hi hp hlock
    refine ⟨fun href => ?_, fun href => ?_⟩
    · rw [State.outputReferenced_iff.2 href, if_pos rfl] at hentry
      exact retire_refused hr hentry
    · rw [if_neg fun h => (State.outputReferenced_iff.1 h).elim href, State.retireOutput_eq] at hentry
      obtain ⟨t, ht, hjoined, hfield, honly⟩ := retire_done (src := src) (tag := tag) hr hentry hr.2.1 rfl
        (Port.SameLine.refl _)
      exact ⟨t, ht, hjoined, hfield.2.1, honly⟩
  · obtain ⟨t, ht, hjoined, hfield, honly⟩ := retire_done (src := src) (tag := tag) hr
      (State.entryRetire_window hs hi hp) hr.2.1 rfl (Port.SameLine.refl _)
    exact ⟨t, ht, ⟨hfield, hjoined⟩, State.OnlyLines.trans (t := (s.heard .trunk).setWindow w (.draft f)) rfl honly⟩
  · exact retire_state hr hs (lifeCycleRef_point hi) (Entry.lifeCycle_ne_inService h)
  · exact retire_state hr hs (lifeCycleRef_zone hi) (Entry.lifeCycle_ne_inService h)
  · exact retire_state hr hs (lifeCycleRef_output hi) (Entry.lifeCycle_ne_inService h)
  · exact retire_state hr hs (lifeCycleRef_window hi) (Entry.lifeCycle_ne_inService h)

end

end Sys2Proof.Machine

namespace Sys2Proof.Machine

/-! ## What an evaluation needs and gives (R30 to R37, R47) -/

section
variable {r : Response} {d e : ZoneDyn} {c : Level}

/-- What an evaluation needs of a zone to leave its ladder sound: a wait stands alone and for a fire level, a consent is for
a fire level, the held set is filled only under suppression, and no run-on stands where E is 0. -/
structure ZoneDyn.Evaluable (d : ZoneDyn) : Prop where
  wait : d.releaseWait = true → d.runOn = none ∧ d.accepted = false ∧ isFire d.level = true
  consent : d.accepted = true → isFire d.level = true
  held : d.suppress = false → d.held1 = false ∧ d.held2 = false
  calm : d.level = 0 → d.runOn = none

theorem isFire_zero : isFire 0 = false := by decide

/-- With E at 0 nothing of a progress towards removal stands. -/
theorem ZoneDyn.Evaluable.atRest (h : d.Evaluable) (h0 : d.level = 0) : d.AtRest := by
  refine ⟨h.calm h0, Bool.eq_false_iff.2 fun k => ?_, Bool.eq_false_iff.2 fun k => ?_⟩
  · have := h.consent k
    rw [h0, isFire_zero] at this; cases this
  · have := (h.wait k).2.2
    rw [h0, isFire_zero] at this; cases this

theorem ZoneDyn.AtRest.evaluable (h : d.AtRest) (hheld : d.suppress = false → d.held1 = false ∧ d.held2 = false) :
    d.Evaluable := by
  obtain ⟨hrun, hacc, hwait⟩ := h
  exact ⟨fun k => absurd (hwait.symm.trans k) Bool.false_ne_true,
    fun k => absurd (hacc.symm.trans k) Bool.false_ne_true, hheld, fun _ => hrun⟩

/-- A sound zone may be evaluated, whatever its condition becomes. -/
theorem ZoneDyn.Sound.evaluable (h : d.Sound) : d.Evaluable := by
  obtain ⟨hwait, hacc, hheld, -, -, hrest⟩ := h
  exact ⟨hwait, hacc, hheld, fun h0 => (hrest (by rw [h0]; exact Fin.zero_le _)).1⟩

theorem ZoneDyn.Evaluable.removeTop (h : d.Evaluable) : d.removeTop.Evaluable :=
  ZoneDyn.AtRest.evaluable ⟨rfl, rfl, rfl⟩ h.held

/-- A zone at rest is sound where c is not above E, or is held back under suppression. -/
theorem ZoneDyn.AtRest.sound (h : d.AtRest) (hheld : d.suppress = false → d.held1 = false ∧ d.held2 = false)
    (habove : d.level < d.cond →
      d.cond ≤ 2 ∧ d.suppress = true ∧ (d.cond = 1 → d.held1 = true) ∧ (d.cond = 2 → d.held2 = true))
    (hle : d.level ≤ d.cond) : d.Sound := by
  obtain ⟨hrun, hacc, hwait⟩ := h
  exact ⟨fun k => absurd (hwait.symm.trans k) Bool.false_ne_true,
    fun k => absurd (hacc.symm.trans k) Bool.false_ne_true, hheld, habove,
    fun k => absurd k (not_lt.2 hle), fun _ => ⟨hrun, hacc, hwait⟩⟩

/-- A zone whose E is above c is sound where a run-on or a wait stands. -/
theorem ZoneDyn.Evaluable.sound_above (h : d.Evaluable) (hlt : d.cond < d.level)
    (k : d.runOn.isSome = true ∨ d.releaseWait = true) : d.Sound :=
  ⟨h.wait, h.consent, h.held, fun hk => absurd hk (not_lt.2 hlt.le), fun _ => k, fun hk => absurd hlt (not_lt.2 hk)⟩

/-- An evaluation leaves the ladder's relations, by induction over the levels it removes. -/
theorem ZoneDyn.Evaluable.evaluate_sound (runOnOf : Level → Nat) (n : Nat) (h : d.Evaluable) (hn : d.level.val < n) :
    (evaluate runOnOf n d).Sound := by
  induction n generalizing d with
  | zero => exact absurd hn (Nat.not_lt_zero _)
  | succ n ih =>
    rcases lt_trichotomy d.level d.cond with hlt | heq | hgt
    · by_cases k : 3 ≤ d.cond ∨ d.suppress = false
      · rw [evaluate_takeIn hlt k]
        have hlevel : (d.takeIn d.cond).level = d.cond :=
          (LevelSet.highest_insert d.inForce d.cond).trans (max_eq_right hlt.le)
        exact ZoneDyn.AtRest.sound ⟨rfl, rfl, rfl⟩ h.held (fun hk => absurd hk (not_lt.2 hlevel.ge)) hlevel.le
      · rw [evaluate_hold hlt k h.atRest]
        obtain ⟨hlow, hs⟩ := not_or.1 k
        have hs' : d.suppress = true := by simpa using hs
        refine ZoneDyn.AtRest.sound ⟨rfl, rfl, rfl⟩ (fun hk => absurd hk hs) (fun _ => ⟨?_, hs', ?_, ?_⟩) hlt.le
        · exact Nat.le_of_lt_succ (not_le.1 hlow)
        · exact fun e => by simp [ZoneDyn.atRest, ZoneDyn.hold, show d.cond = 1 from e]
        · exact fun e => by simp [ZoneDyn.atRest, ZoneDyn.hold, show d.cond = 2 from e]
    · rw [evaluate_at heq.symm h.atRest]
      exact ZoneDyn.AtRest.sound ⟨rfl, rfl, rfl⟩ h.held (fun hk => absurd hk (not_lt.2 heq.ge)) heq.le
    · by_cases k : d.runOn.isSome = true ∨ d.releaseWait = true
      · rw [evaluate_above_standing hgt k]
        exact h.sound_above hgt k
      · obtain ⟨hrun, hwait⟩ : d.runOn = none ∧ d.releaseWait = false := by simpa using k
        rw [evaluate_above hgt hrun hwait]
        split
        · split
          · rename_i hmust
            obtain ⟨hfire, hacc⟩ : isFire d.level = true ∧ d.accepted = false := by simpa [ZoneDyn.mustWait] using hmust
            exact ZoneDyn.Evaluable.sound_above ⟨fun _ => ⟨hrun, hacc, hfire⟩, h.consent, h.held, h.calm⟩ hgt (.inr rfl)
          · refine ih h.removeTop (lt_of_lt_of_le ?_ (Nat.le_of_lt_succ hn))
            exact ZoneDyn.removeTop_lt (lt_of_le_of_lt (Fin.zero_le _) hgt)
        · refine ZoneDyn.Evaluable.sound_above ⟨fun hw => ?_, h.consent, h.held, fun h0 => ?_⟩ hgt (.inl rfl)
          · rw [hwait] at hw; cases hw
          · rw [show d.level = 0 from h0] at hgt; exact absurd hgt (Fin.not_lt_zero _)

theorem ZoneDyn.Evaluable.evaluated_sound (h : d.Evaluable) (r : Response) : (d.evaluated r).Sound :=
  h.evaluate_sound r.runOnOf chainBound (by unfold chainBound; omega)

/-! ## What the ladder's events do to one zone -/

/-- Nothing of the ladder differs between the two, but for the time that a run-on has left. -/
structure ZoneDyn.SameLadder (d e : ZoneDyn) : Prop where
  cond : e.cond = d.cond
  force : e.force = d.force
  latch : e.latch = d.latch
  inForce : e.inForce = d.inForce
  held1 : e.held1 = d.held1
  held2 : e.held2 = d.held2
  suppress : e.suppress = d.suppress
  runOn : e.runOn.isSome = d.runOn.isSome
  accepted : e.accepted = d.accepted
  releaseWait : e.releaseWait = d.releaseWait

/-- All that an event can do to the ladder of an IN_SERVICE zone, with the response table and the greatest contribution of its
points. A consent comes only with `released`. -/
inductive ZoneDyn.LadderOp (released : Prop) (r : Response) (c : Level) : ZoneDyn → ZoneDyn → Prop where
  | keeps {d e : ZoneDyn} (h : d.SameLadder e) : ZoneDyn.LadderOp released r c d e
  | forms (d : ZoneDyn) : ZoneDyn.LadderOp released r c d (d.reformed r c)
  | forced (d : ZoneDyn) (v : Level) : ZoneDyn.LadderOp released r c d (d.forced r c v)
  | alarm (d : ZoneDyn) : ZoneDyn.LadderOp released r c d (d.panelAlarm r c)
  | suppressed (d : ZoneDyn) : ZoneDyn.LadderOp released r c d d.suppressOn
  | lifted (d : ZoneDyn) : ZoneDyn.LadderOp released r c d (d.suppressOff r)
  | expired (d : ZoneDyn) (h : d.runOn.isSome = true) : ZoneDyn.LadderOp released r c d (d.runOnExpired r)
  | normal (d : ZoneDyn) (h : released) : ZoneDyn.LadderOp released r c d (d.panelNormal r c)
  | consent (d : ZoneDyn) (h : released) (hfire : isFire d.level = true) (hlt : d.cond < d.level) :
      ZoneDyn.LadderOp released r c d (d.consent r)

/-- The first part of a NORMAL: the latch is cleared and the condition formed without it (R44). -/
def ZoneDyn.unlatched (r : Response) (c : Level) (d : ZoneDyn) : ZoneDyn :=
  if d.latch then ({ d with latch := false } : ZoneDyn).reformed r c else d

theorem ZoneDyn.panelNormal_eq (r : Response) (c : Level) (d : ZoneDyn) :
    d.panelNormal r c =
      if (d.unlatched r c).level = 5 ∧ (d.unlatched r c).cond < 5 then (d.unlatched r c).consent r else d.unlatched r c :=
  rfl

/-! ### The ladder's relations after an event -/

theorem ZoneDyn.SameLadder.sound (h : d.SameLadder e) (hd : d.Sound) : e.Sound := by
  have hlevel : e.level = d.level := congrArg LevelSet.highest h.inForce
  have hnone : e.runOn = none ↔ d.runOn = none := by
    rw [← Option.isNone_iff_eq_none, ← Option.isNone_iff_eq_none, ← Option.not_isSome, ← Option.not_isSome, h.runOn]
  unfold ZoneDyn.Sound
  rw [hlevel, h.cond, h.held1, h.held2, h.suppress, h.runOn, h.accepted, h.releaseWait, hnone]
  exact hd

theorem ZoneDyn.initial_sound : ZoneDyn.initial.Sound := by decide

theorem ZoneDyn.Sound.reformed (h : d.Sound) (r : Response) (c : Level) : (d.reformed r c).Sound := by
  have k := h.evaluable
  unfold ZoneDyn.reformed
  dsimp only
  split
  · exact h
  · exact ZoneDyn.Evaluable.evaluated_sound (d := { d with cond := d.formed c }) ⟨k.wait, k.consent, k.held, k.calm⟩ r

/-- A consent for E while c is below it (R40, R44). -/
theorem ZoneDyn.Sound.consent (h : d.Sound) (r : Response) (hfire : isFire d.level = true) (hlt : d.cond < d.level) :
    (d.consent r).Sound := by
  have k := h.evaluable
  obtain ⟨-, -, -, -, habove, -⟩ := h
  unfold ZoneDyn.consent
  split
  · exact k.removeTop.evaluated_sound r
  · rename_i hwait
    refine ZoneDyn.Evaluable.sound_above ⟨fun hw => absurd hw hwait, fun _ => hfire, k.held, k.calm⟩ hlt (habove hlt)

theorem ZoneDyn.Sound.panelAlarm (h : d.Sound) (r : Response) (c : Level) : (d.panelAlarm r c).Sound := by
  unfold ZoneDyn.panelAlarm
  split
  · exact h
  · exact ZoneDyn.Sound.reformed (d := { d with latch := true }) h r c

theorem isFire_five : isFire 5 = true := by decide

theorem ZoneDyn.Sound.panelNormal (h : d.Sound) (r : Response) (c : Level) : (d.panelNormal r c).Sound := by
  have hcleared : (d.unlatched r c).Sound := by
    unfold ZoneDyn.unlatched
    split
    · exact ZoneDyn.Sound.reformed (d := { d with latch := false }) h r c
    · exact h
  rw [ZoneDyn.panelNormal_eq]
  split
  · rename_i k
    exact hcleared.consent r (by rw [k.1]; exact isFire_five) (by rw [k.1]; exact k.2)
  · exact hcleared

theorem ZoneDyn.Sound.suppressOn (h : d.Sound) : d.suppressOn.Sound := by
  obtain ⟨hwait, hacc, -, habove, hbelow, hrest⟩ := h
  refine ⟨hwait, hacc, nofun, fun hlt => ?_, hbelow, hrest⟩
  obtain ⟨hlow, -, hheld⟩ := habove hlt
  exact ⟨hlow, rfl, hheld⟩

/-- The lifting of suppression (R47): a held level that is taken in undoes the progress of the E below it. -/
theorem ZoneDyn.Sound.suppressOff (h : d.Sound) (r : Response) : (d.suppressOff r).Sound := by
  have k := h.evaluable
  unfold ZoneDyn.suppressOff
  split
  · refine ZoneDyn.Evaluable.evaluated_sound ?_ r
    split
    · exact ZoneDyn.AtRest.evaluable ⟨rfl, rfl, rfl⟩ fun _ => ⟨rfl, rfl⟩
    · exact ⟨k.wait, k.consent, fun _ => ⟨rfl, rfl⟩, k.calm⟩
  · exact h

/-- The expiry of a run-on (R35, R36), which runs only above c. -/
theorem ZoneDyn.Sound.runOnExpired (h : d.Sound) (r : Response) (hrun : d.runOn.isSome = true) :
    (d.runOnExpired r).Sound := by
  have k := h.evaluable
  obtain ⟨-, -, -, -, -, hrest⟩ := h
  have hlt : d.cond < d.level := not_le.1 fun hle => by rw [(hrest hle).1] at hrun; cases hrun
  unfold ZoneDyn.runOnExpired
  split
  · rename_i hmust
    obtain ⟨hfire, hacc⟩ : isFire d.level = true ∧ d.accepted = false := by simpa [ZoneDyn.mustWait] using hmust
    exact ZoneDyn.Evaluable.sound_above ⟨fun _ => ⟨rfl, hacc, hfire⟩, k.consent, k.held, fun _ => rfl⟩ hlt (.inr rfl)
  · exact k.removeTop.evaluated_sound r

/-- Every event at a zone keeps the ladder's relations. -/
theorem ZoneDyn.LadderOp.sound {released : Prop} (op : ZoneDyn.LadderOp released r c d e) (h : d.Sound) : e.Sound := by
  cases op with
  | keeps k => exact k.sound h
  | forms => exact h.reformed r c
  | forced v => exact ZoneDyn.Sound.reformed (d := { d with force := v }) h r c
  | alarm => exact h.panelAlarm r c
  | suppressed => exact h.suppressOn
  | lifted => exact h.suppressOff r
  | expired k => exact h.runOnExpired r k
  | normal => exact h.panelNormal r c
  | consent _ hfire hlt => exact h.consent r hfire hlt

/-! ### The condition after an event (R27) -/

/-- The condition is the greatest of the zone's inputs, with this greatest contribution (R27). -/
abbrev ZoneDyn.IsFormed (c : Level) (d : ZoneDyn) : Prop := d.cond = d.formed c

theorem ZoneDyn.SameInputs.formed (h : d.SameInputs e) (c : Level) : e.formed c = d.formed c := by
  unfold ZoneDyn.formed; rw [h.force, h.latch]

theorem ZoneDyn.SameInputs.isFormed (h : d.SameInputs e) (hd : d.IsFormed c) : e.IsFormed c :=
  h.cond.trans (hd.trans (h.formed c).symm)

/-- A condition that is formed afresh is formed, whatever it was. -/
theorem ZoneDyn.reformed_isFormed (r : Response) (c : Level) (d : ZoneDyn) : (d.reformed r c).IsFormed c := by
  have hin : (d.reformed r c).formed c = d.formed c := by
    unfold ZoneDyn.reformed
    dsimp only
    split
    · rfl
    · exact (ZoneDyn.evaluated_same r { d with cond := d.formed c }).formed c
  exact (ZoneDyn.reformed_cond r c d).trans hin.symm

theorem ZoneDyn.IsFormed.consent (h : d.IsFormed c) (r : Response) : (d.consent r).IsFormed c := by
  unfold ZoneDyn.consent
  split
  · exact (d.removeTop_same.trans (ZoneDyn.evaluated_same r _)).isFormed h
  · exact h

theorem ZoneDyn.IsFormed.suppressOff (h : d.IsFormed c) (r : Response) : (d.suppressOff r).IsFormed c := by
  unfold ZoneDyn.suppressOff
  split
  · dsimp only
    split
    · exact (ZoneDyn.evaluated_same r _).isFormed h
    · exact (ZoneDyn.evaluated_same r _).isFormed h
  · exact h

/-- Every event at a zone keeps its condition the greatest of its inputs. -/
theorem ZoneDyn.LadderOp.isFormed {released : Prop} (op : ZoneDyn.LadderOp released r c d e) (h : d.IsFormed c) :
    e.IsFormed c := by
  cases op with
  | keeps k =>
    unfold ZoneDyn.IsFormed ZoneDyn.formed
    rw [k.cond, k.force, k.latch]
    exact h
  | forms => exact d.reformed_isFormed r c
  | forced v => exact ZoneDyn.reformed_isFormed r c _
  | alarm =>
    unfold ZoneDyn.panelAlarm
    split
    · exact h
    · exact ZoneDyn.reformed_isFormed r c _
  | suppressed => exact h
  | lifted => exact h.suppressOff r
  | expired =>
    unfold ZoneDyn.runOnExpired
    split
    · exact h
    · exact (d.removeTop_same.trans (ZoneDyn.evaluated_same r _)).isFormed h
  | normal =>
    have hcleared : (d.unlatched r c).IsFormed c := by
      unfold ZoneDyn.unlatched
      split
      · exact ZoneDyn.reformed_isFormed r c _
      · exact h
    rw [ZoneDyn.panelNormal_eq]
    split
    · exact hcleared.consent r
    · exact hcleared
  | consent => exact h.consent r

/-! ### Fire levels after an event that gives no consent (R36, R38, R44) -/

/-- Level 5 is in force and its release has not been accepted. -/
abbrev ZoneDyn.HoldsFive (d : ZoneDyn) : Prop := d.inForce.l5 = true ∧ d.accepted = false

/-- Level 4 is in force, and no release has been accepted, or level 5 stands above it. -/
abbrev ZoneDyn.HoldsFour (d : ZoneDyn) : Prop := d.inForce.l4 = true ∧ (d.accepted = false ∨ d.inForce.l5 = true)

/-- What no event without a consent takes away: level 5 and level 4 as long as they may not leave. -/
structure ZoneDyn.KeepsFire (d e : ZoneDyn) : Prop where
  five : d.HoldsFive → e.HoldsFive
  four : d.HoldsFour → e.HoldsFour

theorem ZoneDyn.KeepsFire.refl (d : ZoneDyn) : d.KeepsFire d := ⟨id, id⟩

theorem ZoneDyn.KeepsFire.trans {a b c : ZoneDyn} (h : a.KeepsFire b) (k : b.KeepsFire c) : a.KeepsFire c :=
  ⟨fun x => k.five (h.five x), fun x => k.four (h.four x)⟩

/-- An event that adds levels at most, and accepts no release, takes no fire level away. -/
theorem ZoneDyn.KeepsFire.of_grows (h4 : d.inForce.l4 = true → e.inForce.l4 = true)
    (h5 : d.inForce.l5 = true → e.inForce.l5 = true) (hacc : d.accepted = false → e.accepted = false) : d.KeepsFire e :=
  ⟨fun ⟨hl, ha⟩ => ⟨h5 hl, hacc ha⟩, fun ⟨hl, ha⟩ => ⟨h4 hl, ha.imp hacc h5⟩⟩

/-- An event that begins with the condition or an input written takes no more away than what follows. -/
theorem ZoneDyn.KeepsFire.of_written {b : ZoneDyn} (h : b.KeepsFire e) (hin : b.inForce = d.inForce)
    (hacc : b.accepted = d.accepted) : d.KeepsFire e :=
  .trans (.of_grows (fun k => by rwa [hin]) (fun k => by rwa [hin]) fun k => by rwa [hacc]) h

theorem LevelSet.insert_l4 {l : LevelSet} (v : Level) (h : l.l4 = true) : (l.insert v).l4 = true := by
  simp [LevelSet.insert, h]

theorem LevelSet.insert_l5 {l : LevelSet} (v : Level) (h : l.l5 = true) : (l.insert v).l5 = true := by
  simp [LevelSet.insert, h]

theorem LevelSet.highest_of_l5 {l : LevelSet} (h : l.l5 = true) : l.highest = 5 := by simp [LevelSet.highest, h]

theorem LevelSet.highest_of_l4 {l : LevelSet} (h : l.l4 = true) (h5 : l.l5 = false) : l.highest = 4 := by
  simp [LevelSet.highest, h, h5]

theorem LevelSet.four_le_highest_iff {l : LevelSet} : 4 ≤ l.highest ↔ l.l4 = true ∨ l.l5 = true := by
  obtain ⟨b1, b2, b3, b4, b5⟩ := l
  revert b1 b2 b3 b4 b5
  decide

theorem ZoneDyn.checkRise_keepsFire (d : ZoneDyn) : d.KeepsFire d.checkRise := by
  unfold ZoneDyn.checkRise
  split
  · split
    · exact .of_grows (LevelSet.insert_l4 _) (LevelSet.insert_l5 _) fun _ => rfl
    · exact .of_grows id id id
  · exact .refl d

theorem ZoneDyn.checkPresent_keepsFire (d : ZoneDyn) : d.KeepsFire d.checkPresent := by
  unfold ZoneDyn.checkPresent
  split
  · exact .of_grows id id fun _ => rfl
  · exact .refl d

/-- The removal of an E that need not wait: it is no fire level, or its release is accepted (R36, R38). -/
theorem ZoneDyn.removeTop_keepsFire (h : d.mustWait = false) : d.KeepsFire d.removeTop := by
  have hfire : isFire d.level = true → d.accepted = true := fun k => by simpa [ZoneDyn.mustWait, k] using h
  have hfive : d.inForce.l5 = true → d.accepted = true ∧ d.level = 5 := fun k => by
    have hl : d.level = 5 := LevelSet.highest_of_l5 k
    exact ⟨hfire (by rw [hl]; exact isFire_five), hl⟩
  refine ⟨fun ⟨hl, ha⟩ => ?_, fun ⟨hl, ha⟩ => ?_⟩
  · rw [(hfive hl).1] at ha; cases ha
  · cases h5 : d.inForce.l5 with
    | true => exact ⟨by simp [ZoneDyn.removeTop, LevelSet.erase, hl, (hfive h5).2], .inl rfl⟩
    | false =>
      have hl4 : d.level = 4 := LevelSet.highest_of_l4 hl h5
      have hacc := hfire (by rw [hl4]; decide)
      rw [hacc, h5] at ha
      rcases ha with ha | ha <;> cases ha

/-- An evaluation takes no fire level away, but for a release accepted before (R36). -/
theorem evaluate_keepsFire (runOnOf : Level → Nat) (n : Nat) (d : ZoneDyn) : d.KeepsFire (evaluate runOnOf n d) := by
  induction n generalizing d with
  | zero => exact .refl d
  | succ n ih =>
    have hchecks := d.checkRise_keepsFire.trans d.checkRise.checkPresent_keepsFire
    unfold evaluate
    dsimp only
    split
    · split
      · split
        · exact hchecks.trans (.of_grows id id id)
        · rename_i hmust
          exact (hchecks.trans (ZoneDyn.removeTop_keepsFire (Bool.eq_false_iff.2 hmust))).trans (ih _)
      · exact hchecks.trans (.of_grows id id id)
    · exact hchecks

theorem ZoneDyn.reformed_keepsFire (r : Response) (c : Level) (d : ZoneDyn) : d.KeepsFire (d.reformed r c) := by
  unfold ZoneDyn.reformed
  dsimp only
  split
  · exact .refl d
  · exact .of_written (evaluate_keepsFire r.runOnOf chainBound { d with cond := d.formed c }) rfl rfl

/-- No event at a zone but a consent takes a fire level away (R36, R38 to R41, R44). -/
theorem ZoneDyn.LadderOp.keepsFire (op : ZoneDyn.LadderOp False r c d e) : d.KeepsFire e := by
  cases op with
  | keeps k => exact .of_grows (fun h => by rwa [k.inForce]) (fun h => by rwa [k.inForce]) fun h => by rwa [k.accepted]
  | forms => exact d.reformed_keepsFire r c
  | forced v => exact .of_written (ZoneDyn.reformed_keepsFire r c { d with force := v }) rfl rfl
  | alarm =>
    unfold ZoneDyn.panelAlarm
    split
    · exact .refl d
    · exact .of_written (ZoneDyn.reformed_keepsFire r c { d with latch := true }) rfl rfl
  | suppressed => exact .of_grows id id id
  | lifted =>
    unfold ZoneDyn.suppressOff
    split
    · refine .trans ?_ (evaluate_keepsFire _ _ _)
      split
      · exact .of_grows (LevelSet.insert_l4 _) (LevelSet.insert_l5 _) fun _ => rfl
      · exact .of_grows id id id
    · exact .refl d
  | expired =>
    unfold ZoneDyn.runOnExpired
    split
    · exact .of_grows id id id
    · rename_i hmust
      exact (ZoneDyn.removeTop_keepsFire (Bool.eq_false_iff.2 hmust)).trans (evaluate_keepsFire _ _ _)
  | normal h => exact h.elim
  | consent h => exact h.elim

end
end Sys2Proof.Machine

namespace Sys2Proof.Machine

/-! ## What a command can do to the zones -/

/-- What becomes of a zone's entry in an event that moves no zone into or out of service. -/
inductive Entry.Moves (op : ZoneDyn → ZoneDyn → Prop) : Entry ZoneFields ZoneDyn → Entry ZoneFields ZoneDyn → Prop where
  | stays (e : Entry ZoneFields ZoneDyn) : Entry.Moves op e e
  | moves {f g : ZoneFields} {d e : ZoneDyn} (h : op d e) : Entry.Moves op (.inService f d) (.inService g e)

/-- What is known where a step begins, and of the command it takes. -/
structure StepContext where
  /-- The tables are consistent, so that no point in service names a zone that enters service. -/
  served : Prop
  /-- The command may be a consent, a release or a start. -/
  released : Prop
  /-- The zones that are in fire where the step begins. -/
  burning : Fin 8 → Prop

/-- The state is as the context says of the beginning of the step. -/
structure State.Within (s : State) (ctx : StepContext) : Prop where
  tables : ctx.served → s.TablesConsistent
  fire : ∀ z, ctx.burning z → s.ZoneInFire z

/-- All that an event can do to the ladders. -/
inductive State.LadderStep (ctx : StepContext) : State → State → Prop where
  /-- Zones in service meet the ladder's events, and no contribution changes. -/
  | zones {s t : State}
      (hz : ∀ z : Fin 8, Entry.Moves (ZoneDyn.LadderOp ctx.released s.response (s.contributions z)) s.zones[z] t.zones[z])
      (hc : ∀ z : Fin 8, t.contributions z = s.contributions z) (hp : t.restartPending = s.restartPending) :
      State.LadderStep ctx s t
  /-- The contributions to one zone may change, and it is formed afresh. -/
  | forms {s t : State} (z : Fin 8)
      (hz : Entry.Moves (fun d e => e = d.reformed s.response (t.contributions z)) s.zones[z] t.zones[z])
      (hformed : ∀ d ∈ t.zones[z].dyn?, d.IsFormed (t.contributions z))
      (hother : ∀ y : Fin 8, y ≠ z → t.zones[y] = s.zones[y] ∧ t.contributions y = s.contributions y)
      (hp : t.restartPending = s.restartPending) : State.LadderStep ctx s t
  /-- A zone is out of service after the event. -/
  | leaves {s t : State} (z : Fin 8) (hout : t.zones[z].isInService = false)
      (hburn : ctx.burning z → s.zones[z].isInService = false)
      (hother : ∀ y : Fin 8, y ≠ z → t.zones[y] = s.zones[y]) (hc : ∀ y : Fin 8, t.contributions y = s.contributions y)
      (hp : t.restartPending = s.restartPending) : State.LadderStep ctx s t
  /-- A zone enters service. -/
  | enters {s t : State} (z : Fin 8) (hout : s.zones[z].isInService = false)
      (hin : ∀ d ∈ t.zones[z].dyn?, d = ZoneDyn.initial) (hfree : ctx.served → s.contributions z = 0)
      (hother : ∀ y : Fin 8, y ≠ z → t.zones[y] = s.zones[y]) (hc : ∀ y : Fin 8, t.contributions y = s.contributions y)
      (hp : t.restartPending = s.restartPending) : State.LadderStep ctx s t
  /-- A RESTART is accepted. -/
  | accepts {s t : State} (hcalm : ∀ z, ¬ctx.burning z) (hz : t.zones = s.zones)
      (hc : ∀ z : Fin 8, t.contributions z = s.contributions z) : State.LadderStep ctx s t
  /-- A reset. -/
  | reset {s t : State} (hwhy : s.restartPending = true ∨ ctx.released)
      (hz : ∀ z : Fin 8, ∀ d ∈ t.zones[z].dyn?, d = ZoneDyn.initial) (hc : ∀ z : Fin 8, t.contributions z = 0) :
      State.LadderStep ctx s t
  | trans {s t u : State} (h : State.LadderStep ctx s t) (k : State.LadderStep ctx t u) : State.LadderStep ctx s u

/-! ## What leaves zones and points alone -/

/-- Every zone and every point of `t` is as in `s`, and a RESTART is pending in both or in neither. -/
abbrev State.SameZones (s t : State) : Prop :=
  t.zones = s.zones ∧ t.points = s.points ∧ t.restartPending = s.restartPending

section
variable {s t u : State}

theorem State.SameZones.refl (s : State) : s.SameZones s := ⟨rfl, rfl, rfl⟩

theorem State.SameZones.trans (h : s.SameZones t) (k : t.SameZones u) : s.SameZones u :=
  ⟨k.1.trans h.1, k.2.1.trans h.2.1, k.2.2.trans h.2.2⟩

theorem State.OnlyLines.sameZones (h : s.OnlyLines t) : s.SameZones t := by
  unfold State.OnlyLines at h; rw [h]; exact ⟨rfl, rfl, rfl⟩

theorem State.OnlyOutputs.sameZones (h : s.OnlyOutputs t) : s.SameZones t := by
  unfold State.OnlyOutputs at h; rw [h]; exact ⟨rfl, rfl, rfl⟩

theorem State.setPort_sameZones (s : State) (p : PortId) (v : Port) : s.SameZones (s.setPort p v) :=
  ⟨s.setPort_zones p v, s.setPort_points p v, s.setPort_restartPending p v⟩

theorem State.heard_sameZones (s : State) (p : PortId) : s.SameZones (s.heard p) := s.setPort_sameZones p _

theorem State.updateFan_sameZones (s : State) (i : Fin 24) (g : OutputFields → FanDyn → FanDyn) :
    s.SameZones (s.updateFan i g) := (s.updateFan_onlyOutputs i g).sameZones

theorem State.updateDamper_sameZones (s : State) (i : Fin 24) (g : OutputFields → DamperDyn → DamperDyn) :
    s.SameZones (s.updateDamper i g) := (s.updateDamper_onlyOutputs i g).sameZones

theorem State.queueDrive_sameZones (s : State) (i : Fin 24) : s.SameZones (s.queueDrive i) :=
  (s.queueDrive_onlyLines i).sameZones

theorem State.forwardUp_sameZones (s : State) (f : Frame) : s.SameZones (s.forwardUp f) :=
  (s.forwardUp_onlyLines f).sameZones

theorem State.receiveTime_sameZones (s : State) (f : Frame) : s.SameZones (s.receiveTime f) := by
  unfold State.receiveTime State.takeTime
  split
  · split <;> exact ⟨rfl, rfl, rfl⟩
  · exact s.setPort_sameZones _ _

theorem State.passDown_sameZones (s : State) (f : Frame) : s.SameZones (s.passDown f) := by
  unfold State.passDown
  split
  · split
    · exact ⟨rfl, rfl, rfl⟩
    · exact (s.forwardDown_onlyLines f).sameZones
  · exact .refl s

theorem State.setSlot_sameZones (s : State) (id : SlotId) (x : Slot) : s.SameZones (s.setSlot id x) := by
  cases id <;> exact ⟨rfl, rfl, rfl⟩

theorem State.reportTransmitted_sameZones (s : State) (r : ReportOffer) : s.SameZones (s.reportTransmitted r) := by
  unfold State.reportTransmitted
  split
  · exact s.setSlot_sameZones _ _
  · exact .refl s

theorem State.reportAbandoned_sameZones (s : State) (r : ReportOffer) : s.SameZones (s.reportAbandoned r) := by
  unfold State.reportAbandoned
  split
  · exact s.setSlot_sameZones _ _
  · exact .refl s

theorem State.frameLeft_sameZones (s : State) (e : QEntry) : s.SameZones (s.frameLeft e) := by
  unfold State.frameLeft State.advanceDither
  split
  · split <;> exact ⟨rfl, rfl, rfl⟩
  · exact .refl s

theorem State.completeOffer_sameZones (s : State) (p : PortId) : s.SameZones (s.completeOffer p) := by
  have h := s.setPort_sameZones p (s.port p).withdrawOffer
  unfold State.completeOffer
  dsimp only
  split
  · exact h.trans (State.reportTransmitted_sameZones _ _)
  · split
    · exact h.trans (State.frameLeft_sameZones _ _)
    · exact h

theorem State.abandonOffer_sameZones (s : State) (p : PortId) : s.SameZones (s.abandonOffer p) := by
  unfold State.abandonOffer
  dsimp only
  split
  · exact (s.setPort_sameZones p _).trans (State.reportAbandoned_sameZones _ _)
  · split
    · exact (s.setPort_sameZones p _).trans (State.frameLeft_sameZones _ _)
    · exact s.setPort_sameZones p _

theorem State.failOffer_sameZones (s : State) (p : PortId) : s.SameZones (s.failOffer p) := by
  unfold State.failOffer
  split
  · exact s.abandonOffer_sameZones p
  · exact s.setPort_sameZones p _

theorem State.breakSave_sameZones (s : State) : s.SameZones s.breakSave := by
  unfold State.breakSave; split <;> exact ⟨rfl, rfl, rfl⟩

theorem State.saveCompleted_sameZones (s : State) (matched : Bool) : s.SameZones (s.saveCompleted matched) := by
  unfold State.saveCompleted
  split
  · exact .refl s
  · have hmark (u : State) (p : Prop) [Decidable p] : u.SameZones (if p then u else u.markDevice) := by
      split <;> exact ⟨rfl, rfl, rfl⟩
    have hstored (x : StoreContent) (y : StoreState) : s.SameZones (((s.setSave none).setStore x).setStoreState y) :=
      ⟨rfl, rfl, rfl⟩
    dsimp only
    split <;>
      exact ((hstored _ _).trans (hmark _ _)).trans (State.queueReply_onlyLines _ _ _ _ _ _ _).sameZones

theorem State.takeDamperStatus_sameZones (s : State) (i : Fin 24) (r : DamperReport) :
    s.SameZones (s.takeDamperStatus i r) := by
  have h := s.updateDamper_sameZones i fun f => DamperDyn.takeStatus f r
  unfold State.takeDamperStatus
  dsimp only
  split
  · exact h.trans (State.pathCheckThrough_onlyOutputs _ i).sameZones
  · exact h

theorem State.pathExpired_sameZones (s : State) (i : Fin 24) : s.SameZones (s.pathExpired i) := by
  unfold State.pathExpired
  dsimp only
  split
  · exact (s.updateFan_sameZones i _).trans (State.queueDrive_sameZones _ i)
  · exact s.updateFan_sameZones i _

theorem State.retryExpired_sameZones (s : State) (i : Fin 24) : s.SameZones (s.retryExpired i) := by
  unfold State.retryExpired
  dsimp only
  split
  · exact (s.updateFan_sameZones i _).trans (State.queueDrive_sameZones _ i)
  · exact s.updateFan_sameZones i _

theorem State.handOn_sameZones (s : State) (i : Fin 24) : s.SameZones (s.handOn i) := by
  unfold State.handOn
  split
  · exact .refl s
  · exact ((s.updateFan_sameZones i _).trans (State.updateDamper_sameZones _ i _)).trans
      (State.withdrawDrive_onlyLines _ i).sameZones

theorem State.handOff_sameZones (s : State) (i : Fin 24) : s.SameZones (s.handOff i) :=
  (s.updateFan_sameZones i _).trans (State.updateDamper_sameZones _ i _)

theorem State.receiveStatus_sameZones (s : State) (f : Frame) : s.SameZones (s.receiveStatus f) := by
  unfold State.receiveStatus
  split
  · split
    · unfold State.receiveFanStatus
      split
      · dsimp only
        split
        · exact (s.updateFan_sameZones _ _).trans (State.forwardUp_sameZones _ f)
        · exact s.updateFan_sameZones _ _
      · exact (s.setPort_sameZones _ _).trans (State.forwardUp_sameZones _ f)
    · unfold State.receiveDamperStatus
      split
      · dsimp only
        split
        · exact (s.takeDamperStatus_sameZones _ _).trans (State.forwardUp_sameZones _ f)
        · exact s.takeDamperStatus_sameZones _ _
      · exact (s.setPort_sameZones _ _).trans (State.forwardUp_sameZones _ f)
    · exact s.forwardUp_sameZones f
  · exact s.forwardUp_sameZones f

end

/-! ## Contributions (R22, R27) -/

section
variable {s t : State} {z : Fin 8}

/-- Points that contribute entry by entry what they did before contribute the same to every zone. -/
theorem State.contributions_of_entries
    (h : ∀ i : Fin 64, entryContribution z t.points[i] = entryContribution z s.points[i]) :
    t.contributions z = s.contributions z := by
  rw [State.contributions_eq, State.contributions_eq]
  congr 1
  funext m i
  rw [h i]

/-- A zone to which no point contributes. -/
theorem State.contributions_eq_zero (h : ∀ i : Fin 64, entryContribution z s.points[i] = 0) : s.contributions z = 0 := by
  rw [State.contributions_eq]
  simp only [h]
  exact List.foldl_fixed' (fun _ => rfl) _

/-- A point as it enters service or is reset contributes nothing (R3, R22). -/
theorem entryContribution_initial (f : PointFields) : entryContribution z (.inService f f.initial) = 0 := ite_self 0

theorem entryContribution_resetEntry {δ : Type} (e : Entry PointFields δ) :
    entryContribution z (resetEntry PointFields.initial e) = 0 := by
  cases e with
  | vacant | draft f => rfl
  | inService f d => exact entryContribution_initial f

theorem entryContribution_tick (e : Entry PointFields PointDyn) :
    entryContribution z (e.mapDyn PointDyn.tick) = entryContribution z e := by cases e <;> rfl

theorem entryContribution_clearBadCount (e : Entry PointFields PointDyn) :
    entryContribution z (clearBadCount e) = entryContribution z e := by cases e <;> rfl

/-- A point contributes to the zone it names alone (R2). -/
theorem entryContribution_other {f : PointFields} (d : PointDyn) (h : z ≠ f.zone) :
    entryContribution z (.inService f d) = 0 := if_neg (Ne.symm h)

/-- A zone that is not IN_SERVICE has no point in service in consistent tables (R142, R145). -/
theorem State.TablesConsistent.contributions_eq_zero (ht : s.TablesConsistent) (h : s.zones[z].isInService = false) :
    s.contributions z = 0 := by
  refine State.contributions_eq_zero fun i => ?_
  cases hp : s.points[i] with
  | vacant | draft f => rfl
  | inService f d =>
    refine entryContribution_other d fun hz => ?_
    have hseen : s.tables.points i = (some f, true) := by simp only [State.tables, hp]; rfl
    obtain ⟨-, -, -, -, -, hzone⟩ := ht.1.1 i (by rw [hseen]) f (by rw [hseen]; rfl)
    subst hz
    exact Bool.false_ne_true (h.symm.trans hzone)

end

/-! ## The steps of the ladders -/

section
variable {ctx : StepContext} {s t u : State}

theorem State.Within.heard (h : s.Within ctx) (p : PortId) : (s.heard p).Within ctx :=
  ⟨fun k => (h.tables k).heard p, fun z k => by
    unfold State.ZoneInFire; rw [(s.heard_sameZones p).1]; exact h.fire z k⟩

/-- Out of the fire state no zone burns (R52). -/
theorem State.Within.not_burning_of_calm (h : s.Within ctx) (hcalm : s.fireState = false) (z : Fin 8) : ¬ctx.burning z :=
  fun k => Bool.false_ne_true <| hcalm.symm.trans <|
    List.any_eq_true.2 ⟨z, List.mem_finRange z, State.isFire_zoneLevel_iff.2 (h.fire z k)⟩

theorem Entry.Moves.of_eq {op : ZoneDyn → ZoneDyn → Prop} {e e' : Entry ZoneFields ZoneDyn} (h : e' = e) :
    Entry.Moves op e e' := by subst h; exact .stays _

theorem State.SameZones.ladderStep (h : s.SameZones t) : s.LadderStep ctx t :=
  .zones (fun z => .of_eq (by rw [h.1])) (State.contributions_congr h.2.1) h.2.2

theorem State.LadderStep.refl (s : State) : s.LadderStep ctx s := (State.SameZones.refl s).ladderStep

theorem State.foldl_ladderStep {α : Type} {g : State → α → State}
    (hg : ∀ s a, State.LadderStep ctx s (g s a)) (l : List α) (s : State) :
    s.LadderStep ctx (l.foldl g s) := by
  induction l generalizing s with
  | nil => exact .refl s
  | cons a l ih => exact (hg s a).trans (ih _)

/-- One zone's entry is replaced by what an event makes of it. -/
theorem State.setZone_ladderStep {z : Fin 8} {e : Entry ZoneFields ZoneDyn}
    (h : Entry.Moves (ZoneDyn.LadderOp ctx.released s.response (s.contributions z)) s.zones[z] e) :
    s.LadderStep ctx (s.setZone z e) := by
  refine .zones (fun y => ?_) (State.contributions_congr rfl) rfl
  rw [State.setZone_zones, vector_set_get]
  split
  · rename_i hzy; subst hzy; exact h
  · exact .stays _

/-- An event at one zone. -/
theorem State.updateZone_ladderStep {z : Fin 8} {g : ZoneDyn → ZoneDyn}
    (h : ∀ f d, s.zones[z] = .inService f d → ZoneDyn.LadderOp ctx.released s.response (s.contributions z) d (g d)) :
    s.LadderStep ctx (s.updateZone z g) := by
  cases hz : s.zones[z] with
  | vacant | draft f => rw [State.updateZone_of_not (by rw [hz]; rfl)]; exact .refl s
  | inService f d =>
    have hset : s.LadderStep ctx (s.setZone z (.inService f (g d))) :=
      State.setZone_ladderStep (by rw [hz]; exact .moves (h f d hz))
    rw [State.updateZone_of hz]
    split
    · exact hset
    · exact hset.trans (State.SameZones.ladderStep ⟨rfl, rfl, rfl⟩)

/-- A zone is formed afresh after the contributions to it, and to no other, have changed (R22, R27). -/
theorem State.reformZone_ladderStep {z : Fin 8} (hz : u.zones = s.zones) (hr : u.response = s.response)
    (hp : u.restartPending = s.restartPending) (hc : ∀ y : Fin 8, y ≠ z → u.contributions y = s.contributions y) :
    s.LadderStep ctx (u.reformZone z) := by
  have hcontr (y : Fin 8) : (u.reformZone z).contributions y = u.contributions y :=
    State.contributions_congr (State.reformZone_sameMachines u z).1 y
  have hpend : (u.reformZone z).restartPending = s.restartPending := by
    rw [State.reformZone, State.updateZone_frame]; exact hp
  have hother (y : Fin 8) (hy : y ≠ z) :
      (u.reformZone z).zones[y] = s.zones[y] ∧ (u.reformZone z).contributions y = s.contributions y :=
    ⟨(State.reformZone_other hy).1.trans (by rw [hz]), (hcontr y).trans (hc y hy)⟩
  cases hzone : u.zones[z] with
  | vacant | draft f =>
    have hsame : u.reformZone z = u := State.updateZone_of_not (by rw [hzone]; rfl)
    refine .forms z (.of_eq (by rw [hsame, hz])) (fun d hd => ?_) hother hpend
    rw [hsame, hzone] at hd; cases hd
  | inService f d =>
    have hself : (u.reformZone z).zones[z] = .inService f (d.reformed u.response (u.contributions z)) :=
      State.updateZone_self hzone
    refine .forms z ?_ (fun e he => ?_) hother hpend
    · rw [hself, ← hz, hzone]
      exact .moves (by rw [hr, hcontr])
    · rw [hself] at he
      cases he
      rw [hcontr]
      exact ZoneDyn.reformed_isFormed _ _ d

/-- A point's entry is replaced, and the zone it names formed afresh: the contributions to other zones stay. -/
theorem State.reformAfterPoint_ladderStep {i : Fin 64} {e : Entry PointFields PointDyn} {z : Fin 8}
    (hz : u.zones = s.zones) (hr : u.response = s.response) (hpend : u.restartPending = s.restartPending)
    (hp : u.points = s.points.set i e)
    (he : ∀ y : Fin 8, y ≠ z → entryContribution y e = entryContribution y s.points[i]) :
    s.LadderStep ctx (u.reformZone z) :=
  State.reformZone_ladderStep hz hr hpend fun y hy => State.contributions_set hp (he y hy)

/-- An event at one point (R22): its zone is formed afresh when its contribution changes. -/
theorem State.updatePoint_ladderStep (s : State) (i : Fin 64) (g : PointFields → PointDyn → PointDyn) :
    s.LadderStep ctx (s.updatePoint i g) := by
  cases h : s.points[i] with
  | vacant | draft f => rw [State.updatePoint_of_not (by rw [h]; rfl)]; exact .refl s
  | inService f d =>
    have hframe := (s.setPoint i (.inService f (g f d))).pointMarked_frame i d.state (g f d).state
    rw [State.updatePoint_of h]
    split
    · rename_i hc
      refine .zones (fun z => .of_eq (by rw [hframe]; rfl)) (fun z => ?_) (by rw [hframe]; rfl)
      refine State.contributions_set (i := i) (e := .inService f (g f d)) (by rw [hframe]; rfl) ?_
      rw [h]
      simp only [entryContribution, hc]
    · refine State.reformAfterPoint_ladderStep (i := i) (e := .inService f (g f d)) (by rw [hframe]; rfl)
        (by rw [hframe]; rfl) (by rw [hframe]; rfl) (by rw [hframe]; rfl) fun y hy => ?_
      rw [h, entryContribution_other _ hy, entryContribution_other _ hy]

/-! ## Frames from the field -/

theorem State.takeSample_ladderStep (s : State) (i : Fin 64) (v : SamplePayload) :
    s.LadderStep ctx (s.takeSample i v) := by
  have h := s.updatePoint_ladderStep (ctx := ctx) i
    fun f d => d.takeSample f v.raw v.warm v.sensorFault
  unfold State.takeSample
  split
  · dsimp only
    split
    · exact h.trans (State.SameZones.ladderStep ⟨rfl, rfl, rfl⟩)
    · exact h
  · exact .refl s

theorem State.receiveSample_ladderStep (s : State) (f : Frame) : s.LadderStep ctx (s.receiveSample f) := by
  unfold State.receiveSample
  split
  · split
    · split
      · exact (s.takeSample_ladderStep _ _).trans (State.forwardUp_sameZones _ f).ladderStep
      · exact s.takeSample_ladderStep _ _
    · exact ((s.setPort_sameZones _ _).trans (State.forwardUp_sameZones _ f)).ladderStep
  · split
    · exact (s.forwardUp_sameZones f).ladderStep
    · exact (State.SameZones.trans (s := s) (t := s.countStranger) ⟨rfl, rfl, rfl⟩ (State.forwardUp_sameZones _ f)).ladderStep

theorem State.fieldReceive_ladderStep (s : State) (f : Frame) : s.LadderStep ctx (s.fieldReceive f) := by
  unfold State.fieldReceive
  split
  · exact State.SameZones.ladderStep ⟨rfl, rfl, rfl⟩
  · split
    · exact s.receiveSample_ladderStep f
    · split
      · exact (s.receiveStatus_sameZones f).ladderStep
      · exact (s.forwardUp_sameZones f).ladderStep

/-! ## The fire panel (R43, R44) -/

theorem State.panelAlarm_ladderStep (s : State) (mask : Byte) : s.LadderStep ctx (s.panelAlarm mask) := by
  refine State.foldl_ladderStep (fun s z => ?_) _ s
  split
  · exact State.updateZone_ladderStep fun f d _ => .alarm d
  · exact .refl s

theorem State.panelNormal_ladderStep (h : ctx.released) (s : State) (mask : Byte) :
    s.LadderStep ctx (s.panelNormal mask) := by
  refine State.foldl_ladderStep (fun s z => ?_) _ s
  split
  · exact State.updateZone_ladderStep fun f d _ => .normal d h
  · exact .refl s

/-- The frame is a PANEL with action NORMAL, or a request of ZONE_RELEASE's code. -/
abbrev ReleasesFire (f : Frame) : Prop :=
  (f.kind = kindPanel ∧ ∃ mask, f.data = [2, mask]) ∨ (f.kind = kindMgmtReq ∧ ∃ tag args, f.data = 16 :: tag :: args)

theorem panelPayload?_eq_some {data : List Byte} {v : PanelPayload} (h : panelPayload? data = some v) :
    data = [v.action, v.mask] := by
  unfold panelPayload? at h
  split at h
  · cases h; rfl
  · cases h

theorem State.receivePanel_ladderStep {f : Frame} (hk : f.kind = kindPanel) (hrel : ReleasesFire f → ctx.released) :
    s.LadderStep ctx (s.receivePanel f) := by
  unfold State.receivePanel
  split
  · split
    · exact (s.setPort_sameZones _ _).ladderStep
    · rename_i v hv
      split
      · exact s.panelAlarm_ladderStep _
      · split
        · rename_i hact
          have hdata := panelPayload?_eq_some hv
          rw [hact] at hdata
          exact s.panelNormal_ladderStep (hrel (.inl ⟨hk, _, hdata⟩)) _
        · exact State.SameZones.ladderStep ⟨rfl, rfl, rfl⟩
  · exact State.SameZones.ladderStep ⟨rfl, rfl, rfl⟩

/-! ## Clocks and the allocation -/

theorem adoptZone_moves {r : Response} {c : Level} (e : Entry ZoneFields ZoneDyn) :
    Entry.Moves (ZoneDyn.LadderOp ctx.released r c) e (adoptZone e) := by
  cases e with
  | vacant | draft f => exact .stays _
  | inService f d => exact .moves (.keeps ⟨rfl, rfl, rfl, rfl, rfl, rfl, rfl, rfl, rfl, rfl⟩)

theorem State.wrapClock_ladderStep (s : State) (j : Fin 2) : s.LadderStep ctx (s.wrapClock j) := by
  unfold State.wrapClock
  refine .trans (State.SameZones.ladderStep (t := s.setClock j s.clocks[j].wrapped) ⟨rfl, rfl, rfl⟩)
    (State.foldl_ladderStep (fun u z => ?_) _ _)
  split
  · exact State.setZone_ladderStep (adoptZone_moves _)
  · exact .refl u

theorem State.advanceClock_ladderStep (s : State) (j : Fin 2) : s.LadderStep ctx (s.advanceClock j) := by
  unfold State.advanceClock
  dsimp only
  split
  · exact s.wrapClock_ladderStep j
  · exact State.SameZones.ladderStep ⟨rfl, rfl, rfl⟩

theorem State.minuteExpired_ladderStep (s : State) : s.LadderStep ctx s.minuteExpired :=
  .trans (State.SameZones.ladderStep (s := s)
      (t := (s.setMinuteTimer minuteQuarters).setDayClock (s.dayClock.map DayClock.next)) ⟨rfl, rfl, rfl⟩)
    ((State.advanceClock_ladderStep _ 0).trans (State.advanceClock_ladderStep _ 1))

theorem ZoneDyn.allocated_sameLadder (d : ZoneDyn) (demand : Nat) (shares : Vector Nat 4) :
    d.SameLadder (d.allocated demand shares) := ⟨rfl, rfl, rfl, rfl, rfl, rfl, rfl, rfl, rfl, rfl⟩

theorem State.deliverZones_ladderStep (s : State) (demands : Vector Nat 8) (shares : Vector (Vector Nat 4) 8) :
    s.LadderStep ctx (s.deliverZones demands shares) := by
  refine State.foldl_ladderStep (fun u z => ?_) _ s
  exact State.updateZone_ladderStep fun _ d _ => .keeps (d.allocated_sameLadder _ _)

theorem State.allocate_ladderStep (s : State) : s.LadderStep ctx s.allocate := by
  unfold State.allocate
  dsimp only
  refine .trans (State.SameZones.ladderStep (t := s.setDriveTimer s.active.drivePeriod) ⟨rfl, rfl, rfl⟩) ?_
  exact .trans (State.deliverZones_ladderStep _ _ _) (((State.deliverOutputs_onlyOutputs _ _ _ _).trans
    (State.queueDrives_onlyOutputs _)).trans (State.pathCheck_onlyOutputs _)).sameZones.ladderStep

/-! ## Table requests -/

/-- An entry that is out of service stays out of service: a zone's, and a point's, which contributes nothing. -/
theorem State.setPoint_ladderStep {i : Fin 64} {e : Entry PointFields PointDyn} (h : s.points[i].isInService = false)
    (he : e.isInService = false) : s.LadderStep ctx (s.setPoint i e) := by
  have hnone {x : Entry PointFields PointDyn} (hx : x.isInService = false) (z : Fin 8) : entryContribution z x = 0 := by
    cases x with
    | vacant | draft f => rfl
    | inService f d => cases hx
  exact .zones (fun z => .stays _) (fun z => State.contributions_set (i := i) (e := e) rfl ((hnone he z).trans (hnone h z).symm))
    rfl

theorem State.setZone_out_ladderStep {z : Fin 8} {e : Entry ZoneFields ZoneDyn}
    (h : ctx.burning z → s.zones[z].isInService = false) (he : e.isInService = false) :
    s.LadderStep ctx (s.setZone z e) := by
  refine .leaves z ?_ h (fun y hy => vector_set_ne _ _ hy) (State.contributions_congr rfl) rfl
  rw [State.setZone_zones, vector_set_self]
  exact he

theorem Entry.dyn?_of_not {φ δ : Type} {e : Entry φ δ} (h : e.isInService = false) : e.dyn? = none := by
  cases e with
  | vacant | draft f => rfl
  | inService f d => cases h

theorem State.setZone_draft_ladderStep {z : Fin 8} {e : Entry ZoneFields ZoneDyn} (h : s.zones[z].isInService = false)
    (he : e.isInService = false) : s.LadderStep ctx (s.setZone z e) :=
  State.setZone_out_ladderStep (fun _ => h) he

/-- The entry of a life-cycle request is in the state that the request takes. -/
theorem State.lifeCycleEntry_ok {table index : Byte} {from_ : LifeCycle} {r : EntryRef}
    (h : s.lifeCycleEntry table index from_ = .ok r) : s.lifeCycle r = from_ := by
  unfold State.lifeCycleEntry at h
  split at h
  · cases h
  · split at h
    · cases h
    · split at h
      · cases h; assumption
      · cases h

theorem Entry.isInService_of_lifeCycle {φ δ : Type} {e : Entry φ δ} {l : LifeCycle} (h : e.lifeCycle = l)
    (hl : l ≠ .inService) : e.isInService = false := by
  cases e with
  | vacant | draft f => rfl
  | inService f d => exact absurd h.symm hl

theorem State.entryOpen_ladderStep {table index : Byte} (h : s.entryOpen table index = .ok t) :
    s.LadderStep ctx t := by
  unfold State.entryOpen at h
  cases k : s.lifeCycleEntry table index .vacant with
  | error e => rw [k] at h; cases h
  | ok r =>
    rw [k] at h
    cases h
    have hl := State.lifeCycleEntry_ok k
    cases r with
    | point i => exact State.setPoint_ladderStep (Entry.isInService_of_lifeCycle hl nofun) rfl
    | zone z => exact State.setZone_draft_ladderStep (Entry.isInService_of_lifeCycle hl nofun) rfl
    | output | window | response | clock | device => exact State.SameZones.ladderStep ⟨rfl, rfl, rfl⟩

theorem State.entryClear_ladderStep {table index : Byte} (h : s.entryClear table index = .ok t) :
    s.LadderStep ctx t := by
  unfold State.entryClear at h
  cases k : s.lifeCycleEntry table index .draft with
  | error e => rw [k] at h; cases h
  | ok r =>
    rw [k] at h
    cases h
    have hl := State.lifeCycleEntry_ok k
    cases r with
    | point i => exact State.setPoint_ladderStep (Entry.isInService_of_lifeCycle hl nofun) rfl
    | zone z => exact State.setZone_draft_ladderStep (Entry.isInService_of_lifeCycle hl nofun) rfl
    | output | window | response | clock | device => exact State.SameZones.ladderStep ⟨rfl, rfl, rfl⟩

/-- A period that is staged changes one purge clock. -/
theorem State.tunePeriod_sameZones {j : Fin 2} {code : Nat} {v : Option Nat} (h : s.tunePeriod j code v = .ok t) :
    s.SameZones t := by
  unfold State.tunePeriod at h
  split at h
  · cases h
  · split at h
    · cases h; exact ⟨rfl, rfl, rfl⟩
    · cases h

theorem within_ok {φ : Type} {lo hi : Nat} {k : Nat → φ} {v : Option Nat} {x : φ} (h : within lo hi k v = .ok x) :
    ∃ n, x = k n := by
  unfold within at h
  split at h
  · split at h
    · cases h; exact ⟨_, rfl⟩
    · cases h
  · cases h

/-- A staged purge value is none of the ladder's (R72). -/
theorem ZoneDyn.stage_sameLadder {d e : ZoneDyn} {code : Nat} {v : Option Nat} (h : d.stage code v = .ok e) :
    d.SameLadder e := by
  unfold ZoneDyn.stage at h
  split at h
  · obtain ⟨n, rfl⟩ := within_ok h; exact ⟨rfl, rfl, rfl, rfl, rfl, rfl, rfl, rfl, rfl, rfl⟩
  · obtain ⟨n, rfl⟩ := within_ok h; exact ⟨rfl, rfl, rfl, rfl, rfl, rfl, rfl, rfl, rfl, rfl⟩
  · obtain ⟨n, rfl⟩ := within_ok h; exact ⟨rfl, rfl, rfl, rfl, rfl, rfl, rfl, rfl, rfl, rfl⟩
  · cases h

theorem State.tuneZone_ladderStep {z : Fin 8} {code : Nat} {v : Option Nat} (h : s.tuneZone z code v = .ok t) :
    s.LadderStep ctx t := by
  unfold State.tuneZone at h
  split at h
  · rename_i f d hz
    split at h
    · cases h
    · split at h
      · cases h
      · rename_i hstage
        split at h
        · cases h
          exact State.setZone_ladderStep (by rw [hz]; exact .moves (.keeps (ZoneDyn.stage_sameLadder hstage)))
        · cases h
  · cases h

theorem State.entryTune_ladderStep {table index field : Byte} {value : BitVec 16}
    (h : s.entryTune table index field value = .ok t) : s.LadderStep ctx t := by
  unfold State.entryTune at h
  split at h
  · cases h
  · split at h
    · cases h
    · split at h
      · exact State.tuneZone_ladderStep h
      · exact (State.tunePeriod_sameZones h).ladderStep
      · cases h

/-- An ENTRY_SET of a point's or a zone's field finds its entry in DRAFT. -/
theorem State.setPointField_draft {i : Fin 64} {code : Nat} {value : BitVec 16} {presence : Byte}
    (h : s.setPointField i code value presence = .ok t) : s.points[i].isInService = false := by
  unfold State.setPointField at h
  split at h
  · rename_i hp; rw [hp]; rfl
  · cases h

theorem State.setZoneField_draft {z : Fin 8} {code : Nat} {value : BitVec 16} {presence : Byte}
    (h : s.setZoneField z code value presence = .ok t) : s.zones[z].isInService = false := by
  unfold State.setZoneField at h
  split at h
  · rename_i hz; rw [hz]; rfl
  · cases h

theorem State.entrySet_ladderStep {table index field : Byte} {value : BitVec 16} {presence : Byte}
    (h : s.entrySet table index field value presence = .ok t) : s.LadderStep ctx t := by
  unfold State.entrySet at h
  split at h
  · cases h
  · split at h
    · cases h
    · split at h
      · have hd := State.setPointField_draft h
        obtain ⟨f, rfl⟩ := State.setPointField_ok h
        exact State.setPoint_ladderStep hd rfl
      · have hd := State.setZoneField_draft h
        obtain ⟨f, rfl⟩ := State.setZoneField_ok h
        exact State.setZone_draft_ladderStep hd rfl
      · obtain ⟨f, rfl⟩ := State.setOutputField_ok h; exact State.SameZones.ladderStep ⟨rfl, rfl, rfl⟩
      · obtain ⟨f, rfl⟩ := State.setWindowField_ok h; exact State.SameZones.ladderStep ⟨rfl, rfl, rfl⟩
      · obtain ⟨r, rfl⟩ := State.setResponseField_ok h; exact State.SameZones.ladderStep ⟨rfl, rfl, rfl⟩
      · exact (State.tunePeriod_sameZones (presenceChecked_ok h)).ladderStep
      · obtain ⟨r, rfl⟩ := State.setDeviceField_ok h; exact State.SameZones.ladderStep ⟨rfl, rfl, rfl⟩

theorem State.entryCommission_ladderStep {table index : Byte} (ht : s.Within ctx)
    (h : s.entryCommission table index = .ok t) : s.LadderStep ctx t := by
  obtain ⟨r, h⟩ := State.entryCommission_ok h
  rcases State.commissionEntry_ok h with ⟨i, f, hd, rfl⟩ | ⟨z, f, hd, rfl⟩ | ⟨i, f, -, rfl⟩ | ⟨w, f, -, rfl⟩
  · refine State.reformAfterPoint_ladderStep (i := i) (e := .inService f f.initial) rfl rfl rfl rfl fun y _ => ?_
    rw [hd, entryContribution_initial]
    rfl
  · have hout : s.zones[z].isInService = false := by rw [hd]; rfl
    refine .enters z hout (fun d hin => ?_) (fun hs => (ht.tables hs).contributions_eq_zero hout)
      (fun y hy => vector_set_ne _ _ hy) (State.contributions_congr rfl) rfl
    have hself : (s.commissionZone z f).zones[z] = .inService f ZoneDyn.initial := vector_set_self _ _ _
    rw [hself] at hin
    cases hin
    rfl
  · exact State.SameZones.ladderStep ⟨rfl, rfl, rfl⟩
  · exact State.SameZones.ladderStep ⟨rfl, rfl, rfl⟩

theorem State.retireZone_ladderStep {z : Fin 8} (f : ZoneFields) (h : ¬ctx.burning z) :
    s.LadderStep ctx (s.retireZone z f) := by
  refine .trans (State.setZone_out_ladderStep (e := .draft f) (fun k => absurd k h) rfl) ?_
  exact (State.SameZones.trans (s := s.setZone z (.draft f))
    (t := (s.setZone z (.draft f)).setZoneSlot z Slot.cleared) ⟨rfl, rfl, rfl⟩
    (State.detachReport_onlyLines _ z).sameZones).ladderStep

theorem State.retirePoint_ladderStep {i : Fin 64} {f : PointFields} {d : PointDyn} (h : s.points[i] = .inService f d) :
    s.LadderStep ctx (s.retirePoint i f d) := by
  rw [State.retirePoint_eq]
  refine State.reformAfterPoint_ladderStep (i := i) (e := .draft f) rfl rfl rfl rfl fun y hy => ?_
  rw [h, entryContribution_other d hy]
  rfl

/-- A zone leaves service only at E = 0 (R54, R145). -/
theorem State.entryRetire_ladderStep {table index : Byte} (ht : s.Within ctx) (h : s.entryRetire table index = .ok t) :
    s.LadderStep ctx t := by
  obtain ⟨r, h⟩ := State.entryRetire_ok h
  unfold State.retireEntry at h
  split at h
  · split at h
    · split at h <;> cases h
      exact State.retirePoint_ladderStep (by assumption)
    · cases h
  · split at h
    · rename_i z _ f d hz
      split at h
      · cases h
      · split at h <;> cases h
        rename_i hlevel
        refine State.retireZone_ladderStep f fun k => ?_
        obtain ⟨g, e, he, hfire⟩ := ht.fire z k
        rw [hz] at he
        cases he
        rw [hlevel] at hfire
        exact absurd hfire (by decide)
    · cases h
  · split at h
    · split at h
      · cases h
      · split at h <;> cases h
        rw [State.retireOutput_eq]
        exact State.SameZones.ladderStep ⟨rfl, rfl, rfl⟩
    · cases h
  · split at h <;> cases h
    exact State.SameZones.ladderStep ⟨rfl, rfl, rfl⟩
  · cases h

/-! ## Zone and output requests -/

theorem State.zoneNamed_ok {zone : Byte} {z : Fin 8} {d : ZoneDyn} (h : s.zoneNamed zone = .ok (z, d)) :
    indexOf 8 zone = some z ∧ ∃ f, s.zones[z] = .inService f d := by
  unfold State.zoneNamed at h
  split at h
  · cases h
  · split at h
    · cases h; exact ⟨by assumption, _, by assumption⟩
    · cases h

theorem State.zoneRelease_ladderStep (hrel : ctx.released) {zone level : Byte} (h : s.zoneRelease zone level = .ok t) :
    s.LadderStep ctx t := by
  unfold State.zoneRelease at h
  split at h
  · cases h
  · rename_i z d hn
    obtain ⟨-, f, hz⟩ := State.zoneNamed_ok hn
    split at h
    · cases h
    · rename_i hl
      split at h
      · cases h
      · rename_i hin
        split at h
        · cases h
        · rename_i hcond
          cases h
          refine State.updateZone_ladderStep fun g e he => ?_
          obtain rfl : d = e := by rw [hz] at he; cases he; rfl
          have hfire : isFire d.level = true := by
            rw [not_not] at hin
            rw [isFire, decide_eq_true_eq, Fin.le_def, hin]
            rcases not_and_or.1 hl with k | k <;> rw [not_not.1 k] <;> decide
          exact .consent d hrel hfire (not_le.1 hcond)

theorem State.zoneSuppress_ladderStep {zone setting : Byte} (h : s.zoneSuppress zone setting = .ok t) :
    s.LadderStep ctx t := by
  unfold State.zoneSuppress at h
  split at h
  · cases h
  · split at h
    · cases h; exact State.updateZone_ladderStep fun _ d _ => .suppressed d
    · split at h <;> cases h
      exact State.updateZone_ladderStep fun _ d _ => .lifted d

theorem State.zoneForce_ladderStep {zone level : Byte} (h : s.zoneForce zone level = .ok t) :
    s.LadderStep ctx t := by
  unfold State.zoneForce at h
  split at h
  · cases h
  · split at h <;> cases h
    exact State.updateZone_ladderStep fun _ d _ => .forced d _

theorem State.outputHand_sameZones {output setting : Byte} (h : s.outputHand output setting = .ok t) :
    s.SameZones t := by
  unfold State.outputHand at h
  split at h
  · cases h
  · split at h
    · cases h; exact s.handOff_sameZones _
    · split at h
      · split at h <;> cases h
        exact s.handOn_sameZones _
      · cases h

theorem State.outputReset_sameZones {output : Byte} (h : s.outputReset output = .ok t) : s.SameZones t := by
  unfold State.outputReset at h
  split at h
  · cases h
  · split at h <;> cases h
    exact s.updateFan_sameZones _ _
  · split at h <;> cases h
    exact s.updateDamper_sameZones _ _

theorem State.countersClear_ladderStep (s : State) : s.LadderStep ctx s.countersClear := by
  have hz : s.countersClear.zones = s.zones := by unfold State.countersClear; rfl
  have hp : s.countersClear.restartPending = s.restartPending := by unfold State.countersClear; rfl
  refine .zones (fun z => .of_eq (by rw [hz])) (fun z => State.contributions_of_entries fun i => ?_) hp
  have hclear : s.countersClear.points[i] = clearBadCount s.points[i] := vector_ofFn_get _ i
  rw [hclear, entryContribution_clearBadCount]

/-! ## Requests -/

/-- What a request does to the zones, before its reply. -/
theorem State.decide_ladderStep {r : Request} (ht : s.Within ctx)
    (hrel : (∃ zone level, r = .zoneRelease zone level) → ctx.released) (h : (s.decide r).state? = some t) :
    s.LadderStep ctx t := by
  cases r with
  | entryOpen table index => exact State.entryOpen_ladderStep (Decision.ofChange_state? h)
  | entrySet table index field value presence => exact State.entrySet_ladderStep (Decision.ofChange_state? h)
  | entryCommission table index => exact State.entryCommission_ladderStep ht (Decision.ofChange_state? h)
  | entryRetire table index => exact State.entryRetire_ladderStep ht (Decision.ofChange_state? h)
  | entryClear table index => exact State.entryClear_ladderStep (Decision.ofChange_state? h)
  | entryTune table index field value => exact State.entryTune_ladderStep (Decision.ofChange_state? h)
  | zoneRelease zone level => exact State.zoneRelease_ladderStep (hrel ⟨_, _, rfl⟩) (Decision.ofChange_state? h)
  | zoneSuppress zone setting => exact State.zoneSuppress_ladderStep (Decision.ofChange_state? h)
  | zoneForce zone level => exact State.zoneForce_ladderStep (Decision.ofChange_state? h)
  | outputHand output setting => exact (State.outputHand_sameZones (Decision.ofChange_state? h)).ladderStep
  | outputReset output => exact (State.outputReset_sameZones (Decision.ofChange_state? h)).ladderStep
  | entryGet | readZone | readPoint | readOutput | readCounter | readDevice =>
    rw [Decision.ofRead_state? h]; exact .refl s
  | countersClear => cases h; exact s.countersClear_ladderStep
  | save =>
    simp only [State.decide] at h
    split at h <;> cases h
    exact .refl s
  | restart =>
    simp only [State.decide] at h
    split at h
    · cases h
    · split at h <;> cases h
      exact .refl s

/-- A RESTART is accepted only out of the fire state, and changes nothing yet (R165). -/
theorem State.decide_restarting {r : Request} (h : s.decide r = .restarting t) : t = s ∧ s.fireState = false := by
  cases r with
  | restart =>
    simp only [State.decide] at h
    split at h
    · cases h
    · split at h <;> cases h
      rename_i hfire
      exact ⟨rfl, by simpa using hfire⟩
  | save =>
    simp only [State.decide] at h
    split at h <;> cases h
  | entryOpen | entrySet | entryCommission | entryRetire | entryClear | entryTune | zoneRelease | zoneSuppress | zoneForce
  | outputHand | outputReset =>
    simp only [State.decide, Decision.ofChange] at h
    split at h <;> cases h
  | entryGet | readZone | readPoint | readOutput | readCounter | readDevice =>
    simp only [State.decide, Decision.ofRead] at h
    split at h <;> cases h
  | countersClear => cases h

theorem State.takeRequest_ladderStep (ht : s.Within ctx) {r : Request}
    (hrel : (∃ zone level, r = .zoneRelease zone level) → ctx.released) (src tag : Byte) :
    s.LadderStep ctx (s.takeRequest src tag r) := by
  have refused (code : Byte) (c : ReplyCode) : s.LadderStep ctx (s.refuse src code tag c) :=
    (s.refuse_onlyLines code c).sameZones.ladderStep
  have replied (u : State) (o : Origin) (code : Byte) (n : Nat) (data : List Byte) :
      u.LadderStep ctx (u.queueReply o src code tag n data) :=
    (u.queueReply_onlyLines o src code tag n data).sameZones.ladderStep
  unfold State.takeRequest
  split
  · exact refused _ _
  · split
    · exact refused _ _
    · rename_i t data h
      exact (State.decide_ladderStep ht hrel (by rw [h]; rfl)).trans (replied _ _ _ _ _)
    · rename_i t h
      exact (State.decide_ladderStep ht hrel (by rw [h]; rfl)).trans
        (State.SameZones.ladderStep (s := t) (t := t.acceptSave src tag) ⟨rfl, rfl, rfl⟩)
    · rename_i t h
      obtain ⟨rfl, hcalm⟩ := State.decide_restarting h
      exact .trans (.accepts (t := t.setRestartPending true) (ht.not_burning_of_calm hcalm) rfl (State.contributions_congr rfl))
        (replied _ _ _ _ _)

/-- Only ZONE_RELEASE's code decodes to a ZONE_RELEASE (R154). -/
theorem decodeRequest_zoneRelease {code zone level : Byte} {args : List Byte}
    (h : decodeRequest code args = some (.zoneRelease zone level)) : code = 16 := by
  unfold decodeRequest at h
  split at h <;> cases h
  exact BitVec.eq_of_toNat_eq (by assumption)

theorem State.takeEncoded_ladderStep (ht : s.Within ctx) {code : Byte} (hrel : code = 16 → ctx.released)
    (src tag : Byte) (args : List Byte) : s.LadderStep ctx (s.takeEncoded src code tag args) := by
  unfold State.takeEncoded
  split
  · rename_i r hr
    refine State.takeRequest_ladderStep ht (fun hz => ?_) src tag
    obtain ⟨zone, level, rfl⟩ := hz
    exact hrel (decodeRequest_zoneRelease hr)
  · exact (s.refuse_onlyLines code _).sameZones.ladderStep

theorem requestPayload?_eq_some {data : List Byte} {v : RequestPayload} (h : requestPayload? data = some v) :
    data = v.code :: v.tag :: v.args := by
  unfold requestPayload? at h
  split at h
  · split at h <;> cases h
    rfl
  · cases h

/-- A frame received on the TRUNK port: only a NORMAL or a release is a consent (R133 to R135). -/
theorem State.trunkReceive_ladderStep (ht : s.Within ctx) {f : Frame} (hrel : ReleasesFire f → ctx.released) :
    s.LadderStep ctx (s.trunkReceive f) := by
  unfold State.trunkReceive
  split
  · split
    · rename_i hk
      unfold State.receiveRequest
      split
      · rename_i v hv
        have hdata := requestPayload?_eq_some hv
        refine State.takeEncoded_ladderStep ht (fun hcode => ?_) _ _ _
        rw [hcode] at hdata
        exact hrel (.inr ⟨hk, _, _, hdata⟩)
      · exact (s.setPort_sameZones _ _).ladderStep
    · split
      · exact State.receivePanel_ladderStep (by assumption) hrel
      · split
        · exact (s.receiveTime_sameZones f).ladderStep
        · exact .refl s
  · split
    · exact ((s.receiveTime_sameZones f).trans (State.passDown_sameZones _ f)).ladderStep
    · exact (s.passDown_sameZones f).ladderStep

/-! ## Resets (R24, R55) -/

/-- Every reset leaves each zone in service as it enters service, and no point with a contribution. -/
theorem State.resetDynamic_ladderStep (hwhy : s.restartPending = true ∨ ctx.released) (u : State) :
    s.LadderStep ctx u.resetDynamic := by
  refine .reset hwhy (fun z d hd => ?_) fun z => State.contributions_eq_zero fun i => ?_
  · have hreset : u.resetDynamic.zones[z] = resetEntry (fun _ => ZoneDyn.initial) u.zones[z] := vector_ofFn_get _ z
    rw [hreset] at hd
    cases hz : u.zones[z] <;> rw [hz] at hd <;> cases hd
    rfl
  · have hreset : u.resetDynamic.points[i] = resetEntry PointFields.initial u.points[i] := vector_ofFn_get _ i
    rw [hreset]
    exact entryContribution_resetEntry _

theorem State.restarted_ladderStep (h : s.restartPending = true) : s.LadderStep ctx s.restarted :=
  State.resetDynamic_ladderStep (.inl h) _

theorem State.startUp_ladderStep (h : ctx.released) (s : State) : s.LadderStep ctx s.startUp :=
  State.resetDynamic_ladderStep (.inr h) _

theorem State.finish_ladderStep (s : State) : s.LadderStep ctx s.finish := by
  unfold State.finish
  split
  · rename_i hdue
    exact State.restarted_ladderStep (by simp only [State.restartDue, Bool.and_eq_true] at hdue; exact hdue.1)
  · exact s.arbitrate_quiet.1.sameZones.ladderStep

theorem State.powerUp_ladderStep (h : ctx.released) (s : State) : s.LadderStep ctx s.powerUp := by
  have hbreak : s.SameZones (s.breakSave.setPowered true) := s.breakSave_sameZones
  unfold State.powerUp
  dsimp only
  split
  · exact hbreak.ladderStep
  · exact hbreak.ladderStep.trans (State.startUp_ladderStep h _)

theorem State.release_ladderStep (h : ctx.released) (s : State) : s.LadderStep ctx s.release := by
  have hbreak : s.SameZones (s.breakSave.setResetLine false) := s.breakSave_sameZones
  unfold State.release
  dsimp only
  split
  · exact hbreak.ladderStep.trans (State.startUp_ladderStep h _)
  · exact hbreak.ladderStep

/-! ## Every command -/

theorem onEvent_ladderStep {applies : Bool} {g : State → State} (h : onEvent applies g s = .next t)
    (hg : applies = true → s.LadderStep ctx (g s)) : s.LadderStep ctx t := by
  rcases onEvent_next.1 h with ⟨-, ha, rfl⟩ | ⟨-, rfl⟩
  · exact (hg ha).trans (State.finish_ladderStep _)
  · exact .refl t

theorem onEvent_sameZones {applies : Bool} {g : State → State} (h : onEvent applies g s = .next t)
    (hg : s.SameZones (g s)) : s.LadderStep ctx t := onEvent_ladderStep h fun _ => hg.ladderStep

theorem onFrame_ladderStep {p : PortId} {g : State → State} (h : onFrame p g s = .next t)
    (hg : (s.heard p).LadderStep ctx (g (s.heard p))) : s.LadderStep ctx t :=
  onEvent_ladderStep h fun _ => (s.heard_sameZones p).ladderStep.trans hg

theorem onRequest_ladderStep {src tag : Byte} {r : Request} (ht : s.Within ctx)
    (hrel : (∃ zone level, r = .zoneRelease zone level) → ctx.released) (h : onRequest src tag r s = .next t) :
    s.LadderStep ctx t :=
  onFrame_ladderStep h (State.takeRequest_ladderStep (ht.heard _) hrel src tag)

theorem trunkFrame_ladderStep {f : Frame} (ht : s.Within ctx) (hrel : ReleasesFire f → ctx.released)
    (h : onFrame .trunk (State.trunkReceive f) s = .next t) : s.LadderStep ctx t :=
  onFrame_ladderStep h (State.trunkReceive_ladderStep (ht.heard _) hrel)

/-- The command is a release, a NORMAL of the fire panel, or a start: all that may take a fire level away. -/
def GivesConsent : Instr → Prop
  | .zoneRelease .. | .panelNormal .. | .powerOn | .resetLineRelease => True
  | .trunkFrame ident data => ReleasesFire (Frame.ofIdent ident data)
  | .badRequest _ code _ _ => code = 16
  | _ => False

/-- The run-on of a zone whose expiry applies runs. -/
theorem State.runOnTimer_isSome {z : Fin 8} {f : ZoneFields} {d : ZoneDyn} (h : (s.runOnTimer z).isSome = true)
    (hz : s.zones[z] = .inService f d) : d.runOn.isSome = true := by
  unfold State.runOnTimer at h
  rw [hz] at h
  exact h

theorem fanFault_ladderStep {applies : Bool} {i : Fin 24} {r : FanFault}
    (h : onEvent applies (State.updateFan · i fun f => FanDyn.enterFault f r) s = .next t) : s.LadderStep ctx t :=
  onEvent_sameZones h (s.updateFan_sameZones i _)

theorem damperFault_ladderStep {applies : Bool} {i : Fin 24} {r : DamperFault}
    (h : onEvent applies (State.updateDamper · i fun _ => DamperDyn.enterFault r) s = .next t) : s.LadderStep ctx t :=
  onEvent_sameZones h (s.updateDamper_sameZones i _)

/-- What every command does to the zones. -/
theorem exec_ladderStep {c : Instr} (ht : s.Within ctx) (hrel : GivesConsent c → ctx.released)
    (h : exec c s = .next t) : s.LadderStep ctx t := by
  cases c with
  | sample hd data | statusFan hd data | statusDamper hd data | fieldFrame ident data | fieldMgmtReq hd data =>
    exact onFrame_ladderStep h (State.fieldReceive_ladderStep _ _)
  | panelAlarm hd rest =>
    refine trunkFrame_ladderStep ht (fun k => ?_) h
    rcases k with ⟨-, mask, hdata⟩ | ⟨hk, -⟩
    · cases hdata
    · cases hk
  | panelNormal hd rest => exact trunkFrame_ladderStep ht (fun _ => hrel trivial) h
  | time hd data =>
    refine trunkFrame_ladderStep ht (fun k => ?_) h
    rcases k with ⟨hk, -⟩ | ⟨hk, -⟩ <;> cases hk
  | trunkFrame ident data => exact trunkFrame_ladderStep ht hrel h
  | standardOrRemoteFrame p => exact onFrame_ladderStep h (State.setPort_sameZones _ _ _).ladderStep
  | badRequest src code tag args =>
    exact onFrame_ladderStep h (State.takeEncoded_ladderStep (ht.heard _) hrel src tag args)
  | zoneRelease src tag zone level => exact onRequest_ladderStep ht (fun _ => hrel trivial) h
  | entryOpen | entrySet | entryGet | entryCommission | entryRetire | entryClear | entryTune
  | zoneSuppressOn | zoneSuppressOff | zoneForce | outputHandOn | outputHandOff | outputReset | readZone | readPoint
  | readOutput | readCounter | readDevice | countersClear | save | restart =>
    exact onRequest_ladderStep ht (fun ⟨_, _, k⟩ => nomatch k) h
  | silenceTimerExpiry i =>
    rw [exec_silenceTimerExpiry] at h
    exact onEvent_ladderStep h fun _ => s.updatePoint_ladderStep i _
  | runOnExpiry z =>
    rw [exec_runOnExpiry] at h
    exact onEvent_ladderStep h fun ha => State.updateZone_ladderStep fun _ d hz =>
      .expired d (State.runOnTimer_isSome ha hz)
  | minuteTimerExpiry =>
    rw [exec_minuteTimerExpiry] at h
    exact onEvent_ladderStep h fun _ => s.minuteExpired_ladderStep
  | purgeClockWrap j =>
    rw [exec_purgeClockWrap] at h
    exact onEvent_ladderStep h fun _ => s.wrapClock_ladderStep j
  | drivePeriodExpiry =>
    rw [exec_drivePeriodExpiry] at h
    exact onEvent_ladderStep h fun _ => s.allocate_ladderStep
  | pathTimerExpiry i =>
    rw [exec_pathTimerExpiry] at h
    exact onEvent_sameZones h (s.pathExpired_sameZones i)
  | retryTimerExpiry i =>
    rw [exec_retryTimerExpiry] at h
    exact onEvent_sameZones h (s.retryExpired_sameZones i)
  | startTimerExpiry i | fanStatusTimerExpiry i | stopTimerExpiry i => exact fanFault_ladderStep h
  | travelTimerExpiry i | damperStatusTimerExpiry i => exact damperFault_ladderStep h
  | transmitComplete p =>
    rw [exec_transmitComplete] at h
    exact onEvent_sameZones h (s.completeOffer_sameZones p)
  | failedAttempt p =>
    rw [exec_failedAttempt] at h
    exact onEvent_sameZones h (s.failOffer_sameZones p)
  | arbitrationLost p =>
    rw [exec_arbitrationLost] at h
    exact onEvent_sameZones h (.refl s)
  | frameAbandon p =>
    rw [exec_frameAbandon] at h
    exact onEvent_sameZones h (s.abandonOffer_sameZones p)
  | recoveryTimerExpiry p =>
    rw [exec_recoveryTimerExpiry] at h
    exact onEvent_sameZones h (s.setPort_sameZones p _)
  | saveComplete matched =>
    rw [exec_saveComplete] at h
    exact onEvent_sameZones h (s.saveCompleted_sameZones matched)
  | restartTakesEffect =>
    rw [exec_restartTakesEffect] at h
    split at h <;> cases h
    · rename_i hp
      exact State.restarted_ladderStep (by simp only [Bool.and_eq_true] at hp; exact hp.2)
    · exact .refl s
  | powerOn => cases h; exact State.powerUp_ladderStep (hrel trivial) s
  | supplyLoss => cases h; exact State.SameZones.ladderStep (t := s.breakSave.setPowered false) s.breakSave_sameZones
  | resetLineAssert => cases h; exact State.SameZones.ladderStep (t := s.breakSave.setResetLine true) s.breakSave_sameZones
  | resetLineRelease => cases h; exact State.release_ladderStep (hrel trivial) s

/-! ## Every step -/

/-- The part after a quarter second, before what is due happens (R70). -/
def State.ticked (s : State) : State :=
  { s with
    points := Vector.ofFn fun i => s.points[i].mapDyn PointDyn.tick
    zones := Vector.ofFn fun z => s.zones[z].mapDyn ZoneDyn.tick
    outputs := Vector.ofFn fun i => s.outputs[i].mapDyn OutputDyn.tick
    minuteTimer := s.minuteTimer - 1
    driveTimer := s.driveTimer - 1
    field := s.field.tick
    trunk := s.trunk.tick }

theorem State.passTime_eq (s : State) : s.passTime = if s.works then s.ticked.finish else s := rfl

theorem ZoneDyn.tick_sameLadder (d : ZoneDyn) : d.SameLadder d.tick :=
  ⟨rfl, rfl, rfl, rfl, rfl, rfl, rfl, Timer.tick_isSome _, rfl, rfl⟩

theorem State.ticked_ladderStep (s : State) : s.LadderStep ctx s.ticked := by
  have hp : s.ticked.restartPending = s.restartPending := by unfold State.ticked; rfl
  refine .zones (fun z => ?_) (fun z => State.contributions_of_entries fun i => ?_) hp
  · have htick : s.ticked.zones[z] = s.zones[z].mapDyn ZoneDyn.tick := vector_ofFn_get _ z
    rw [htick]
    cases s.zones[z] with
    | vacant | draft f => exact .stays _
    | inService f d => exact .moves (.keeps d.tick_sameLadder)
  · have htick : s.ticked.points[i] = s.points[i].mapDyn PointDyn.tick := vector_ofFn_get _ i
    rw [htick, entryContribution_tick]

theorem State.passTime_ladderStep (s : State) : s.LadderStep ctx s.passTime := by
  rw [State.passTime_eq]
  split
  · exact s.ticked_ladderStep.trans s.ticked.finish_ladderStep
  · exact .refl s

/-- The expiry that an idle part takes is one of those that are due. -/
theorem State.nextExpiry_mem {c : Instr} (h : s.nextExpiry = some (c, t)) : c ∈ s.dueExpiries := by
  unfold State.nextExpiry at h
  split at h
  · split at h
    · cases h
    · rename_i hdue; cases h; rw [hdue]; exact List.mem_singleton_self _
    · rename_i x xs _ hdue
      cases h
      have hlt : Config.expiryOrder s.freeIndex % (xs.length + 1) < (x :: xs).length := Nat.mod_lt _ (Nat.succ_pos _)
      rw [hdue, List.getD_eq_getElem?_getD, List.getElem?_eq_getElem hlt]
      exact List.getElem_mem hlt
  · cases h

/-- An expiry that is due is no consent. -/
theorem State.not_givesConsent_of_due {c : Instr} (h : c ∈ s.dueExpiries) : ¬GivesConsent c := by
  intro k
  cases c with
  | zoneRelease | panelNormal | powerOn | resetLineRelease | trunkFrame | badRequest => simp [State.dueExpiries] at h
  | _ => exact k

/-- What every step does to the zones; only a command at the front of the queue can be a consent. -/
theorem step_ladderStep (ht : s.Within ctx)
    (hrel : ∀ c rest, s.pending = c :: rest → GivesConsent c → ctx.released) (h : step s = .next t) :
    s.LadderStep ctx t := by
  unfold step at h
  split at h
  · rename_i c rest hp
    exact .trans (State.SameZones.ladderStep (s := s) (t := s.setPending rest) ⟨rfl, rfl, rfl⟩)
      (exec_ladderStep (s := s.setPending rest) ⟨ht.tables, ht.fire⟩ (hrel c rest hp) h)
  · unfold State.idle at h
    split at h
    · rename_i c u hnext
      have hnot : GivesConsent c → ctx.released := fun k =>
        absurd k (State.not_givesConsent_of_due (State.nextExpiry_mem hnext))
      rcases State.nextExpiry_state hnext with rfl | rfl
      · exact exec_ladderStep ht hnot h
      · exact .trans (State.SameZones.ladderStep (s := s) (t := s.setFreeIndex (s.freeIndex + 1)) ⟨rfl, rfl, rfl⟩)
          (exec_ladderStep (s := s.setFreeIndex (s.freeIndex + 1)) ⟨ht.tables, ht.fire⟩ hnot h)
    · cases h; exact s.passTime_ladderStep

/-! ## What every step keeps -/

theorem Entry.Moves.dyn? {op : ZoneDyn → ZoneDyn → Prop} {e e' : Entry ZoneFields ZoneDyn} (h : Entry.Moves op e e')
    {d' : ZoneDyn} (hd : d' ∈ e'.dyn?) : d' ∈ e.dyn? ∨ ∃ d ∈ e.dyn?, op d d' := by
  cases h with
  | stays => exact .inl hd
  | moves k => cases hd; exact .inr ⟨_, rfl, k⟩

/-- A step of the ladders keeps their relations in every zone. -/
theorem State.LadderStep.sound (h : s.LadderStep ctx t) (hs : s.LadderSound) : t.LadderSound := by
  induction h with
  | zones hz =>
    intro z d hd
    rcases (hz z).dyn? hd with k | ⟨e, he, op⟩
    · exact hs z d k
    · exact op.sound (hs z e he)
  | forms z hz _ hother =>
    intro y d hd
    by_cases hy : y = z
    · subst hy
      rcases hz.dyn? hd with k | ⟨e, he, rfl⟩
      · exact hs y d k
      · exact (hs y e he).reformed _ _
    · rw [(hother y hy).1] at hd
      exact hs y d hd
  | leaves z hout _ hother =>
    intro y d hd
    by_cases hy : y = z
    · subst hy
      rw [Entry.dyn?_of_not hout] at hd
      cases hd
    · rw [hother y hy] at hd
      exact hs y d hd
  | enters z _ hin _ hother =>
    intro y d hd
    by_cases hy : y = z
    · subst hy
      rw [hin d hd]
      exact ZoneDyn.initial_sound
    · rw [hother y hy] at hd
      exact hs y d hd
  | accepts _ hz => unfold State.LadderSound; rw [hz]; exact hs
  | reset _ hz =>
    intro z d hd
    rw [hz z d hd]
    exact ZoneDyn.initial_sound
  | trans _ _ ih ik => exact ik (ih hs)

/-- Settles O56, by what every step does to the zones. -/
theorem stepKeepsLadderSound : Obligations.StepKeepsLadderSound := by
  unfold Obligations.StepKeepsLadderSound
  intro s t hs h
  exact (step_ladderStep (ctx := ⟨False, True, fun _ => False⟩) ⟨False.elim, fun _ => False.elim⟩ (fun _ _ _ _ => trivial)
    h).sound hs

/-- A zone as it enters service has the condition 0, which is formed while no point contributes. -/
theorem ZoneDyn.initial_isFormed : ZoneDyn.initial.IsFormed 0 := by decide

/-- A step of the ladders from consistent tables keeps every condition the greatest of its inputs. -/
theorem State.LadderStep.conditionsFormed (h : s.LadderStep ctx t) (hserved : ctx.served) (hs : s.ConditionsFormed) :
    t.ConditionsFormed := by
  induction h with
  | zones hz hc =>
    intro z d hd
    rw [hc z]
    rcases (hz z).dyn? hd with k | ⟨e, he, op⟩
    · exact hs z d k
    · exact op.isFormed (hs z e he)
  | forms z _ hformed hother =>
    intro y d hd
    by_cases hy : y = z
    · subst hy; exact hformed d hd
    · rw [(hother y hy).1] at hd
      rw [(hother y hy).2]
      exact hs y d hd
  | leaves z hout _ hother hc =>
    intro y d hd
    by_cases hy : y = z
    · subst hy
      rw [Entry.dyn?_of_not hout] at hd
      cases hd
    · rw [hother y hy] at hd
      rw [hc y]
      exact hs y d hd
  | enters z _ hin hfree hother hc =>
    intro y d hd
    rw [hc y]
    by_cases hy : y = z
    · subst hy
      rw [hin d hd, hfree hserved]
      exact ZoneDyn.initial_isFormed
    · rw [hother y hy] at hd
      exact hs y d hd
  | accepts _ hz hc =>
    intro z d hd
    rw [hz] at hd
    rw [hc z]
    exact hs z d hd
  | reset _ hz hc =>
    intro z d hd
    rw [hz z d hd, hc z]
    exact ZoneDyn.initial_isFormed
  | trans _ _ ih ik => exact ik (ih hs)

/-- Settles O57, by what every step does to the zones and to the contributions of their points. -/
theorem stepKeepsConditionsFormed : Obligations.StepKeepsConditionsFormed := by
  unfold Obligations.StepKeepsConditionsFormed
  intro s t ht hs h
  exact (step_ladderStep (ctx := ⟨True, True, fun _ => False⟩) ⟨fun _ => ht, fun _ => False.elim⟩ (fun _ _ _ _ => trivial)
    h).conditionsFormed trivial hs

/-- The zone is in service with every fire level that `d` may not lose, and no RESTART is pending. -/
structure State.StillHolds (z : Fin 8) (d : ZoneDyn) (s : State) : Prop where
  calm : s.restartPending = false
  held : ∃ f e, s.zones[z] = .inService f e ∧ d.KeepsFire e

section
variable {z : Fin 8} {d : ZoneDyn}

theorem State.StillHolds.of_zone (h : s.StillHolds z d) (hz : t.zones[z] = s.zones[z])
    (hp : t.restartPending = s.restartPending) : t.StillHolds z d := ⟨hp.trans h.calm, by rw [hz]; exact h.held⟩

theorem State.StillHolds.of_moves {op : ZoneDyn → ZoneDyn → Prop} (h : s.StillHolds z d)
    (hz : Entry.Moves op s.zones[z] t.zones[z]) (hop : ∀ e e', op e e' → e.KeepsFire e')
    (hp : t.restartPending = s.restartPending) : t.StillHolds z d := by
  refine ⟨hp.trans h.calm, ?_⟩
  obtain ⟨f, e, he, hd⟩ := h.held
  rw [he] at hz
  generalize t.zones[z] = x at hz ⊢
  cases hz with
  | stays => exact ⟨f, e, rfl, hd⟩
  | moves k => exact ⟨_, _, rfl, hd.trans (hop _ _ k)⟩

/-- A step of the ladders without a consent or a start leaves a burning zone in service with the fire levels that may not
leave. -/
theorem State.LadderStep.stillHolds (h : s.LadderStep ctx t) (hrel : ¬ctx.released) (hburn : ctx.burning z)
    (hs : s.StillHolds z d) : t.StillHolds z d := by
  have hin {u : State} (hu : u.StillHolds z d) : u.zones[z].isInService ≠ false := by
    obtain ⟨f, e, hz, -⟩ := hu.held
    rw [hz]
    exact Bool.noConfusion
  induction h with
  | zones hz _ hp =>
    refine hs.of_moves (hz z) (fun e e' op => ?_) hp
    rw [eq_false hrel] at op
    exact op.keepsFire
  | forms y hz _ hother hp =>
    by_cases hy : z = y
    · subst hy
      refine hs.of_moves hz (fun e e' he => ?_) hp
      rw [he]
      exact ZoneDyn.reformed_keepsFire _ _ e
    · exact hs.of_zone (hother z hy).1 hp
  | leaves y _ hout hother _ hp =>
    by_cases hy : z = y
    · subst hy; exact absurd (hout hburn) (hin hs)
    · exact hs.of_zone (hother z hy) hp
  | enters y hout _ _ hother _ hp =>
    by_cases hy : z = y
    · subst hy; exact absurd hout (hin hs)
    · exact hs.of_zone (hother z hy) hp
  | accepts hcalm => exact absurd hburn (hcalm z)
  | reset hwhy =>
    rcases hwhy with k | k
    · exact absurd (hs.calm.symm.trans k) Bool.false_ne_true
    · exact absurd k hrel
  | trans _ _ ih ik => exact ik (ih hs)

end

/-- Settles O60, by what a step without a consent or a start does to a zone in fire. -/
theorem fireLevelsLeaveOnlyByConsent : Obligations.FireLevelsLeaveOnlyByConsent := by
  unfold Obligations.FireLevelsLeaveOnlyByConsent
  intro s t h hp hfront z f d hz hd
  have hnot (c : Instr) (rest : List Instr) (hq : s.pending = c :: rest) (k : GivesConsent c) : False := by
    have hc := hfront c rest hq
    cases c with
    | zoneRelease | panelNormal | powerOn | resetLineRelease => exact hc
    | trunkFrame ident data => exact k.elim hc.1 hc.2
    | badRequest => exact hc k
    | _ => exact k
  have hfire : s.ZoneInFire z := ⟨f, d, hz, LevelSet.four_le_highest_iff.2 hd⟩
  have hstep : s.LadderStep ⟨False, False, (· = z)⟩ t :=
    step_ladderStep ⟨False.elim, fun y hy => by rw [show y = z from hy]; exact hfire⟩ hnot h
  obtain ⟨f', d', ht, hkeep⟩ := (hstep.stillHolds id rfl ⟨hp, f, d, hz, .refl d⟩).held
  exact ⟨f', d', ht, fun h5 hacc => (hkeep.five ⟨h5, hacc⟩).1, fun h4 hacc => (hkeep.four ⟨h4, hacc⟩).1⟩

end
end Sys2Proof.Machine

namespace Sys2Proof.Machine

/-! ## An event at one IN_SERVICE zone, as a whole (R56) -/

section
variable {s t : State} {z : Fin 8} {f : ZoneFields} {d d' : ZoneDyn} {g : ZoneDyn → ZoneDyn} {r : Response}

/-- The part once an event has taken the ladder of the IN_SERVICE zone from `d` to `d'`: the zone, and its report slot when
something that R56 watches has changed. -/
def State.zoneMoved (s : State) (z : Fin 8) (f : ZoneFields) (d d' : ZoneDyn) : State :=
  { s with zones := s.zones.set z (.inService f d'), zoneSlots := s.zoneSlots.set z (s.zoneSlotAfter z d d') }

theorem State.zoneSlotAfter_same (h : d.SameReport d') : s.zoneSlotAfter z d d' = s.zoneSlots[z] := if_pos h

theorem State.zoneSlotAfter_changed (h : ¬d.SameReport d') :
    s.zoneSlotAfter z d d' = s.zoneSlots[z].mark (s.onOffer (.zone z)) := if_neg h

theorem State.updateZone_eq (h : s.zones[z] = .inService f d) : s.updateZone z g = s.zoneMoved z f d (g d) := by
  rw [State.updateZone_of h, State.zoneMoved]
  by_cases k : d.SameReport (g d)
  · rw [if_pos ((ZoneDyn.watched_eq_iff _ _).2 k), State.zoneSlotAfter_same k, Fin.getElem_fin, Vector.set_getElem_self]
    rfl
  · rw [if_neg fun e => k ((ZoneDyn.watched_eq_iff _ _).1 e), State.zoneSlotAfter_changed k]
    rfl

/-- An event at a zone that touches no line, in the words of the claims. -/
theorem zoneEvent {applies : Bool} (hw : s.works = true) (hdue : s.restartDue = false) (ha : applies = true)
    (h : s.zones[z] = .inService f d) :
    ∃ t, onEvent applies (State.updateZone · z g) s = .next t ∧ s.QuietLines t ∧ (s.zoneMoved z f d (g d)).OnlyLines t := by
  obtain ⟨honly, hquiet⟩ := State.finish_quiet (s := s.zoneMoved z f d (g d)) hdue
  refine ⟨_, onEvent_of hw ha, ?_⟩
  rw [State.updateZone_eq h]
  exact ⟨hquiet, honly⟩

/-! ## Removals (R38) -/

/-- The removal of E, evaluated afresh. -/
theorem ZoneDyn.removes_evaluated (r : Response) (d : ZoneDyn) : d.Removes r (d.removeTop.evaluated r) :=
  ZoneDyn.removes_evaluate r chainBound d d.removeTop.level.isLt

/-- A removal from a zone with c below E leaves a lower E. -/
theorem ZoneDyn.Removes.level_lt (h : d.Removes r d') (hlt : d.cond < d.level) : d'.level < d.level := by
  induction h with
  | ends d d' rest below hrest hbelow hend hd' =>
    have hbelow_lt : below < d.level := by
      rw [hbelow, hrest]
      exact LevelSet.erase_lt (lt_of_le_of_lt (Fin.zero_le _) hlt)
    subst hd'
    change (if _ then rest.insert d.cond else rest).highest < d.level
    split
    · rw [LevelSet.highest_insert, ← hbelow]
      exact max_lt hbelow_lt hlt
    · rw [← hbelow]
      exact hbelow_lt
  | chains d d' rest below hrest hbelow hcond _ _ _ ih =>
    subst hbelow
    refine lt_trans (ih hcond) ?_
    change rest.highest < d.level
    rw [hrest]
    exact LevelSet.erase_lt (lt_of_le_of_lt (Fin.zero_le _) hlt)

/-- A lower level is a change that R56 watches. -/
theorem ZoneDyn.not_sameReport_of_level_lt (h : d'.level < d.level) : ¬d.SameReport d' := fun k =>
  absurd (congrArg LevelSet.highest k.1) h.ne

/-- A run-on that runs in a sound zone runs above c, with no wait (R33, R37). -/
theorem ZoneDyn.Sound.of_runOn (h : d.Sound) (hrun : d.runOn.isSome = true) : d.cond < d.level ∧ d.releaseWait = false := by
  obtain ⟨hwait, -, -, -, -, hrest⟩ := h
  constructor
  · refine not_le.1 fun hle => ?_
    rw [(hrest hle).1] at hrun
    cases hrun
  · refine Bool.eq_false_iff.2 fun hw => ?_
    rw [(hwait hw).1] at hrun
    cases hrun

theorem ZoneDyn.mustWait_iff : d.mustWait = true ↔ 4 ≤ d.level ∧ d.accepted = false := by
  simp [ZoneDyn.mustWait, isFire]

/-- A run-on's expiry leaves a fire level without consent waiting (R36). -/
theorem ZoneDyn.runOnExpired_waits (h4 : 4 ≤ d.level) (hacc : d.accepted = false) :
    d.runOnExpired r = { d with runOn := none, releaseWait := true } := if_pos (ZoneDyn.mustWait_iff.2 ⟨h4, hacc⟩)

/-- A run-on's expiry takes any other level out (R35, R38). -/
theorem ZoneDyn.runOnExpired_removes (h : d.level < 4 ∨ d.accepted = true) : d.Removes r (d.runOnExpired r) := by
  have hnot : ¬d.mustWait = true := fun k => by
    obtain ⟨h4, hacc⟩ := ZoneDyn.mustWait_iff.1 k
    rcases h with h | h
    · exact absurd h4 (not_le.2 h)
    · rw [hacc] at h; cases h
  rw [ZoneDyn.runOnExpired, if_neg hnot]
  exact d.removes_evaluated r

/-- Settles O11: the level waits for its release or is removed, by whether it is a fire level without consent. -/
theorem runOnExpiryRemovesOrWaits : Obligations.RunOnExpiryRemovesOrWaits := by
  unfold Obligations.RunOnExpiryRemovesOrWaits
  intro s z f d hw hdue hz hsound hrun
  obtain ⟨hlt, hwait⟩ := hsound.of_runOn hrun
  have hlower (h : d.level < 4 ∨ d.accepted = true) : (d.runOnExpired s.response).level < d.level :=
    (ZoneDyn.runOnExpired_removes h).level_lt hlt
  have hchanged : ¬d.SameReport (d.runOnExpired s.response) := by
    by_cases h : d.level < 4 ∨ d.accepted = true
    · exact ZoneDyn.not_sameReport_of_level_lt (hlower h)
    · obtain ⟨h4, hacc⟩ := not_or.1 h
      rw [ZoneDyn.runOnExpired_waits (not_lt.1 h4) (by simpa using hacc)]
      rintro ⟨-, -, k, -⟩
      rw [hwait] at k
      cases k
  have happly : (s.runOnTimer z).isSome = true := by unfold State.runOnTimer; rw [hz]; exact hrun
  obtain ⟨t, ht, hquiet, honly⟩ := zoneEvent (g := ZoneDyn.runOnExpired s.response) hw hdue happly hz
  rw [State.zoneMoved, State.zoneSlotAfter_changed hchanged] at honly
  exact ⟨t, _, ht, hquiet, honly, ZoneDyn.runOnExpired_waits, fun h => ⟨hlower h, ZoneDyn.runOnExpired_removes h⟩⟩

/-! ## Zone requests (R39, R46 to R48) -/

variable {src tag zone level : Byte} {q : Request}

/-- A request that is done by an event at one zone, in the words of the claims. -/
theorem zoneRequest_done (hr : s.Ready) (h : s.zones[z] = .inService f d)
    (hdec : (s.heard .trunk).decide q = .done ((s.heard .trunk).updateZone z g) []) :
    ∃ t, onRequest src tag q s = .next t ∧ s.Answered t src q.code tag 0 [] ∧ (s.zoneMoved z f d (g d)).OnlyLines t := by
  refine onRequest_changes hr ?_ rfl rfl rfl rfl
  rw [hdec, State.updateZone_eq (s := s.heard .trunk) h]
  rfl

/-- The zone that a request names, found IN_SERVICE. -/
theorem State.zoneNamed_of (hi : indexOf 8 zone = some z) (h : s.zones[z] = .inService f d) :
    s.zoneNamed zone = .ok (z, d) := by simp only [State.zoneNamed, hi, h]

theorem State.zoneNamed_none (hi : indexOf 8 zone = none) : s.zoneNamed zone = .error .badIndex := by
  simp only [State.zoneNamed, hi]

theorem State.zoneNamed_state (hi : indexOf 8 zone = some z) (h : s.zones[z].isInService = false) :
    s.zoneNamed zone = .error .state := by
  cases hz : s.zones[z] with
  | vacant | draft f => simp only [State.zoneNamed, hi, hz]
  | inService f d => rw [hz] at h; cases h

/-- ZONE_RELEASE at an IN_SERVICE zone, by its checks in order (R39). -/
theorem State.zoneRelease_of (hi : indexOf 8 zone = some z) (h : s.zones[z] = .inService f d) :
    s.zoneRelease zone level =
      if level ≠ 4 ∧ level ≠ 5 then .error .outOfRange
      else if d.level.val ≠ level.toNat then .error .notInForce
      else if d.level ≤ d.cond then .error .conditionPresent
      else .ok (s.updateZone z (ZoneDyn.consent s.response)) := by
  rw [State.zoneRelease, State.zoneNamed_of hi h]

/-- ZONE_RELEASE names level 4 or level 5 (R39). -/
theorem not_ne_four_and_ne_five_iff : ¬(level ≠ 4 ∧ level ≠ 5) ↔ level = 4 ∨ level = 5 := by
  rw [not_and_or, not_not, not_not]

/-- The checks of a ZONE_RELEASE in order (R39): which result each refusal has. -/
theorem State.zoneRelease_error_iff {code : ReplyCode} :
    s.zoneRelease zone level = .error code ↔
      (indexOf 8 zone = none ∧ code = .badIndex)
      ∨ ∃ z : Fin 8, indexOf 8 zone = some z ∧
        ((s.zones[z].isInService = false ∧ code = .state)
        ∨ ∃ f d, s.zones[z] = .inService f d ∧
          ((level ≠ 4 ∧ level ≠ 5 ∧ code = .outOfRange)
          ∨ ((level = 4 ∨ level = 5) ∧ d.level.val ≠ level.toNat ∧ code = .notInForce)
          ∨ ((level = 4 ∨ level = 5) ∧ d.level.val = level.toNat ∧ d.level ≤ d.cond ∧ code = .conditionPresent))) := by
  constructor
  · intro h
    cases hi : indexOf 8 zone with
    | none =>
      rw [State.zoneRelease, State.zoneNamed_none hi] at h
      cases h
      exact .inl ⟨rfl, rfl⟩
    | some z =>
      refine .inr ⟨z, rfl, ?_⟩
      cases hz : s.zones[z] with
      | vacant | draft f =>
        rw [State.zoneRelease, State.zoneNamed_state hi (by rw [hz]; rfl)] at h
        cases h
        exact .inl ⟨rfl, rfl⟩
      | inService f d =>
        rw [State.zoneRelease_of hi hz] at h
        refine .inr ⟨f, d, rfl, ?_⟩
        split at h
        · rename_i hlevel
          cases h
          exact .inl ⟨hlevel.1, hlevel.2, rfl⟩
        · rename_i hlevel
          have hfire := not_ne_four_and_ne_five_iff.1 hlevel
          split at h
          · cases h; exact .inr (.inl ⟨hfire, by assumption, rfl⟩)
          · rename_i hforce
            split at h <;> cases h
            exact .inr (.inr ⟨hfire, not_not.1 hforce, by assumption, rfl⟩)
  · rintro (⟨hi, rfl⟩ | ⟨z, hi, ⟨hz, rfl⟩ |
      ⟨f, d, hz, ⟨h4, h5, rfl⟩ | ⟨hfire, hforce, rfl⟩ | ⟨hfire, hforce, hcond, rfl⟩⟩⟩)
    · rw [State.zoneRelease, State.zoneNamed_none hi]
    · rw [State.zoneRelease, State.zoneNamed_state hi hz]
    · rw [State.zoneRelease_of hi hz, if_pos ⟨h4, h5⟩]
    · rw [State.zoneRelease_of hi hz, if_neg (not_ne_four_and_ne_five_iff.2 hfire), if_pos hforce]
    · rw [State.zoneRelease_of hi hz, if_neg (not_ne_four_and_ne_five_iff.2 hfire), if_neg (not_not.2 hforce), if_pos hcond]

theorem ZoneDyn.consent_waiting (h : d.releaseWait = true) : d.Removes r (d.consent r) := by
  rw [ZoneDyn.consent, if_pos h]
  exact d.removes_evaluated r

theorem ZoneDyn.consent_running (h : d.releaseWait = false) : d.consent r = { d with accepted := true } := by
  rw [ZoneDyn.consent, if_neg (by rw [h]; exact Bool.false_ne_true)]

/-- Settles O15: the consent by whether the level waits, and the refusals by the checks in order. -/
theorem zoneReleaseGivesConsent : Obligations.ZoneReleaseGivesConsent := by
  unfold Obligations.ZoneReleaseGivesConsent
  intro s src tag zone level hr
  refine ⟨fun z f d hi hz _ hfire hforce hlt => ?_, fun code => State.zoneRelease_error_iff⟩
  have hdec : (s.heard .trunk).decide (.zoneRelease zone level) =
      .done ((s.heard .trunk).updateZone z (ZoneDyn.consent s.response)) [] := by
    rw [State.decide, State.zoneRelease_of (s := s.heard .trunk) hi hz, if_neg (not_ne_four_and_ne_five_iff.2 hfire),
      if_neg (not_not.2 hforce), if_neg (not_le.2 hlt)]
    rfl
  obtain ⟨t, ht, hans, honly⟩ := zoneRequest_done (src := src) (tag := tag) hr hz hdec
  have hslots : t.zoneSlots = s.zoneSlots.set z (s.zoneSlotAfter z d (d.consent s.response)) := honly.zoneSlots
  refine ⟨t, _, ht, hans, ?_, hslots, ZoneDyn.consent_running, fun hw => ?_⟩
  · rw [hslots]; exact honly
  · exact ⟨(ZoneDyn.consent_waiting hw).level_lt hlt, ZoneDyn.consent_waiting hw⟩

/-! ### Suppression (R46, R47) -/

/-- The zone with its suppression lifted and its held set emptied, before a held level is taken in (R47). -/
def ZoneDyn.lifted (d : ZoneDyn) : ZoneDyn := { d with suppress := false, held1 := false, held2 := false }

theorem ZoneDyn.suppressOff_of_not (h : d.suppress = false) : d.suppressOff r = d := by
  rw [ZoneDyn.suppressOff, if_neg (by rw [h]; exact Bool.false_ne_true)]

/-- The lifting with no held level above E. -/
theorem ZoneDyn.suppressOff_of_le (hs : d.suppress = true) (h : d.highestHeld ≤ d.level) :
    d.suppressOff r = d.lifted.evaluated r := by
  have hnot : ¬({ d with suppress := false } : ZoneDyn).level < ({ d with suppress := false } : ZoneDyn).highestHeld :=
    not_lt.2 h
  rw [ZoneDyn.suppressOff, if_pos hs]
  dsimp only
  rw [if_neg hnot]
  rfl

/-- The lifting with a held level above E, which is taken in. -/
theorem ZoneDyn.suppressOff_of_lt (hs : d.suppress = true) (h : d.level < d.highestHeld) :
    d.suppressOff r = (d.lifted.takeIn d.highestHeld).evaluated r := by
  have hpos : ({ d with suppress := false } : ZoneDyn).level < ({ d with suppress := false } : ZoneDyn).highestHeld := h
  rw [ZoneDyn.suppressOff, if_pos hs]
  dsimp only
  rw [if_pos hpos]
  rfl

/-- In a sound zone a condition above E is at most the highest held level (R32). -/
theorem ZoneDyn.Sound.cond_le (h : d.Sound) (hlt : d.level < d.cond) : d.cond ≤ d.highestHeld := by
  obtain ⟨-, -, -, habove, -⟩ := h
  obtain ⟨hlow, -, h1, h2⟩ := habove hlt
  unfold ZoneDyn.highestHeld
  by_cases hc2 : d.cond = 2
  · rw [if_pos (h2 hc2), hc2]
  · by_cases hc1 : d.cond = 1
    · rw [if_pos (h1 hc1), hc1]
      split <;> decide
    · have hval : d.cond.val ≤ 2 := hlow
      have hpos : 0 < d.cond.val := lt_of_le_of_lt (Nat.zero_le _) hlt
      have hne1 : d.cond.val ≠ 1 := fun e => hc1 (Fin.ext e)
      have hne2 : d.cond.val ≠ 2 := fun e => hc2 (Fin.ext e)
      omega

/-- An evaluation of a sound zone whose condition is at most E changes nothing. -/
theorem ZoneDyn.Sound.evaluated_eq (h : d.Sound) (hle : d.cond ≤ d.level) : d.evaluated r = d := by
  obtain ⟨-, -, -, -, habove, hrest⟩ := h
  rcases hle.lt_or_eq with hlt | heq
  · exact evaluate_above_standing hlt (habove hlt)
  · have hcalm : d.AtRest := hrest heq.ge
    exact (evaluate_at heq fun _ => hcalm).trans (ZoneDyn.atRest_eq hcalm)

/-- A run-on of 0 s of a level that is no fire level removes it within the evaluation (R34, R35). -/
theorem ZoneDyn.evaluated_removes (hlt : d.cond < d.level) (hrun : d.runOn = none) (hwait : d.releaseWait = false)
    (h0 : r.runOnOf d.level = 0) (h4 : d.level < 4) : d.Removes r (d.evaluated r) := by
  rw [ZoneDyn.evaluated, chainBound, evaluate_chains hlt hrun hwait h0 h4]
  refine ZoneDyn.removes_evaluate r 5 d ?_
  exact lt_trans (ZoneDyn.removeTop_lt (lt_of_le_of_lt (Fin.zero_le _) hlt)) (lt_trans h4 (by decide))

theorem ZoneDyn.takeIn_level {l : Level} (h : d.level < l) : (d.takeIn l).level = l :=
  (LevelSet.highest_insert d.inForce l).trans (max_eq_right h.le)

theorem ZoneDyn.highestHeld_lt (d : ZoneDyn) : d.highestHeld < 4 := by
  unfold ZoneDyn.highestHeld
  split
  · decide
  · split <;> decide

/-- A lifting changes no input of the zone. -/
theorem ZoneDyn.suppressOff_same (hs : d.suppress = true) : d.lifted.SameInputs (d.suppressOff r) := by
  rcases le_or_gt d.highestHeld d.level with h | h
  · rw [ZoneDyn.suppressOff_of_le hs h]
    exact ZoneDyn.evaluated_same r _
  · rw [ZoneDyn.suppressOff_of_lt hs h]
    exact .trans (b := d.lifted.takeIn d.highestHeld) ⟨rfl, rfl, rfl, rfl, rfl, rfl, rfl, rfl, rfl, rfl, rfl⟩
      (ZoneDyn.evaluated_same r (d.lifted.takeIn d.highestHeld))

theorem ZoneDyn.suppressOff_suppress (r : Response) (d : ZoneDyn) : (d.suppressOff r).suppress = false := by
  cases hs : d.suppress with
  | false => rw [ZoneDyn.suppressOff_of_not hs]; exact hs
  | true => exact (ZoneDyn.suppressOff_same hs).suppress

theorem ZoneDyn.suppressOff_cond (r : Response) (d : ZoneDyn) : (d.suppressOff r).cond = d.cond := by
  cases hs : d.suppress with
  | false => rw [ZoneDyn.suppressOff_of_not hs]
  | true => exact (ZoneDyn.suppressOff_same hs).cond

theorem ZoneDyn.suppressOff_force (r : Response) (d : ZoneDyn) : (d.suppressOff r).force = d.force := by
  cases hs : d.suppress with
  | false => rw [ZoneDyn.suppressOff_of_not hs]
  | true => exact (ZoneDyn.suppressOff_same hs).force

/-- Where suppression is not set, a sound zone holds no level and its condition is at most E (R32, R47). -/
theorem ZoneDyn.Sound.of_not_suppress (h : d.Sound) (hs : d.suppress = false) :
    d.held1 = false ∧ d.held2 = false ∧ d.cond ≤ d.level := by
  obtain ⟨-, -, hheld, habove, -⟩ := h
  refine ⟨(hheld hs).1, (hheld hs).2, not_lt.1 fun hlt => ?_⟩
  obtain ⟨-, k, -⟩ := habove hlt
  rw [hs] at k
  cases k

/-- The lifting of suppression with no held level above E changes the flag and the held set alone (R47). -/
theorem ZoneDyn.Sound.suppressOff_lifted (h : d.Sound) (hs : d.suppress = true) (hle : d.highestHeld ≤ d.level) :
    d.suppressOff r = d.lifted := by
  have hcond : d.cond ≤ d.level := not_lt.1 fun hlt => absurd ((h.cond_le hlt).trans hle) (not_le.2 hlt)
  have hsound : d.lifted.Sound := by
    obtain ⟨hwait, hacc, -, -, hbelow, hrest⟩ := h
    exact ⟨hwait, hacc, fun _ => ⟨rfl, rfl⟩, fun hlt => absurd hlt (not_lt.2 hcond), hbelow, hrest⟩
  rw [ZoneDyn.suppressOff_of_le hs hle]
  exact hsound.evaluated_eq hcond

/-- A lifting that takes a held level in (R47): it stands with its condition, or its run-on starts, or it is removed at once. -/
theorem ZoneDyn.suppressOff_taken (hs : d.suppress = true) (hlt : d.level < d.highestHeld) :
    let taken := d.lifted.takeIn d.highestHeld
    (d.cond = d.highestHeld → d.suppressOff r = taken)
    ∧ (d.cond < d.highestHeld → r.runOnOf d.highestHeld ≠ 0 →
        d.suppressOff r = { taken with runOn := timerOf (r.runOnOf d.highestHeld) })
    ∧ (d.cond < d.highestHeld → r.runOnOf d.highestHeld = 0 → taken.Removes r (d.suppressOff r)) := by
  intro taken
  have hlevel : taken.level = d.highestHeld := ZoneDyn.takeIn_level (d := d.lifted) hlt
  have hoff : d.suppressOff r = taken.evaluated r := ZoneDyn.suppressOff_of_lt hs hlt
  refine ⟨fun heq => ?_, fun hc h0 => ?_, fun hc h0 => ?_⟩
  · exact hoff.trans (evaluate_at (d := taken) (heq.trans hlevel.symm) fun _ => ⟨rfl, rfl, rfl⟩)
  · rw [← hlevel] at h0 ⊢
    exact hoff.trans (evaluate_runs (d := taken) (lt_of_lt_of_eq hc hlevel.symm) rfl rfl h0)
  · rw [hoff]
    refine ZoneDyn.evaluated_removes (d := taken) (lt_of_lt_of_eq hc hlevel.symm) rfl rfl (by rw [hlevel]; exact h0) ?_
    rw [hlevel]
    exact d.highestHeld_lt

theorem State.zoneSuppress_on (hi : indexOf 8 zone = some z) (h : s.zones[z] = .inService f d) :
    s.zoneSuppress zone 1 = .ok (s.updateZone z ZoneDyn.suppressOn) := by
  rw [State.zoneSuppress, State.zoneNamed_of hi h]; rfl

theorem State.zoneSuppress_off (hi : indexOf 8 zone = some z) (h : s.zones[z] = .inService f d) :
    s.zoneSuppress zone 0 = .ok (s.updateZone z (ZoneDyn.suppressOff s.response)) := by
  rw [State.zoneSuppress, State.zoneNamed_of hi h]; rfl

/-- A zone's report slot after an event that changes nothing. -/
theorem State.set_zoneSlotAfter_same (h : d.SameReport d') :
    s.zoneSlots.set z (s.zoneSlotAfter z d d') = s.zoneSlots := by
  rw [State.zoneSlotAfter_same h, Fin.getElem_fin, Vector.set_getElem_self]

theorem ZoneDyn.SameReport.refl (d : ZoneDyn) : d.SameReport d := ⟨rfl, rfl, rfl, rfl, rfl, rfl, rfl, Iff.rfl⟩

theorem ZoneDyn.suppressOn_of (h : d.suppress = true) : d.suppressOn = d := by
  unfold ZoneDyn.suppressOn
  rw [← h]

/-- The suppress flag is one of the things that R56 watches. -/
theorem ZoneDyn.not_sameReport_of_suppress (h : d'.suppress ≠ d.suppress) : ¬d.SameReport d' := by
  rintro ⟨-, -, -, -, -, k, -⟩
  exact h k

/-- Settles O16: the flag alone, and the lifting by whether a held level is above E. -/
theorem suppressionHoldsFumeLevels : Obligations.SuppressionHoldsFumeLevels := by
  unfold Obligations.SuppressionHoldsFumeLevels
  intro s src tag zone z f d hr hi hz hsound
  constructor
  · obtain ⟨t, ht, hans, honly⟩ := zoneRequest_done (src := src) (tag := tag) (q := .zoneSuppress zone 1)
      (g := ZoneDyn.suppressOn) hr hz (by rw [State.decide, State.zoneSuppress_on (s := s.heard .trunk) hi hz]; rfl)
    refine ⟨t, ht, hans, ?_⟩
    cases hs : d.suppress with
    | false =>
      rw [State.zoneMoved, State.zoneSlotAfter_changed (ZoneDyn.not_sameReport_of_suppress (by rw [hs]; nofun))] at honly
      exact honly
    | true =>
      rw [State.zoneMoved, State.set_zoneSlotAfter_same (by rw [ZoneDyn.suppressOn_of hs]; exact .refl d)] at honly
      exact honly
  · obtain ⟨t, ht, hans, honly⟩ := zoneRequest_done (src := src) (tag := tag) (q := .zoneSuppress zone 0)
      (g := ZoneDyn.suppressOff s.response) hr hz
      (by rw [State.decide, State.zoneSuppress_off (s := s.heard .trunk) hi hz]; rfl)
    have hoff := ZoneDyn.suppressOff_suppress s.response d
    obtain ⟨h1, h2, hle⟩ := (hsound.suppressOff s.response).of_not_suppress hoff
    have hcond := ZoneDyn.suppressOff_cond s.response d
    rw [hcond] at hle
    refine ⟨t, _, ht, hans, ?_, hoff, h1, h2, hcond, ZoneDyn.suppressOff_force _ d, hle, ZoneDyn.suppressOff_of_not,
      fun hs => ⟨hsound.suppressOff_lifted hs, fun hlt => ?_⟩⟩
    · cases hs : d.suppress with
      | false =>
        rw [State.zoneMoved, ZoneDyn.suppressOff_of_not hs, State.set_zoneSlotAfter_same (.refl d)] at honly
        rw [ZoneDyn.suppressOff_of_not hs]
        exact honly
      | true =>
        rw [State.zoneMoved,
          State.zoneSlotAfter_changed (ZoneDyn.not_sameReport_of_suppress (by rw [hs, hoff]; nofun))] at honly
        exact honly
    · obtain ⟨hstands, hruns, hremoves⟩ := ZoneDyn.suppressOff_taken (r := s.response) hs hlt
      refine ⟨hstands, hruns, hremoves, ?_⟩
      rcases le_or_gt d.cond d.level with k | k
      · exact k.trans hlt.le
      · exact hsound.cond_le k

/-! ### Force (R48) -/

theorem State.zoneForce_of (hi : indexOf 8 zone = some z) (h : s.zones[z] = .inService f d) (hl : level.toNat ≤ 5) :
    s.zoneForce zone level =
      .ok (s.updateZone z (ZoneDyn.forced s.response (s.contributions z) (Fin.ofNat 6 level.toNat))) := by
  rw [State.zoneForce, State.zoneNamed_of hi h]
  exact if_neg (not_lt.2 hl)

/-- A zone formed afresh keeps every input but the condition. -/
theorem ZoneDyn.reformed_same (r : Response) (c : Level) (d : ZoneDyn) :
    ({ d with cond := d.formed c } : ZoneDyn).SameInputs (d.reformed r c) := by
  unfold ZoneDyn.reformed
  dsimp only
  split
  · rename_i h
    rw [h]
    exact .refl d
  · exact ZoneDyn.evaluated_same r _

/-- A condition of 3 or more, or any condition without suppression, is at most E (R31, R32). -/
theorem ZoneDyn.Sound.cond_le_level (h : d.Sound) (k : 3 ≤ d.cond ∨ d.suppress = false) : d.cond ≤ d.level := by
  obtain ⟨-, -, -, habove, -⟩ := h
  refine not_lt.1 fun hlt => ?_
  obtain ⟨hlow, hs, -⟩ := habove hlt
  rcases k with k | k
  · exact absurd (k.trans hlow) (by decide)
  · rw [hs] at k; cases k

/-- A condition above E that suppression does not hold back is taken in (R31). -/
theorem ZoneDyn.Sound.reforms_takeIn {c : Level} (h : d.Sound) (k : d.Reforms r c d') (hlt : d.level < c)
    (htake : 3 ≤ c ∨ d.suppress = false) :
    d' = { d with cond := c, inForce := d.inForce.insert c, runOn := none, accepted := false, releaseWait := false } := by
  have hne : c ≠ d.cond := fun e => by
    subst e
    exact absurd (h.cond_le_level htake) (not_le.2 hlt)
  exact (k.2 hne).1 hlt htake

/-- A fume condition that is above E under suppression is held (R32). -/
theorem ZoneDyn.Sound.reforms_hold {c : Level} (h : d.Sound) (k : d.Reforms r c d') (hlt : d.level < c) (h2 : c ≤ 2)
    (hs : d.suppress = true) :
    d'.inForce = d.inForce ∧ d'.held1 = (d.held1 || c == 1) ∧ d'.held2 = (d.held2 || c == 2) := by
  obtain ⟨hsame, hchanges⟩ := k
  by_cases hne : c = d.cond
  · obtain ⟨-, -, -, habove, -⟩ := h
    obtain ⟨-, -, h1, h2⟩ := habove (hne ▸ hlt)
    rw [hsame hne, hne]
    refine ⟨rfl, ?_, ?_⟩
    · by_cases e : d.cond = 1
      · rw [h1 e]; rfl
      · rw [beq_false_of_ne e, Bool.or_false]
    · by_cases e : d.cond = 2
      · rw [h2 e]; rfl
      · rw [beq_false_of_ne e, Bool.or_false]
  · rw [(hchanges hne).2.1 hlt h2 hs]
    exact ⟨rfl, rfl, rfl⟩

/-- Settles O17: the zone with the new force is formed afresh. -/
theorem forceWritesAnInput : Obligations.ForceWritesAnInput := by
  unfold Obligations.ForceWritesAnInput
  intro s src tag zone level z f d hr hi hz hsound hlevel v c
  obtain ⟨t, ht, hans, honly⟩ := zoneRequest_done (src := src) (tag := tag) (q := .zoneForce zone level)
    (g := ZoneDyn.forced s.response (s.contributions z) v) hr hz
    (by rw [State.decide, State.zoneForce_of (s := s.heard .trunk) hi hz hlevel]; rfl)
  have hslots : t.zoneSlots = s.zoneSlots.set z (s.zoneSlotAfter z d (d.forced s.response (s.contributions z) v)) :=
    honly.zoneSlots
  have hforced : ({ d with force := v } : ZoneDyn).Sound := hsound
  have hreforms : ({ d with force := v } : ZoneDyn).Reforms s.response c (d.forced s.response (s.contributions z) v) :=
    ZoneDyn.reformed_reforms s.response (s.contributions z) hforced
  have hsame := ZoneDyn.reformed_same s.response (s.contributions z) { d with force := v }
  have hcond : (d.forced s.response (s.contributions z) v).cond = c := hsame.cond
  refine ⟨t, _, ht, hans, ?_, hslots, hreforms, hsame.force, hcond, hsame.latch, hsame.suppress, hreforms.1, fun k => ?_,
    hforced.reforms_takeIn hreforms, hforced.reforms_hold hreforms⟩
  · rw [hslots]; exact honly
  · have hle := ZoneDyn.Sound.cond_le_level (hforced.reformed s.response (s.contributions z))
    rw [ZoneDyn.reformed_cond] at hle
    exact hle (k.imp_right hsame.suppress.trans)

end
end Sys2Proof.Machine

namespace Sys2Proof.Machine

/-! ## An event at each zone of a mask (R43, R44) -/

section
variable {s t u : State} {z : Fin 8} {f : ZoneFields} {d : ZoneDyn} {g : Response → Level → ZoneDyn → ZoneDyn} {r : Response}
  {c : Level} {mask : Byte}

/-- Between `s` and `t` each IN_SERVICE zone that `took` names met the event `g`, and nothing else changed. -/
structure State.ZonesTook (g : Response → Level → ZoneDyn → ZoneDyn) (took : Fin 8 → Prop) (s t : State) : Prop where
  frame : t = { s with zones := t.zones, zoneSlots := t.zoneSlots }
  moved : ∀ (z : Fin 8) (f : ZoneFields) (d : ZoneDyn), took z → s.zones[z] = .inService f d →
    t.zones[z] = .inService f (g s.response (s.contributions z) d)
      ∧ t.zoneSlots[z] = s.zoneSlotAfter z d (g s.response (s.contributions z) d)
  kept : ∀ z : Fin 8, ¬took z ∨ s.zones[z].isInService = false →
    t.zones[z] = s.zones[z] ∧ t.zoneSlots[z] = s.zoneSlots[z]

/-- An event at one zone, where the mask holds it. -/
def State.atMasked (g : Response → Level → ZoneDyn → ZoneDyn) (mask : Byte) (s : State) (z : Fin 8) : State :=
  if mask.getLsbD z.val then s.updateZone z (g s.response (s.contributions z)) else s

theorem State.panelAlarm_eq (s : State) (mask : Byte) :
    s.panelAlarm mask = (List.finRange 8).foldl (State.atMasked ZoneDyn.panelAlarm mask) s := rfl

theorem State.panelNormal_eq (s : State) (mask : Byte) :
    s.panelNormal mask = (List.finRange 8).foldl (State.atMasked ZoneDyn.panelNormal mask) s := rfl

theorem State.atMasked_frame (s : State) (z : Fin 8) :
    s.atMasked g mask z = { s with zones := (s.atMasked g mask z).zones, zoneSlots := (s.atMasked g mask z).zoneSlots } := by
  unfold State.atMasked
  split
  · exact State.updateZone_frame s z _
  · rfl

theorem State.atMasked_other {y : Fin 8} (h : y ≠ z) :
    (s.atMasked g mask z).zones[y] = s.zones[y] ∧ (s.atMasked g mask z).zoneSlots[y] = s.zoneSlots[y] := by
  unfold State.atMasked
  split
  · exact State.updateZone_other h
  · exact ⟨rfl, rfl⟩

theorem State.zoneSlotAfter_congr {d d' : ZoneDyn} (htrunk : t.trunk = s.trunk) (hslot : t.zoneSlots[z] = s.zoneSlots[z]) :
    t.zoneSlotAfter z d d' = s.zoneSlotAfter z d d' := by
  unfold State.zoneSlotAfter
  rw [hslot, State.onOffer_congr htrunk]

/-- The zones of a mask take an event one after the other, and none feels another's. -/
theorem State.foldl_atMasked (l : List (Fin 8)) (hl : l.Nodup) (s : State) :
    s.ZonesTook g (fun z => z ∈ l ∧ mask.getLsbD z.val = true) (l.foldl (State.atMasked g mask) s) := by
  induction l generalizing s with
  | nil => exact ⟨rfl, fun z f d h => absurd h.1 List.not_mem_nil, fun z _ => ⟨rfl, rfl⟩⟩
  | cons a l ih =>
    obtain ⟨ha, hl⟩ := List.nodup_cons.1 hl
    have hframe := s.atMasked_frame (g := g) (mask := mask) a
    have hresponse : (s.atMasked g mask a).response = s.response := by rw [hframe]
    have hcontr (z : Fin 8) : (s.atMasked g mask a).contributions z = s.contributions z :=
      State.contributions_congr (by rw [hframe]) z
    have htrunk : (s.atMasked g mask a).trunk = s.trunk := by rw [hframe]
    obtain ⟨kframe, kmoved, kkept⟩ := ih hl (s.atMasked g mask a)
    rw [List.foldl_cons]
    refine ⟨?_, fun z f d h hz => ?_, fun z h => ?_⟩
    · rw [hframe] at kframe ⊢
      exact kframe
    · by_cases hza : z = a
      · subst hza
        obtain ⟨hzones, hslots⟩ := kkept z (.inl fun k => ha k.1)
        rw [hzones, hslots, State.atMasked, if_pos h.2]
        exact ⟨State.updateZone_self hz, State.updateZone_slot hz⟩
      · obtain ⟨hzones, hslots⟩ := State.atMasked_other (g := g) (mask := mask) (s := s) hza
        have hmoved := kmoved z f d ⟨(List.mem_cons.1 h.1).resolve_left hza, h.2⟩ (hzones.trans hz)
        rwa [hresponse, hcontr, State.zoneSlotAfter_congr htrunk hslots] at hmoved
    · by_cases hza : z = a
      · subst hza
        obtain ⟨hzones, hslots⟩ := kkept z (.inl fun k => ha k.1)
        rw [hzones, hslots, State.atMasked]
        split
        · rename_i hmask
          rw [State.updateZone_of_not (h.resolve_left fun k => k ⟨List.mem_cons_self, hmask⟩)]
          exact ⟨rfl, rfl⟩
        · exact ⟨rfl, rfl⟩
      · obtain ⟨hzones, hslots⟩ := State.atMasked_other (g := g) (mask := mask) (s := s) hza
        have hkept := kkept z (h.imp (fun k k' => k ⟨List.mem_cons_of_mem _ k'.1, k'.2⟩) fun k => by rw [hzones]; exact k)
        rwa [hzones, hslots] at hkept

/-- The zones of a mask take an event of the fire panel. -/
theorem State.foldl_atMasked_all (s : State) :
    s.ZonesTook g (fun z => mask.getLsbD z.val = true) ((List.finRange 8).foldl (State.atMasked g mask) s) := by
  have h := State.foldl_atMasked (g := g) (mask := mask) (List.finRange 8) (List.nodup_finRange 8) s
  simpa only [List.mem_finRange, true_and] using h

/-- A PANEL frame to the DX48 is judged as one (R133). -/
theorem State.trunkReceive_panel {hd : Header} {data : List Byte} (hdst : hd.dst = s.active.node) :
    s.trunkReceive (hd.frame kindPanel data) = s.receivePanel (hd.frame kindPanel data) := by
  have hkind : (hd.frame kindPanel data).kind ≠ kindMgmtReq := by change kindPanel ≠ kindMgmtReq; decide
  have hdst' : (hd.frame kindPanel data).dst = s.active.node := hdst
  rw [State.trunkReceive, if_pos hdst', if_neg hkind]
  exact if_pos rfl

/-- A PANEL frame that the zones of a mask take, in the words of the claims. -/
theorem panelFrame_taken {hd : Header} {data : List Byte} (h : s.Hears .trunk) (hdst : hd.dst = s.active.node)
    (hreceive : (s.heard .trunk).receivePanel (hd.frame kindPanel data) =
      (List.finRange 8).foldl (State.atMasked g mask) (s.heard .trunk)) :
    ∃ t, onFrame .trunk (State.trunkReceive (hd.frame kindPanel data)) s = .next t ∧ s.StayedAbove t
      ∧ t = { s with zones := t.zones, zoneSlots := t.zoneSlots, field := t.field, trunk := t.trunk }
      ∧ (∀ (z : Fin 8) (f : ZoneFields) (d : ZoneDyn), mask.getLsbD z.val = true → s.zones[z] = .inService f d →
          t.zones[z] = .inService f (g s.response (s.contributions z) d)
            ∧ t.zoneSlots[z] = s.zoneSlotAfter z d (g s.response (s.contributions z) d))
      ∧ (∀ z : Fin 8, ¬mask.getLsbD z.val = true ∨ s.zones[z].isInService = false →
          t.zones[z] = s.zones[z] ∧ t.zoneSlots[z] = s.zoneSlots[z]) := by
  obtain ⟨hworks, hon, hdue⟩ := h
  have htook := (s.heard .trunk).foldl_atMasked_all (g := g) (mask := mask)
  have hexec : onFrame .trunk (State.trunkReceive (hd.frame kindPanel data)) s =
      .next ((List.finRange 8).foldl (State.atMasked g mask) (s.heard .trunk)).finish := by
    rw [onFrame_of hworks hon, State.trunkReceive_panel (s := s.heard .trunk) hdst, hreceive]
  generalize (List.finRange 8).foldl (State.atMasked g mask) (s.heard .trunk) = u at htook hexec
  obtain ⟨hframe, hmoved, hkept⟩ := htook
  have hdue' : u.restartDue = false := by rw [hframe]; exact hdue
  have hfield : u.field = s.field := by rw [hframe]; rfl
  have htrunk : u.trunk = s.trunk.countReceived := by rw [hframe]; rfl
  obtain ⟨honly, hqfield, hqtrunk⟩ := State.finish_quiet hdue'
  rw [hfield] at hqfield
  rw [htrunk] at hqtrunk
  refine ⟨u.finish, hexec, ⟨hqfield, hqtrunk⟩, ?_, fun z f d hm hz => ?_, fun z hz => ?_⟩
  · have hzones := honly.zones
    have hslots := honly.zoneSlots
    generalize u.finish = t at honly hzones hslots
    rw [hzones, hslots, honly, hframe]
    rfl
  · rw [honly.zones, honly.zoneSlots]
    exact hmoved z f d hm hz
  · rw [honly.zones, honly.zoneSlots]
    exact hkept z hz

/-! ## ALARM (R43) -/

theorem LevelSet.insert_five {l : LevelSet} (h : l.highest = 5) : l.insert 5 = l := by
  obtain ⟨b1, b2, b3, b4, b5⟩ := l
  revert b1 b2 b3 b4 b5
  decide

theorem level_le_five (l : Level) : l ≤ 5 := Nat.le_of_lt_succ l.isLt

/-- The zone with c = 5 taken in (R31). -/
def ZoneDyn.atFive (d : ZoneDyn) : ZoneDyn :=
  { d with cond := 5, inForce := d.inForce.insert 5, runOn := none, accepted := false, releaseWait := false }

theorem ZoneDyn.atFive_of_level (h : d.level = 5) : d.atFive = ({ d with cond := 5 } : ZoneDyn).atRest := by
  rw [ZoneDyn.atFive, LevelSet.insert_five h]
  rfl

/-- A sound zone at c = 5 has E = 5 and nothing of a progress (R31, R33). -/
theorem ZoneDyn.Sound.of_cond_five (h : d.Sound) (hc : d.cond = 5) : d.level = 5 ∧ d.AtRest := by
  have hle : d.cond ≤ d.level := h.cond_le_level (.inl (by rw [hc]; decide))
  have hlevel : d.level = 5 := le_antisymm (level_le_five _) (by rw [← hc]; exact hle)
  obtain ⟨-, -, -, -, -, hrest⟩ := h
  exact ⟨hlevel, hrest (by rw [hlevel, hc])⟩

/-- A condition that is formed as 5 is taken in, whatever it was (R31). -/
theorem ZoneDyn.Sound.reformed_five (h : d.Sound) (hf : d.formed c = 5) : d.reformed r c = d.atFive := by
  have hreforms := ZoneDyn.reformed_reforms r c h
  rw [hf] at hreforms
  rcases (level_le_five d.level).lt_or_eq with hlt | heq
  · exact h.reforms_takeIn hreforms hlt (.inl (by decide))
  · rw [ZoneDyn.atFive_of_level heq]
    obtain ⟨hsame, hchanges⟩ := hreforms
    by_cases hc : 5 = d.cond
    · rw [hsame hc, hc]
      exact (ZoneDyn.atRest_eq (h.of_cond_five hc.symm).2).symm
    · exact (hchanges hc).2.2.1 heq.symm

/-- The latch alone gives the condition 5 (R27). -/
theorem ZoneDyn.formed_of_latch (h : d.latch = true) : d.formed c = 5 := by
  rw [ZoneDyn.formed, h]
  exact (congrArg (max d.force) (max_eq_left (level_le_five c))).trans (max_eq_right (level_le_five d.force))

theorem ZoneDyn.formed_of_not_latch (h : d.latch = false) : d.formed c = max d.force c := by
  rw [ZoneDyn.formed, h]
  exact congrArg (max d.force) (max_eq_right (Fin.zero_le c))

/-- A zone that an ALARM latches stands at c = 5 and E = 5, with nothing of a progress (R31, R43). -/
theorem ZoneDyn.Sound.panelAlarm_eq (h : d.Sound) (hl : d.latch = false) :
    d.panelAlarm r c = ({ d with latch := true } : ZoneDyn).atFive := by
  have hlatched : ({ d with latch := true } : ZoneDyn).Sound := h
  rw [ZoneDyn.panelAlarm, if_neg (by rw [hl]; exact Bool.false_ne_true)]
  exact hlatched.reformed_five (ZoneDyn.formed_of_latch rfl)

theorem ZoneDyn.panelAlarm_latched (h : d.latch = true) : d.panelAlarm r c = d := if_pos h

theorem State.receivePanel_alarm {hd : Header} (hsrc : s.active.panelNode = 0 ∨ hd.src = s.active.panelNode) :
    s.receivePanel (hd.frame kindPanel [1, mask]) = s.panelAlarm mask := by
  have hsrc' : s.active.panelNode = 0 ∨ (hd.frame kindPanel [1, mask]).src = s.active.panelNode := hsrc
  rw [State.receivePanel, if_pos hsrc']
  exact if_pos rfl

theorem State.receivePanel_normal {hd : Header} (hsrc : s.active.panelNode = 0 ∨ hd.src = s.active.panelNode) :
    s.receivePanel (hd.frame kindPanel [2, mask]) = s.panelNormal mask := by
  have hsrc' : s.active.panelNode = 0 ∨ (hd.frame kindPanel [2, mask]).src = s.active.panelNode := hsrc
  rw [State.receivePanel, if_pos hsrc']
  exact (if_neg (by decide : ¬(2 : Byte) = 1)).trans (if_pos rfl)

/-- Settles O12: the zones of the mask take the ALARM, each by its latch. -/
theorem panelAlarmLatchesItsZones : Obligations.PanelAlarmLatchesItsZones := by
  unfold Obligations.PanelAlarmLatchesItsZones
  intro s hd mask hhears hsound _ hdst hsrc
  have hreceive : (s.heard .trunk).receivePanel (hd.frame kindPanel [1, mask]) =
      (List.finRange 8).foldl (State.atMasked ZoneDyn.panelAlarm mask) (s.heard .trunk) := by
    rw [State.receivePanel_alarm (s := s.heard .trunk) hsrc, State.panelAlarm_eq]
  obtain ⟨t, ht, hlines, hframe, hmoved, hkept⟩ := panelFrame_taken hhears hdst hreceive
  refine ⟨t, ht, hlines, hframe, fun z => ⟨fun f d hz hm hl => ?_, fun h => ?_⟩⟩
  · obtain ⟨hzone, hslot⟩ := hmoved z f d hm hz
    have hd' := (hsound z d (by rw [hz]; rfl)).panelAlarm_eq (r := s.response) (c := s.contributions z) hl
    refine ⟨_, hzone, hslot, ?_, hd'⟩
    rw [hd']
    exact (LevelSet.highest_insert d.inForce 5).trans (max_eq_right (level_le_five _))
  · rcases h with h | h | ⟨d, hdyn, hl⟩
    · exact hkept z (.inr h)
    · exact hkept z (.inl (by rw [h]; exact Bool.false_ne_true))
    · by_cases hm : mask.getLsbD z.val = true
      · cases hz : s.zones[z] with
        | vacant | draft f => rw [hz] at hdyn; cases hdyn
        | inService f e =>
          obtain rfl : e = d := by rw [hz] at hdyn; cases hdyn; rfl
          obtain ⟨hzone, hslot⟩ := hmoved z f e hm hz
          rw [ZoneDyn.panelAlarm_latched hl] at hzone hslot
          exact ⟨hzone, hslot.trans (State.zoneSlotAfter_same (.refl e))⟩
      · exact hkept z (.inl hm)

/-! ## NORMAL (R44) -/

/-- The zone with its latch cleared and the condition that is then formed. -/
def ZoneDyn.unlatchedTo (d : ZoneDyn) (c : Level) : ZoneDyn := { d with latch := false, cond := c }

/-- A latched zone whose condition is still 5 loses its latch alone (R44). -/
theorem ZoneDyn.IsFormed.panelNormal_present (hf : d.IsFormed c) (hl : d.latch = true)
    (hc : max d.force c = 5) : d.panelNormal r c = { d with latch := false } := by
  have hcond : d.cond = 5 := hf.trans (ZoneDyn.formed_of_latch hl)
  have hformed : ({ d with latch := false } : ZoneDyn).formed c = 5 := (ZoneDyn.formed_of_not_latch rfl).trans hc
  have hkeeps : d.unlatched r c = { d with latch := false } := by
    rw [ZoneDyn.unlatched, if_pos hl]
    exact ZoneDyn.reformed_of_formed (hcond.trans hformed.symm)
  rw [ZoneDyn.panelNormal_eq, hkeeps, if_neg]
  rintro ⟨-, hlt⟩
  exact absurd hcond hlt.ne

/-- The ladder of a latched zone once its latch is cleared and its condition has fallen: the run-on of level 5 starts, or its
wait for release when that run-on is 0 s (R34, R36, R44). -/
theorem ZoneDyn.Sound.unlatched_falls (h : d.Sound) (hf : d.IsFormed c) (hl : d.latch = true) (hc : max d.force c < 5) :
    (r.runOnOf 5 ≠ 0 →
        d.unlatched r c = { d.unlatchedTo (max d.force c) with runOn := timerOf (r.runOnOf 5) })
    ∧ (r.runOnOf 5 = 0 → d.unlatched r c = { d.unlatchedTo (max d.force c) with releaseWait := true }) := by
  have hcond : d.cond = 5 := hf.trans (ZoneDyn.formed_of_latch hl)
  obtain ⟨hlevel, hrun, -, hwait⟩ := h.of_cond_five hcond
  have hcleared : ({ d with latch := false } : ZoneDyn).Sound := h
  obtain ⟨-, hchanges⟩ := ZoneDyn.reformed_reforms r c hcleared
  rw [ZoneDyn.formed_of_not_latch rfl] at hchanges
  have hbelow := (hchanges (fun e => absurd (e.trans hcond) hc.ne)).2.2.2.2 (lt_of_lt_of_eq hc hlevel.symm) hrun hwait
  have hunlatched : d.unlatched r c = ({ d with latch := false } : ZoneDyn).reformed r c := if_pos hl
  have hlevel' : ({ d with latch := false } : ZoneDyn).level = 5 := hlevel
  rw [hlevel', ← hunlatched] at hbelow
  exact ⟨hbelow.1, fun h0 => hbelow.2.1 h0 (by decide)⟩

/-- A NORMAL at a zone without a latch is a consent for level 5 when c is below it (R44). -/
theorem ZoneDyn.panelNormal_of_not_latch (hl : d.latch = false) :
    d.panelNormal r c = if d.level = 5 ∧ d.cond < 5 then d.consent r else d := by
  have hkeeps : d.unlatched r c = d := if_neg (by rw [hl]; exact Bool.false_ne_true)
  rw [ZoneDyn.panelNormal_eq, hkeeps]

theorem ZoneDyn.consent_same (r : Response) (d : ZoneDyn) : d.SameInputs (d.consent r) := by
  unfold ZoneDyn.consent
  split
  · exact d.removeTop_same.trans (ZoneDyn.evaluated_same r _)
  · exact ⟨rfl, rfl, rfl, rfl, rfl, rfl, rfl, rfl, rfl, rfl, rfl⟩

theorem ZoneDyn.unlatched_latch (r : Response) (c : Level) (d : ZoneDyn) : (d.unlatched r c).latch = false := by
  unfold ZoneDyn.unlatched
  split
  · exact (ZoneDyn.reformed_same r c _).latch
  · rename_i h; exact Bool.eq_false_iff.2 h

/-- No latch stands after a NORMAL. -/
theorem ZoneDyn.panelNormal_latch (r : Response) (c : Level) (d : ZoneDyn) : (d.panelNormal r c).latch = false := by
  rw [ZoneDyn.panelNormal_eq]
  split
  · exact (ZoneDyn.consent_same r _).latch.trans (d.unlatched_latch r c)
  · exact d.unlatched_latch r c

/-- The condition after a NORMAL is formed of the other inputs. -/
theorem ZoneDyn.IsFormed.panelNormal_cond (h : d.IsFormed c) : (d.panelNormal r c).cond = max d.force c := by
  have hunlatched : (d.unlatched r c).cond = max d.force c := by
    cases hl : d.latch with
    | false =>
      rw [ZoneDyn.unlatched, if_neg (by rw [hl]; exact Bool.false_ne_true)]
      exact h.trans (ZoneDyn.formed_of_not_latch hl)
    | true =>
      rw [ZoneDyn.unlatched, if_pos hl, ZoneDyn.reformed_cond]
      exact ZoneDyn.formed_of_not_latch rfl
  rw [ZoneDyn.panelNormal_eq]
  split
  · exact (ZoneDyn.consent_same r _).cond.trans hunlatched
  · exact hunlatched

/-- A NORMAL at a zone that is not at E = 5 changes nothing. -/
theorem ZoneDyn.Sound.panelNormal_low (h : d.Sound) (hf : d.IsFormed c) (hlevel : d.level ≠ 5) : d.panelNormal r c = d := by
  have hl : d.latch = false := Bool.eq_false_iff.2 fun k =>
    hlevel (h.of_cond_five (hf.trans (ZoneDyn.formed_of_latch k))).1
  rw [ZoneDyn.panelNormal_of_not_latch hl, if_neg fun k => hlevel k.1]

theorem ZoneDyn.unlatchedTo_of_not_latch (hl : d.latch = false) (hc : d.cond = c) : d.unlatchedTo c = d := by
  rw [ZoneDyn.unlatchedTo, ← hl, ← hc]

/-- Level 5 leaves with a NORMAL when it waits, or would wait within the event (R36, R38, R44). -/
theorem ZoneDyn.Sound.panelNormal_leaves (h : d.Sound) (hf : d.IsFormed c) (hlevel : d.level = 5)
    (hc : max d.force c < 5) (k : d.releaseWait = true ∨ (d.cond = 5 ∧ r.runOnOf 5 = 0)) :
    (d.unlatchedTo (max d.force c)).Removes r (d.panelNormal r c) := by
  cases hl : d.latch with
  | false =>
    have hcond : d.cond = max d.force c := hf.trans (ZoneDyn.formed_of_not_latch hl)
    have hwait : d.releaseWait = true := k.resolve_right fun k => hc.ne (hcond.symm.trans k.1)
    rw [ZoneDyn.panelNormal_of_not_latch hl, if_pos ⟨hlevel, by rw [hcond]; exact hc⟩,
      ZoneDyn.unlatchedTo_of_not_latch hl hcond]
    exact ZoneDyn.consent_waiting hwait
  | true =>
    obtain ⟨-, -, -, hwait⟩ := h.of_cond_five (hf.trans (ZoneDyn.formed_of_latch hl))
    have h0 : r.runOnOf 5 = 0 := (k.resolve_left fun k => Bool.false_ne_true (hwait.symm.trans k)).2
    rw [ZoneDyn.panelNormal_eq, (h.unlatched_falls hf hl hc).2 h0, if_pos ⟨hlevel, hc⟩]
    exact (d.unlatchedTo (max d.force c)).removes_evaluated r

/-- Otherwise the consent is kept while the run-on of level 5 runs, which starts with the event when the condition was
present (R34, R44). -/
theorem ZoneDyn.Sound.panelNormal_consents (h : d.Sound) (hf : d.IsFormed c) (hlevel : d.level = 5)
    (hc : max d.force c < 5) (hwait : d.releaseWait = false) (hrun : d.cond = 5 → r.runOnOf 5 ≠ 0) :
    d.panelNormal r c = { d.unlatchedTo (max d.force c) with
      accepted := true, runOn := if d.cond = 5 then timerOf (r.runOnOf 5) else d.runOn } := by
  cases hl : d.latch with
  | false =>
    have hcond : d.cond = max d.force c := hf.trans (ZoneDyn.formed_of_not_latch hl)
    have hlt : d.cond < 5 := by rw [hcond]; exact hc
    rw [ZoneDyn.panelNormal_of_not_latch hl, if_pos ⟨hlevel, hlt⟩, ZoneDyn.unlatchedTo_of_not_latch hl hcond,
      if_neg hlt.ne]
    exact ZoneDyn.consent_running hwait
  | true =>
    have hcond : d.cond = 5 := hf.trans (ZoneDyn.formed_of_latch hl)
    rw [ZoneDyn.panelNormal_eq, (h.unlatched_falls hf hl hc).1 (hrun hcond), if_pos ⟨hlevel, hc⟩, if_pos hcond]
    exact ZoneDyn.consent_running hwait

/-- A removal of level 5 leaves it out of force. -/
theorem ZoneDyn.Removes.not_five {d' : ZoneDyn} (h : d.Removes r d') (hlt : d.cond < d.level) (hlevel : d.level = 5) :
    d'.inForce.l5 = false := Bool.eq_false_iff.2 fun k => by
  have hlower := h.level_lt hlt
  rw [hlevel, ZoneDyn.level, LevelSet.highest_of_l5 k] at hlower
  exact absurd hlower (lt_irrefl _)

/-- Settles O13: the zones of the mask take the NORMAL, each by its E, its latch and its wait. -/
theorem panelNormalGivesConsent : Obligations.PanelNormalGivesConsent := by
  unfold Obligations.PanelNormalGivesConsent
  intro s hd mask hhears hsound hformed hdst hsrc
  have hreceive : (s.heard .trunk).receivePanel (hd.frame kindPanel [2, mask]) =
      (List.finRange 8).foldl (State.atMasked ZoneDyn.panelNormal mask) (s.heard .trunk) := by
    rw [State.receivePanel_normal (s := s.heard .trunk) hsrc, State.panelNormal_eq]
  obtain ⟨t, ht, hlines, hframe, hmoved, hkept⟩ := panelFrame_taken hhears hdst hreceive
  refine ⟨t, ht, hlines, hframe, fun z => ⟨fun f d hz hm => ?_, fun h => ?_⟩⟩
  · intro c
    obtain ⟨hzone, hslot⟩ := hmoved z f d hm hz
    have hd : d.Sound := hsound z d (by rw [hz]; rfl)
    have hf : d.IsFormed (s.contributions z) := hformed z d (by rw [hz]; rfl)
    refine ⟨_, hzone, hslot, ZoneDyn.panelNormal_latch _ _ d, hd.panelNormal_low hf, fun _ => hf.panelNormal_cond,
      fun hlevel hc => ?_, fun hlevel hc k => ?_, hd.panelNormal_consents hf⟩
    · cases hl : d.latch with
      | true => exact hf.panelNormal_present hl hc
      | false =>
        have hcond : d.cond = 5 := (hf.trans (ZoneDyn.formed_of_not_latch hl)).trans hc
        rw [ZoneDyn.panelNormal_of_not_latch hl, if_neg fun k => k.2.ne hcond, ← hl]
    · have hremoves := hd.panelNormal_leaves hf hlevel hc k
      exact ⟨hremoves.not_five (lt_of_lt_of_eq hc hlevel.symm) hlevel, hremoves⟩
  · rcases h with h | h
    · exact hkept z (.inr h)
    · exact hkept z (.inl (by rw [h]; exact Bool.false_ne_true))

end
end Sys2Proof.Machine

namespace Sys2Proof.Machine

/-! ## An event at one output that sets its trouble slot (R168) -/

section
variable {s t u : State} {i : Fin 24} {f : OutputFields} {applies : Bool}

/-- The part once an event has taken the machine of an IN_SERVICE output to `d'` and set its trouble slot. -/
def State.outputMoved (s : State) (i : Fin 24) (f : OutputFields) (d' : OutputDyn) (reason : Reason) : State :=
  { s with outputs := s.outputs.set i (.inService f d'), outputSlots := s.outputSlots.set i (s.outputMarked i reason) }

/-- A fan's event that raises its trouble. -/
theorem State.updateFan_raised {g : OutputFields → FanDyn → FanDyn} {d : FanDyn} {r : Reason}
    (h : s.outputs[i] = .inService f (.fan d)) (k : fanTrouble d (g f d) = some (some r)) :
    s.updateFan i g = s.outputMoved i f (.fan (g f d)) r := by
  rw [State.updateFan_of h, k]; rfl

/-- A fan's event that ends its trouble. -/
theorem State.updateFan_ended {g : OutputFields → FanDyn → FanDyn} {d : FanDyn}
    (h : s.outputs[i] = .inService f (.fan d)) (k : fanTrouble d (g f d) = some none) :
    s.updateFan i g = s.outputMoved i f (.fan (g f d)) s.outputSlots[i].lastReason := by
  rw [State.updateFan_of h, k]; rfl

/-- A fan's event that R168 does not name. -/
theorem State.updateFan_unmarked {g : OutputFields → FanDyn → FanDyn} {d : FanDyn}
    (h : s.outputs[i] = .inService f (.fan d)) (k : fanTrouble d (g f d) = none) :
    s.updateFan i g = s.setOutput i (.inService f (.fan (g f d))) := by
  rw [State.updateFan_of h, k]

/-- A damper's event that raises its trouble. -/
theorem State.updateDamper_raised {g : OutputFields → DamperDyn → DamperDyn} {d : DamperDyn} {r : Reason}
    (h : s.outputs[i] = .inService f (.damper d)) (k : damperTrouble d.state (g f d).state = some (some r)) :
    s.updateDamper i g = s.outputMoved i f (.damper (g f d)) r := by
  rw [State.updateDamper_of h, k]; rfl

/-- Entry to FAULT raises the trouble (R168). -/
theorem fanTrouble_enterFault {d : FanDyn} (r : FanFault) (h : d.state.isFault = false) :
    fanTrouble d (d.enterFault f r) = some (some r.reason) := by
  unfold fanTrouble
  cases hs : d.state with
  | fault q => rw [hs] at h; cases h
  | _ => rfl

theorem damperTrouble_fault {st : DamperState} (r : DamperFault) (h : st.isFault = false) :
    damperTrouble st (.fault r) = some (some r.reason) := by
  cases st with
  | fault q => cases h
  | _ => rfl

/-! ## An expiry as an event -/

/-- An event that leaves both lines as it met them, in the words of the claims. -/
theorem quietEvent {g : State → State} (hw : s.works = true) (ha : applies = true) (hg : g s = u)
    (hdue : u.restartDue = false) (hfield : u.field = s.field) (htrunk : u.trunk = s.trunk) :
    ∃ t, onEvent applies g s = .next t ∧ s.QuietLines t ∧ u.OnlyLines t := by
  obtain ⟨honly, hqfield, hqtrunk⟩ := State.finish_quiet hdue
  rw [hfield] at hqfield
  rw [htrunk] at hqtrunk
  exact ⟨u.finish, by rw [onEvent_of hw ha, hg], ⟨hqfield, hqtrunk⟩, honly⟩

/-- The DRIVE of an IN_SERVICE output joins the FIELD queue (R90, R91). -/
theorem State.queueDrive_joined {d : OutputDyn} {data : List Byte} {run : Bool} (h : u.outputs[i] = .inService f d)
    (hc : d.command = some (data, run)) : u.DriveJoined (u.queueDrive i) i f.node run data := by
  cases hn : f.node with
  | none =>
    have hentry : u.driveEntry i = none := by simp only [State.driveEntry, h, hn]
    rw [State.queueDrive_of_none hentry]
    exact ⟨.refl _, rfl, rfl, rfl, rfl⟩
  | some n =>
    have hentry : u.driveEntry i = some ⟨u.originate 2 kindDrive n data, .drive i run, none⟩ := by
      simp only [State.driveEntry, h, hn, hc]
    rw [State.queueDrive_of_some hentry]
    exact ⟨.refl _, rfl, rfl, rfl, frames_joinDrive _ _ _ _⟩

/-- An event at an output that queues its DRIVE, in the words of the claims. -/
theorem driveEvent {g : State → State} {d' : OutputDyn} {reason : Reason} {data : List Byte} {run : Bool}
    (hw : s.works = true) (hdue : s.restartDue = false) (ha : applies = true)
    (hg : g s = (s.outputMoved i f d' reason).queueDrive i) (hc : d'.command = some (data, run)) :
    ∃ t, onEvent applies g s = .next t ∧ s.DriveJoined t i f.node run data ∧ (s.outputMoved i f d' reason).OnlyLines t := by
  have hself : (s.outputMoved i f d' reason).outputs[i] = .inService f d' := vector_set_self _ _ _
  obtain ⟨jtrunk, jon, jrec, jcount, jframes⟩ := State.queueDrive_joined hself hc
  have hlines := (s.outputMoved i f d' reason).queueDrive_onlyLines i
  have hdue' : ((s.outputMoved i f d' reason).queueDrive i).restartDue = false := by
    rw [State.queueDrive_eq]; exact hdue
  obtain ⟨honly, ⟨kon, kframes, krec, kcount⟩, ktrunk⟩ := State.finish_quiet hdue'
  refine ⟨_, by rw [onEvent_of hw ha, hg], ?_, hlines.trans honly⟩
  exact ⟨jtrunk.trans ktrunk, kon.trans jon, krec.trans jrec, kcount.trans jcount, kframes.trans jframes⟩

/-- A fan's timer applies where the fan is in the state that the timer supervises. -/
theorem State.fanTimer_isSome {d : FanDyn} {is : FanState → Bool} {timer : FanDyn → Timer}
    (h : s.outputs[i] = .inService f (.fan d)) (his : is d.state = true) (ht : (timer d).isSome = true) :
    (s.fanTimer i is timer).isSome = true := by
  have hfan : s.fan? i = some d := by simp only [State.fan?, h]
  simp only [State.fanTimer, hfan, if_pos his, ht]

theorem State.damperTimer_isSome {d : DamperDyn} {st : DamperState} {timer : DamperDyn → Timer}
    (h : s.outputs[i] = .inService f (.damper d)) (his : d.state = st) (ht : (timer d).isSome = true) :
    (s.damperTimer i st timer).isSome = true := by
  have hdamper : s.damper? i = some d := by simp only [State.damper?, h]
  simp only [State.damperTimer, hdamper, if_pos his, ht]

/-- A timer's expiry that takes a fan to FAULT, in the words of the claims (R103 to R105, R107). -/
theorem fanFault_taken {d : FanDyn} (r : FanFault) (hw : s.works = true) (hdue : s.restartDue = false)
    (ha : applies = true) (h : s.outputs[i] = .inService f (.fan d)) (hs : d.state.isFault = false) :
    ∃ t, onEvent applies (State.updateFan · i fun f => FanDyn.enterFault f r) s = .next t ∧ s.QuietLines t
      ∧ (s.outputMoved i f (.fan (d.enterFault f r)) r.reason).OnlyLines t :=
  quietEvent hw ha
    (State.updateFan_raised (g := fun f => FanDyn.enterFault f r) h (fanTrouble_enterFault r hs)) hdue rfl rfl

theorem damperFault_taken {d : DamperDyn} (r : DamperFault) (hw : s.works = true) (hdue : s.restartDue = false)
    (ha : applies = true) (h : s.outputs[i] = .inService f (.damper d)) (hs : d.state.isFault = false) :
    ∃ t, onEvent applies (State.updateDamper · i fun _ => DamperDyn.enterFault r) s = .next t ∧ s.QuietLines t
      ∧ (s.outputMoved i f (.damper (d.enterFault r)) r.reason).OnlyLines t :=
  quietEvent hw ha
    (State.updateDamper_raised (g := fun _ => DamperDyn.enterFault r) h (damperTrouble_fault r hs)) hdue rfl rfl

/-- The fan has fire in reach, in the words of the claims (R50, R99). -/
theorem State.fireInReach_iff :
    s.fireInReach i = true ↔ ∃ (z : Fin 8) (g : ZoneFields) (e : ZoneDyn), ∃ k ∈ g.branches,
      s.zones[z] = .inService g e ∧ g.fans[k] = i ∧ 4 ≤ e.level := by
  have hreaches (z : Fin 8) : s.reachesFan z i = true ↔
      ∃ g e, s.zones[z] = .inService g e ∧ ∃ k ∈ g.branches, g.fans[k] = i := by
    unfold State.reachesFan ZoneFields.namesFan
    cases s.zones[z] <;> simp
  simp only [State.fireInReach, List.any_eq_true, Bool.and_eq_true, hreaches, State.isFire_zoneLevel_iff,
    List.mem_finRange, true_and]
  constructor
  · rintro ⟨z, ⟨g, e, hz, k, hk, hi⟩, g', e', hz', hfire⟩
    rw [hz] at hz'
    cases hz'
    exact ⟨z, g, e, k, hk, hz, hi, hfire⟩
  · rintro ⟨z, g, e, k, hk, hz, hi, hfire⟩
    exact ⟨z, ⟨g, e, hz, k, hk, hi⟩, g, e, hz, hfire⟩

/-! ## Fans (R102, R108) -/

variable {d : FanDyn}

/-- In PATH_WAIT the path timer alone runs, and no NO_PATH mark stands (R97). -/
theorem FanDyn.Sound.of_pathWait (h : d.Sound) (hs : d.state = .pathWait) :
    d.startTimer = none ∧ d.statusTimer = none ∧ d.stopTimer = none ∧ d.retryTimer = none ∧ d.noPath = false := by
  obtain ⟨-, hstart, hstatus, hstop, hretry, -, -, hmark, -⟩ := h
  rw [hs] at hstart hstatus hstop hretry hmark
  refine ⟨Option.isNone_iff_eq_none.1 (by rw [← Option.not_isSome, hstart]; rfl),
    Option.isNone_iff_eq_none.1 (by rw [← Option.not_isSome, hstatus]; rfl),
    Option.isNone_iff_eq_none.1 (by rw [← Option.not_isSome, hstop]; rfl),
    Option.isNone_iff_eq_none.1 (by rw [← Option.not_isSome, hretry]; rfl), Bool.eq_false_iff.2 fun k => ?_⟩
  rcases hmark k with k | k | k <;> cases k

/-- In FAULT the retry timer alone runs, and no NO_PATH mark stands (R97). -/
theorem FanDyn.Sound.of_fault (h : d.Sound) (hs : d.state.isFault = true) :
    d.pathTimer = none ∧ d.startTimer = none ∧ d.statusTimer = none ∧ d.stopTimer = none ∧ d.noPath = false := by
  obtain ⟨hpath, hstart, hstatus, hstop, -, -, -, hmark, -⟩ := h
  cases hd : d.state with
  | fault r =>
    rw [hd] at hpath hstart hstatus hstop hmark
    refine ⟨Option.isNone_iff_eq_none.1 (by rw [← Option.not_isSome, hpath]; rfl),
      Option.isNone_iff_eq_none.1 (by rw [← Option.not_isSome, hstart]; rfl),
      Option.isNone_iff_eq_none.1 (by rw [← Option.not_isSome, hstatus]; rfl),
      Option.isNone_iff_eq_none.1 (by rw [← Option.not_isSome, hstop]; rfl), Bool.eq_false_iff.2 fun k => ?_⟩
    rcases hmark k with k | k | k <;> cases k
  | _ => rw [hd] at hs; cases hs

/-- A fan with fire in reach is started, with its mark set (R102). -/
theorem FanDyn.Sound.pathExpired_fire (h : d.Sound) (hs : d.state = .pathWait) :
    d.pathExpired f true = { d with
      state := .starting, noPath := true, pathTimer := none, startTimer := timerOf f.startTimeout } := by
  obtain ⟨-, hstatus, hstop, hretry, -⟩ := h.of_pathWait hs
  rw [FanDyn.pathExpired, if_pos rfl, FanDyn.toStarting, FanDyn.stopTimers, hstatus, hstop, hretry]

/-- The NO_PATH mark raises the trouble (R102, R168). -/
theorem FanDyn.Sound.fanTrouble_pathExpired (h : d.Sound) (hs : d.state = .pathWait) :
    fanTrouble d (d.pathExpired f true) = some (some .noPath) := by
  obtain ⟨-, -, -, -, hmark⟩ := h.of_pathWait hs
  rw [h.pathExpired_fire hs, fanTrouble, hs, hmark]
  rfl

/-- A retry under fire takes the fan to STOPPED and counts (R108). -/
theorem FanDyn.Sound.retryExpired_fire (h : d.Sound) (hs : d.state.isFault = true) :
    d.retryExpired f true = { d with
      state := .stopped, retryTimer := none, retryCount := min (d.retryCount + 1) 255 } := by
  obtain ⟨hpath, hstart, hstatus, hstop, hmark⟩ := h.of_fault hs
  rw [FanDyn.retryExpired, if_pos rfl, FanDyn.toStopped, FanDyn.stopTimers, hpath, hstart, hstatus, hstop, hmark]

/-- A fan that leaves FAULT ends its trouble (R168). -/
theorem FanDyn.fanTrouble_retryExpired (hs : d.state.isFault = true) :
    fanTrouble d (d.retryExpired f true) = some none := by
  unfold fanTrouble
  cases hd : d.state with
  | fault r => rfl
  | _ => rw [hd] at hs; cases hs

/-- A fan that stays in FAULT leaves its trouble slot (R168). -/
theorem FanDyn.fanTrouble_retryExpired_calm (hs : d.state.isFault = true) :
    fanTrouble d (d.retryExpired f false) = none := by
  unfold fanTrouble FanDyn.retryExpired
  cases hd : d.state with
  | fault r => rfl
  | _ => rw [hd] at hs; cases hs

theorem State.pathExpired_fire (hfire : s.fireInReach i = true) :
    s.pathExpired i = (s.updateFan i fun f => FanDyn.pathExpired f true).queueDrive i := by
  rw [State.pathExpired, hfire]; rfl

theorem State.pathExpired_calm (hfire : s.fireInReach i = false) :
    s.pathExpired i = s.updateFan i fun f => FanDyn.pathExpired f false := by
  rw [State.pathExpired, hfire]; rfl

theorem State.retryExpired_fire (hfire : s.fireInReach i = true) :
    s.retryExpired i = (s.updateFan i fun f => FanDyn.retryExpired f true).queueDrive i := by
  rw [State.retryExpired, hfire]; rfl

theorem State.retryExpired_calm (hfire : s.fireInReach i = false) :
    s.retryExpired i = s.updateFan i fun f => FanDyn.retryExpired f false := by
  rw [State.retryExpired, hfire]; rfl

/-- What the claims say of an output that has moved. -/
theorem State.outputMoved_becomes {d' : OutputDyn} {reason : Reason} (h : (s.outputMoved i f d' reason).OnlyLines t) :
    t = { s with
        outputs := s.outputs.set i (.inService f d'), outputSlots := t.outputSlots, field := t.field, trunk := t.trunk }
      ∧ t.outputSlots = s.outputSlots.set i (s.outputMarked i reason) := by
  have hslots : t.outputSlots = s.outputSlots.set i (s.outputMarked i reason) := by rw [h]; rfl
  exact ⟨by rw [hslots]; exact h, hslots⟩

/-- The expiry of the path timer of a fan in PATH_WAIT, by the fire in its reach (R102). -/
theorem pathTimerExpires (hw : s.works = true) (hdue : s.restartDue = false) (h : s.outputs[i] = .inService f (.fan d))
    (hd : d.Sound) (hs : d.state = .pathWait) :
    ∃ t, exec (.pathTimerExpiry i) s = .next t
      ∧ (s.fireInReach i = false →
          s.QuietLines t ∧ (s.outputMoved i f (.fan (d.enterFault f .noPath)) .noPath).OnlyLines t)
      ∧ (s.fireInReach i = true →
          s.DriveJoined t i f.node true [1, byte (ditheredStep d.q d.dither)]
            ∧ (s.outputMoved i f (.fan (d.pathExpired f true)) .noPath).OnlyLines t) := by
  have htimer : (s.pathTimer i).isSome = true := by
    refine State.fanTimer_isSome h (by rw [hs]; rfl) ?_
    rw [hd.1, hs]
    rfl
  rw [exec_pathTimerExpiry]
  cases hfire : s.fireInReach i with
  | false =>
    have hfault : fanTrouble d (d.enterFault f .noPath) = some (some .noPath) :=
      fanTrouble_enterFault .noPath (by rw [hs]; rfl)
    obtain ⟨t, ht, hquiet, honly⟩ := quietEvent (g := (State.pathExpired · i)) hw htimer
      ((State.pathExpired_calm hfire).trans
        (State.updateFan_raised (g := fun f => FanDyn.pathExpired f false) h hfault)) hdue rfl rfl
    exact ⟨t, ht, fun _ => ⟨hquiet, honly⟩, nofun⟩
  | true =>
    have hmoved := State.updateFan_raised (g := fun f => FanDyn.pathExpired f true) h (hd.fanTrouble_pathExpired hs)
    obtain ⟨t, ht, hjoined, honly⟩ := driveEvent (g := (State.pathExpired · i)) hw hdue htimer
      ((State.pathExpired_fire hfire).trans (congrArg (State.queueDrive · i) hmoved)) rfl
    exact ⟨t, ht, nofun, fun _ => ⟨hjoined, honly⟩⟩

/-- The expiry of the retry timer of a fan in FAULT, by the fire in its reach (R108). -/
theorem retryTimerExpires (hw : s.works = true) (hdue : s.restartDue = false) (h : s.outputs[i] = .inService f (.fan d))
    (hd : d.Sound) (hs : d.state.isFault = true) :
    ∃ t, exec (.retryTimerExpiry i) s = .next t
      ∧ (s.fireInReach i = false →
          s.QuietLines t ∧ (s.setOutput i (.inService f (.fan (d.retryExpired f false)))).OnlyLines t)
      ∧ (s.fireInReach i = true →
          s.DriveJoined t i f.node false [0, 0]
            ∧ (s.outputMoved i f (.fan (d.retryExpired f true)) s.outputSlots[i].lastReason).OnlyLines t) := by
  have htimer : (s.retryTimer i).isSome = true := by
    obtain ⟨-, -, -, -, hretry, -⟩ := hd
    exact State.fanTimer_isSome h hs (hretry.trans hs)
  rw [exec_retryTimerExpiry]
  cases hfire : s.fireInReach i with
  | false =>
    obtain ⟨t, ht, hquiet, honly⟩ := quietEvent (g := (State.retryExpired · i)) hw htimer
      ((State.retryExpired_calm hfire).trans
        (State.updateFan_unmarked (g := fun f => FanDyn.retryExpired f false) h
          (FanDyn.fanTrouble_retryExpired_calm hs))) hdue rfl rfl
    exact ⟨t, ht, fun _ => ⟨hquiet, honly⟩, nofun⟩
  | true =>
    have hmoved := State.updateFan_ended (g := fun f => FanDyn.retryExpired f true) h
      (FanDyn.fanTrouble_retryExpired hs)
    obtain ⟨t, ht, hjoined, honly⟩ := driveEvent (g := (State.retryExpired · i)) hw hdue htimer
      ((State.retryExpired_fire hfire).trans (congrArg (State.queueDrive · i) hmoved)) rfl
    exact ⟨t, ht, nofun, fun _ => ⟨hjoined, honly⟩⟩

/-- The start, status and stop timers each end in their FAULT, in the words of the claims (R103 to R105). -/
theorem fanTimerExpires {c : Instr} {r : FanFault} {is : FanState → Bool} {timer : FanDyn → Timer}
    (hexec : exec c s = onEvent (s.fanTimer i is timer).isSome (State.updateFan · i fun f => FanDyn.enterFault f r) s)
    (hw : s.works = true) (hdue : s.restartDue = false) (h : s.outputs[i] = .inService f (.fan d))
    (his : is d.state = true) (ht : (timer d).isSome = true) (hs : d.state.isFault = false) :
    ∃ t, exec c s = .next t
      ∧ t = { s with
          outputs := s.outputs.set i (.inService f (.fan (d.enterFault f r))), outputSlots := t.outputSlots
          field := t.field, trunk := t.trunk }
      ∧ t.outputSlots = s.outputSlots.set i (s.outputMarked i r.reason) ∧ s.QuietLines t := by
  obtain ⟨t, ht, hquiet, honly⟩ := fanFault_taken r hw hdue (State.fanTimer_isSome h his ht) h hs
  obtain ⟨hbecomes, hslots⟩ := State.outputMoved_becomes honly
  exact ⟨t, hexec.trans ht, hbecomes, hslots, hquiet⟩

/-- The travel and status timers each end in their FAULT, in the words of the claims (R111). -/
theorem damperTimerExpires {c : Instr} {r : DamperFault} {st : DamperState} {timer : DamperDyn → Timer} {d : DamperDyn}
    (hexec : exec c s = onEvent (s.damperTimer i st timer).isSome (State.updateDamper · i fun _ => DamperDyn.enterFault r) s)
    (hw : s.works = true) (hdue : s.restartDue = false) (h : s.outputs[i] = .inService f (.damper d))
    (his : d.state = st) (ht : (timer d).isSome = true) (hs : st.isFault = false) :
    ∃ t, exec c s = .next t ∧ s.QuietLines t ∧ (s.outputMoved i f (.damper (d.enterFault r)) r.reason).OnlyLines t := by
  obtain ⟨t, ht, hquiet, honly⟩ := damperFault_taken r hw hdue (State.damperTimer_isSome h his ht) h (by rw [his]; exact hs)
  exact ⟨t, hexec.trans ht, hquiet, honly⟩

end

/-- Settles O28: each timer of a fan, and the two of a damper. -/
theorem outputTimersExpire : Obligations.OutputTimersExpire := by
  unfold Obligations.OutputTimersExpire
  constructor
  · intro s i f d hw hdue h hd fire gone becomes marked
    have hcalm (k : ¬fire) : s.fireInReach i = false := Bool.eq_false_iff.2 fun hf => k (State.fireInReach_iff.1 hf)
    have hburns (k : fire) : s.fireInReach i = true := State.fireInReach_iff.2 k
    have ⟨_, hstart, hstatus, hstop, _⟩ := hd
    refine ⟨fun hs => ?_, fun hs => ?_, fun hs => ?_, fun hs => ?_, fun hs => ?_⟩
    · obtain ⟨t, ht, calm, burns⟩ := pathTimerExpires hw hdue h hd hs
      refine ⟨t, ht, ?_, fun k => ?_, fun k => ?_⟩
      · by_cases k : fire
        · exact (State.outputMoved_becomes (burns (hburns k)).2).2
        · exact (State.outputMoved_becomes (calm (hcalm k)).2).2
      · obtain ⟨hquiet, honly⟩ := calm (hcalm k)
        exact ⟨(State.outputMoved_becomes honly).1, hquiet⟩
      · obtain ⟨hjoined, honly⟩ := burns (hburns k)
        rw [hd.pathExpired_fire hs] at honly
        exact ⟨(State.outputMoved_becomes honly).1, hjoined⟩
    · exact fanTimerExpires (is := (· == .starting)) (timer := FanDyn.startTimer) rfl hw hdue h (by rw [hs]; rfl)
        (by rw [hstart, hs]; rfl) (by rw [hs]; rfl)
    · exact fanTimerExpires (is := (· == .running)) (timer := FanDyn.statusTimer) rfl hw hdue h (by rw [hs]; rfl)
        (by rw [hstatus, hs]; rfl) (by rw [hs]; rfl)
    · exact fanTimerExpires (is := (· == .stopping)) (timer := FanDyn.stopTimer) rfl hw hdue h (by rw [hs]; rfl)
        (by rw [hstop, hs]; rfl) (by rw [hs]; rfl)
    · obtain ⟨t, ht, calm, burns⟩ := retryTimerExpires hw hdue h hd hs
      refine ⟨t, ht, fun k => ?_, fun k => ?_⟩
      · obtain ⟨hquiet, honly⟩ := calm (hcalm k)
        have hslots : t.outputSlots = s.outputSlots := by rw [honly]; rfl
        exact ⟨by change t = _; rw [hslots]; exact honly, hquiet, hslots⟩
      · obtain ⟨hjoined, honly⟩ := burns (hburns k)
        rw [hd.retryExpired_fire hs] at honly
        obtain ⟨hbecomes, hslots⟩ := State.outputMoved_becomes honly
        exact ⟨hbecomes, hslots, hjoined⟩
  · intro s i f d hw hdue h ⟨htravel, hstatus⟩ fails
    refine ⟨fun hs => ?_, fun hs => ?_⟩
    · exact damperTimerExpires (st := .travelling) (timer := DamperDyn.travelTimer) rfl hw hdue h hs
        (by rw [htravel, hs]; rfl) rfl
    · exact damperTimerExpires (st := .settled) (timer := DamperDyn.statusTimer) rfl hw hdue h hs
        (by rw [hstatus, hs]; rfl) rfl

end Sys2Proof.Machine

namespace Sys2Proof.Machine

/-! ## The save lock and the fire lock (R150 to R152) -/

section
variable {s : State} {src tag table index field : Byte} {value : BitVec 16} {presence : Byte}

/-- The fire state is one zone in fire (R52). -/
theorem State.fireState_iff : s.fireState = true ↔ ∃ z, s.ZoneInFire z := by
  simp only [State.fireState, List.any_eq_true, State.isFire_zoneLevel_iff, List.mem_finRange, true_and]

/-- A life-cycle request of an entry that exists finds a SAVE in flight (R150, R152). -/
theorem State.lifeCycleEntry_busy {r : EntryRef} {from_ : LifeCycle} (hs : s.saving = true)
    (he : lifeCycleRef table index = .ok r) : s.lifeCycleEntry table index from_ = .error .busy := by
  simp only [State.lifeCycleEntry, he, hs, if_true]

/-- The four life-cycle requests during a SAVE. -/
theorem lifeCycle_busy {r : EntryRef} (hr : s.Ready) (hs : s.saving = true) (he : lifeCycleRef table index = .ok r) :
    s.Refuses (.entryOpen src tag table index) src 1 tag .busy
    ∧ s.Refuses (.entryCommission src tag table index) src 4 tag .busy
    ∧ s.Refuses (.entryRetire src tag table index) src 5 tag .busy
    ∧ s.Refuses (.entryClear src tag table index) src 6 tag .busy := by
  have hbusy (from_ : LifeCycle) : (s.heard .trunk).lifeCycleEntry table index from_ = .error .busy :=
    State.lifeCycleEntry_busy (s := s.heard .trunk) hs he
  refine ⟨?_, commission_refused hr ?_, retire_refused hr ?_, ?_⟩
  · exact onRequest_refused (r := .entryOpen table index) hr (by rw [State.decide, State.entryOpen, hbusy]; rfl)
  · rw [State.entryCommission, hbusy]
  · rw [State.entryRetire, hbusy]
  · exact onRequest_refused (r := .entryClear table index) hr (by rw [State.decide, State.entryClear, hbusy]; rfl)

/-- ENTRY_SET that is refused. -/
theorem entrySet_refused {c : ReplyCode} (hr : s.Ready)
    (h : (s.heard .trunk).entrySet table index field value presence = .error c) :
    s.Refuses (.entrySet src tag table index field value presence) src 2 tag c :=
  onRequest_refused (r := .entrySet table index field value presence) hr (by rw [State.decide, h]; rfl)

/-- A level byte names its entry of the response table (R152). -/
theorem entryRef_response {l : Fin 5} (h : index.toNat = l.val + 1) : entryRef 5 index = .ok (.response l) := by
  have hpos : index ≠ 0 := fun e => by rw [e] at h; exact absurd h (Nat.succ_ne_zero _).symm
  have hpred : (index - 1).toNat = l.val := by bv_omega
  have hindex : indexOf 5 (index - 1) = some l := by
    have hlt : (index - 1).toNat < 5 := hpred.trans_lt l.isLt
    rw [indexOf, dif_pos hlt]
    exact congrArg some (Fin.ext hpred)
  change responseRef index = _
  rw [responseRef, if_neg hpos, indexed, hindex]

/-- Under the fire lock the response table is not written (R147, R152). -/
theorem State.entrySet_response_locked {l : Fin 5} (hs : s.saving = false) (hfire : s.fireState = true)
    (hl : index.toNat = l.val + 1) : s.entrySet 5 index field value presence = .error .locked := by
  rw [State.entrySet, entryRef_response hl]
  dsimp only
  rw [hs, if_neg Bool.false_ne_true, State.setResponseField, if_pos hfire]

/-- A point of a zone in fire stays in service (R145). -/
theorem State.entryRetire_point_locked {i : Fin 64} {f : PointFields} {d : PointDyn} (hs : s.saving = false)
    (hi : indexOf 64 index = some i) (hp : s.points[i] = .inService f d) (hfire : s.ZoneInFire f.zone) :
    (s.heard .trunk).entryRetire 1 index = .error .locked := by
  have hhot : isFire ((s.heard .trunk).zoneLevel f.zone) = true := State.isFire_zoneLevel_iff (s := s).2 hfire
  rw [State.entryRetire_of hs (lifeCycleRef_point hi) (by simp only [State.lifeCycle, hp]; rfl), State.retireEntry]
  simp [hp, hhot]

/-- An output that a zone in fire names stays in service (R145). -/
theorem State.entryRetire_output_locked {i : Fin 24} (hs : s.saving = false) (hi : indexOf 24 index = some i)
    (hin : s.outputs[i].isInService = true) (hlock : s.outputLocked i = true) :
    (s.heard .trunk).entryRetire 3 index = .error .locked := by
  cases hp : s.outputs[i] with
  | vacant | draft f => rw [hp] at hin; cases hin
  | inService f d =>
    have hp' : (s.heard .trunk).outputs[i] = .inService f d := hp
    have hlock' : (s.heard .trunk).outputLocked i = true := hlock
    rw [State.entryRetire_of hs (lifeCycleRef_output hi) (by simp only [State.lifeCycle, hp]; rfl), State.retireEntry]
    simp only [hp', hlock', if_true]

/-- An output that a zone in fire names is not taken into HAND (R113). -/
theorem State.outputHand_locked {i : Fin 24} (hi : indexOf 24 index = some i) (hin : s.outputs[i].isInService = true)
    (hlock : s.outputLocked i = true) : s.outputHand index 1 = .error .locked := by
  cases hp : s.outputs[i] with
  | vacant | draft f => rw [hp] at hin; cases hin
  | inService f d =>
    have hnamed : s.outputNamed index = .ok (i, d) := by simp only [State.outputNamed, hi, hp]
    rw [State.outputHand, hnamed]
    exact (if_neg (by decide : ¬(1 : Byte) = 0)).trans ((if_pos rfl).trans (if_pos hlock))

theorem restart_refused {c : ReplyCode} (hr : s.Ready) (h : (s.heard .trunk).decide .restart = .refused c) :
    s.Refuses (.restart src tag) src 50 tag c := onRequest_refused (r := .restart) hr h

end

/-- Settles O40: the locks in the words of the claims, then each request by the check that its lock fails. -/
theorem locksRefuse : Obligations.LocksRefuse := by
  unfold Obligations.LocksRefuse
  refine ⟨fun s => ⟨State.fireState_iff, fun z => State.isFire_zoneLevel_iff, fun i => State.outputLocked_iff⟩, ?_⟩
  intro s src tag table index field value presence hr
  refine ⟨fun hs => ⟨fun r he => lifeCycle_busy hr hs he, fun r he => ?_, fun r he => ?_, ?_, ?_⟩,
    fun hs hfire => ⟨?_, fun l hl => ?_⟩, fun i f d hs hi hp hfire => ?_, fun i hi hin hnamed => ⟨?_, fun hs => ?_⟩⟩
  · have hs' : (s.heard .trunk).saving = true := hs
    exact entrySet_refused hr (by simp only [State.entrySet, he, hs', if_true])
  · have hs' : (s.heard .trunk).saving = true := hs
    have htune : (s.heard .trunk).entryTune table index field value = .error .busy := by
      simp only [State.entryTune, he, hs', if_true]
    exact onRequest_refused (r := .entryTune table index field value) hr (by rw [State.decide, htune]; rfl)
  · exact onRequest_refused (r := .save) hr (if_pos hs)
  · exact restart_refused hr (if_pos hs)
  · have hs' : ¬(s.heard .trunk).saving = true := by rw [State.heard_saving, hs]; exact Bool.false_ne_true
    exact restart_refused hr ((if_neg hs').trans (if_pos (State.fireState_iff.2 hfire)))
  · exact entrySet_refused hr
      (State.entrySet_response_locked (s := s.heard .trunk) hs (State.fireState_iff (s := s).2 hfire) hl)
  · exact retire_refused hr (State.entryRetire_point_locked hs hi hp hfire)
  · have hlock := State.outputLocked_iff.2 hnamed
    exact onRequest_refused (r := .outputHand index 1) hr
      (by rw [State.decide, State.outputHand_locked (s := s.heard .trunk) hi hin hlock]; rfl)
  · exact retire_refused hr (State.entryRetire_output_locked hs hi hin (State.outputLocked_iff.2 hnamed))

end Sys2Proof.Machine

namespace Sys2Proof.Machine

/-! ## The purge phase (R71, R75) -/

/-- How far a clock's counter stands behind a start, past P − 1 to 0 where it has wrapped since (R71). -/
theorem purgeOffset_eq {start counter period : Nat} (hs : start < period) (hc : counter < period) :
    ((counter : Int) - start) % period
      = if start ≤ counter then (counter : Int) - start else (counter : Int) + period - start := by
  split
  · exact Int.emod_eq_of_lt (by omega) (by omega)
  · rw [← Int.add_emod_right]
    exact (Int.emod_eq_of_lt (by omega) (by omega)).trans (by omega)

/-- The counter a number of minutes after a start, for fewer minutes than a period (R70). -/
theorem minutesOn_eq {start n period : Nat} (hs : start < period) (hn : n < period) :
    (start + n) % period = if start + n < period then start + n else start + n - period := by
  split
  · exact Nat.mod_eq_of_lt ‹_›
  · rw [Nat.mod_eq_sub_mod (by omega), Nat.mod_eq_of_lt (by omega)]

/-- Settles O18: the minute is counted from the start, before the counter wraps or past it. -/
theorem purgePhaseIsItsMinutes : Obligations.PurgePhaseIsItsMinutes := by
  unfold Obligations.PurgePhaseIsItsMinutes
  intro s f j hj hfits hc
  obtain ⟨hs, hd⟩ := fits_iff.1 hfits
  have hphase : s.purgePhase f = true ↔
      ((s.clocks[j].counter : Int) - f.purgeStart) % s.clocks[j].period < f.purgeDuration := by
    rw [State.purgePhase, hj]
    exact decide_eq_true_iff
  rw [hphase, purgeOffset_eq hs hc]
  generalize s.clocks[j].counter = counter at hc
  generalize s.clocks[j].period = period at hs hd hc
  constructor
  · intro hlt
    by_cases hle : f.purgeStart ≤ counter
    · rw [if_pos hle] at hlt
      exact ⟨counter - f.purgeStart, by omega, by rw [minutesOn_eq hs (by omega)]; split <;> omega⟩
    · rw [if_neg hle] at hlt
      exact ⟨counter + period - f.purgeStart, by omega, by rw [minutesOn_eq hs (by omega)]; split <;> omega⟩
  · rintro ⟨n, hn, hat⟩
    rw [minutesOn_eq hs (by omega)] at hat
    split at hat <;> split <;> omega

/-! ## Greatest values (R60, R69) -/

/-- The greater of a number and the value that an element offers, if it offers one. -/
abbrev orMax {α β : Type} [LinearOrder β] (value : α → Option β) (m : β) (x : α) : β := (value x).elim m (max m)

/-- A running maximum over the values that some elements offer: it is at least its start and every value, and is one of
them. -/
theorem foldl_orMax_spec {α β : Type} [LinearOrder β] (value : α → Option β) (l : List α) (a : β) :
    a ≤ l.foldl (orMax value) a ∧ (∀ x ∈ l, ∀ b ∈ value x, b ≤ l.foldl (orMax value) a)
      ∧ (l.foldl (orMax value) a = a ∨ ∃ x ∈ l, l.foldl (orMax value) a ∈ value x) := by
  induction l generalizing a with
  | nil => exact ⟨le_rfl, fun x hx => absurd hx List.not_mem_nil, .inl rfl⟩
  | cons x l ih =>
    obtain ⟨hstart, hbound, hone⟩ := ih (orMax value a x)
    rw [List.foldl_cons]
    have hrest := hone.imp_right fun ⟨y, hy, hv⟩ => (⟨y, List.mem_cons_of_mem x hy, hv⟩ : ∃ y ∈ x :: l, _ ∈ value y)
    cases hv : value x with
    | none =>
      have hx : orMax value a x = a := by rw [orMax, hv]; rfl
      rw [hx] at hstart hbound hrest ⊢
      exact ⟨hstart, List.forall_mem_cons.2 ⟨by simp [hv], hbound⟩, hrest⟩
    | some b =>
      have hx : orMax value a x = max a b := by rw [orMax, hv]; rfl
      rw [hx] at hstart hbound hrest ⊢
      refine ⟨(le_max_left a b).trans hstart, List.forall_mem_cons.2 ⟨fun c hc => ?_, hbound⟩, ?_⟩
      · cases hv.symm.trans hc
        exact (le_max_right a b).trans hstart
      · rcases hrest with h | h
        · rcases max_choice a b with k | k
          · exact .inl (h.trans k)
          · exact .inr ⟨x, List.mem_cons_self, by rw [h, k]; exact hv⟩
        · exact .inr h

/-! ## Schedule windows (R67 to R69) -/

section
variable {s : State} {z : Fin 8} {f : ZoneFields} {d : ZoneDyn}

/-- The window is IN_SERVICE, holds the zone and covers the day clock (R69). -/
abbrev State.WindowActive (s : State) (z : Fin 8) (w : WindowFields) : Prop :=
  (∃ i : Fin 8, s.windows[i] = .inService w ()) ∧ w.zoneMask.getLsbD z.val = true
    ∧ ∃ c, s.dayClock = some c ∧ w.covers c = true

/-- The floor that a window entry gives a zone at a day and minute, where it is active. -/
def windowFloor (z : Fin 8) (c : DayClock) : Entry WindowFields Unit → Option Nat
  | .inService f _ => if f.zoneMask.getLsbD z.val && f.covers c then some f.floor else none
  | _ => none

theorem windowFloor_eq_some {c : DayClock} {e : Entry WindowFields Unit} {n : Nat} :
    windowFloor z c e = some n ↔
      ∃ w, e = .inService w () ∧ w.zoneMask.getLsbD z.val = true ∧ w.covers c = true ∧ w.floor = n := by
  unfold windowFloor
  cases e <;> simp [and_assoc]

theorem State.scheduleFloor_eq {c : DayClock} (h : s.dayClock = some c) :
    s.scheduleFloor z = (List.finRange 8).foldl (orMax fun i => windowFloor z c s.windows[i]) 0 := by
  rw [State.scheduleFloor, h]
  refine List.foldl_ext _ _ _ fun m i _ => ?_
  unfold orMax windowFloor
  beta_reduce
  cases s.windows[i] with
  | vacant | draft w => rfl
  | inService w => dsimp only; split <;> rfl

/-- The schedule floor is the greatest floor of the active windows, and 0 without one (R69). -/
theorem State.scheduleFloor_spec (s : State) (z : Fin 8) :
    (∀ w, s.WindowActive z w → w.floor ≤ s.scheduleFloor z)
      ∧ (s.scheduleFloor z ≠ 0 → ∃ w, s.WindowActive z w ∧ w.floor = s.scheduleFloor z) := by
  unfold State.WindowActive
  cases hc : s.dayClock with
  | none => simp [State.scheduleFloor, hc]
  | some c =>
    rw [State.scheduleFloor_eq hc]
    obtain ⟨-, hbound, hone⟩ := foldl_orMax_spec (fun i : Fin 8 => windowFloor z c s.windows[i]) (List.finRange 8) 0
    refine ⟨?_, fun hne => ?_⟩
    · rintro w ⟨⟨i, hi⟩, hzone, c', hc', hcovers⟩
      cases hc'
      exact hbound i (List.mem_finRange i) _ (windowFloor_eq_some.2 ⟨w, hi, hzone, hcovers, rfl⟩)
    · obtain ⟨i, -, hi⟩ := hone.resolve_left hne
      obtain ⟨w, hw, hzone, hcovers, hfloor⟩ := windowFloor_eq_some.1 hi
      exact ⟨w, ⟨⟨i, hw⟩, hzone, c, rfl, hcovers⟩, hfloor⟩

/-- A window within one day (R67). -/
theorem WindowFields.covers_within {w : WindowFields} {c : DayClock} (h : w.start < w.stop) :
    w.covers c = true ↔ w.dayMask.getLsbD c.day = true ∧ w.start ≤ c.minute ∧ c.minute < w.stop := by
  simp [WindowFields.covers, h, and_assoc]

/-- The day before is the day that the next one follows (R68). -/
theorem dayBefore_iff {day d : Nat} (hd : d ≤ 6) : day ≤ 6 ∧ (day + 1) % 7 = d ↔ day = dayBefore d := by
  unfold dayBefore
  omega

/-- A window past midnight (R68). -/
theorem WindowFields.covers_midnight {w : WindowFields} {c : DayClock} (hc : c.day ≤ 6) (h : w.stop < w.start) :
    w.covers c = true ↔ (w.dayMask.getLsbD c.day = true ∧ w.start ≤ c.minute)
      ∨ ∃ day, day ≤ 6 ∧ (day + 1) % 7 = c.day ∧ w.dayMask.getLsbD day = true ∧ c.minute < w.stop := by
  have hcovers : w.covers c = true ↔ (w.dayMask.getLsbD c.day = true ∧ w.start ≤ c.minute)
      ∨ (w.dayMask.getLsbD (dayBefore c.day) = true ∧ c.minute < w.stop) := by
    simp [WindowFields.covers, h.not_gt]
  rw [hcovers]
  refine or_congr_right ⟨fun k => ?_, fun ⟨day, hday, hnext, k⟩ => ?_⟩
  · obtain ⟨hle, hnext⟩ := (dayBefore_iff hc).2 rfl
    exact ⟨_, hle, hnext, k⟩
  · rw [← (dayBefore_iff hc).1 ⟨hday, hnext⟩]
    exact k

/-! ## The proportional term (R60) -/

/-- The point is LIVE in the zone, and its grade carries a fume level (R60). -/
abbrev State.PointOffers (s : State) (z : Fin 8) (g : PointFields) (p : PointDyn) : Prop :=
  (∃ i : Fin 64, s.points[i] = .inService g p) ∧ g.zone = z ∧ p.state = .live
    ∧ ((p.grade = .a ∧ (g.levelA = 1 ∨ g.levelA = 2)) ∨ (p.grade = .b ∧ (g.levelB = some 1 ∨ g.levelB = some 2)))

theorem offeredLevel_fume {g : PointFields} {p : PointDyn} :
    offeredLevel g p = 1 ∨ offeredLevel g p = 2 ↔ p.state = .live
      ∧ ((p.grade = .a ∧ (g.levelA = 1 ∨ g.levelA = 2)) ∨ (p.grade = .b ∧ (g.levelB = some 1 ∨ g.levelB = some 2))) := by
  unfold offeredLevel contribution
  cases p.state <;> cases p.grade <;> cases g.levelB <;> simp

/-- The term that a point entry gives a zone, where it offers one. -/
def pointTerm (z : Fin 8) : Entry PointFields PointDyn → Option Int
  | .inService f d =>
    if f.zone = z ∧ (offeredLevel f d = 1 ∨ offeredLevel f d = 2) then some (offeredTerm f d) else none
  | _ => none

theorem pointTerm_eq_some {e : Entry PointFields PointDyn} {n : Int} :
    pointTerm z e = some n ↔ ∃ g p, e = .inService g p ∧ (g.zone = z ∧ (offeredLevel g p = 1 ∨ offeredLevel g p = 2))
      ∧ offeredTerm g p = n := by
  unfold pointTerm
  cases e <;> simp

theorem State.proportional_eq (s : State) (z : Fin 8) :
    s.proportional z = ((List.finRange 64).foldl (orMax fun i => pointTerm z s.points[i]) 0).toNat := by
  refine congrArg Int.toNat (List.foldl_ext _ _ _ fun m i _ => ?_)
  unfold orMax pointTerm
  beta_reduce
  cases s.points[i] with
  | vacant | draft g => rfl
  | inService g p => dsimp only; split <;> rfl

/-- The proportional term is the greatest of 0 and the terms of the offering points (R60). -/
theorem State.proportional_spec (s : State) (z : Fin 8) :
    (∀ g p, s.PointOffers z g p → offeredTerm g p ≤ s.proportional z)
      ∧ (s.proportional z = 0 ∨ ∃ g p, s.PointOffers z g p ∧ offeredTerm g p = s.proportional z) := by
  obtain ⟨hpos, hbound, hone⟩ := foldl_orMax_spec (fun i : Fin 64 => pointTerm z s.points[i]) (List.finRange 64) 0
  rw [← Int.toNat_of_nonneg hpos, ← s.proportional_eq z] at hbound hone
  refine ⟨?_, hone.imp Int.natCast_eq_zero.1 ?_⟩
  · rintro g p ⟨⟨i, hi⟩, hzone, hoffers⟩
    exact hbound i (List.mem_finRange i) _ (pointTerm_eq_some.2 ⟨g, p, hi, ⟨hzone, offeredLevel_fume.2 hoffers⟩, rfl⟩)
  · rintro ⟨i, -, hi⟩
    obtain ⟨g, p, hp, ⟨hzone, hoffers⟩, hterm⟩ := pointTerm_eq_some.1 hi
    exact ⟨g, p, ⟨⟨i, hp⟩, hzone, offeredLevel_fume.1 hoffers⟩, hterm⟩

/-! ## Demand (R57 to R61) -/

theorem State.demandOf_calm (h : d.level = 0) :
    s.demandOf z f d = max f.minFlow (max (s.scheduleFloor z) (if s.purgePhase f then f.purgeFlow else 0)) := if_pos h

theorem State.demandOf_fume (h : d.level = 1 ∨ d.level = 2) :
    s.demandOf z f d = min f.maxFlow
      (max ((if d.level = 1 then f.fumeLowFlow else f.fumeHighFlow) + s.proportional z) (s.scheduleFloor z)) := by
  rcases h with h | h <;> simp [State.demandOf, h]

theorem State.demandOf_flammable (h : d.level = 3) : s.demandOf z f d = f.flammableFlow := by
  simp [State.demandOf, h]

theorem State.demandOf_fire (h : 4 ≤ d.level) : s.demandOf z f d = f.fireFlow := by
  have hne (l : Level) (hl : l < 4) : d.level ≠ l := fun e => absurd (e ▸ h) (not_le.2 hl)
  rw [State.demandOf, if_neg (hne 0 (by decide)), if_neg (hne 1 (by decide)), if_neg (hne 2 (by decide)),
    if_neg (hne 3 (by decide))]

/-- Settles O19: the demand of each level, with the greatest floor and the greatest term in the words of the claims. -/
theorem demandFollowsTheLevel : Obligations.DemandFollowsTheLevel := by
  unfold Obligations.DemandFollowsTheLevel
  intro s z f d
  obtain ⟨hfloor, hfloor'⟩ := s.scheduleFloor_spec z
  obtain ⟨hterm, hterm'⟩ := s.proportional_spec z
  refine ⟨hfloor, hfloor', fun h hoff => ?_, fun h hon => ?_, State.demandOf_flammable, State.demandOf_fire,
    fun h => ⟨s.proportional z, State.demandOf_fume h, hterm, hterm'⟩,
    fun w c hc => ⟨WindowFields.covers_within, WindowFields.covers_midnight hc⟩⟩
  · rw [State.demandOf_calm h, hoff]
    simp
  · rw [State.demandOf_calm h, hon, if_pos rfl]

end
end Sys2Proof.Machine

namespace Sys2Proof.Machine

/-! ## The purge clocks (R70, R74) -/

section
variable {s t u : State} {j k : Fin 2} {z : Fin 8} {e : Entry ZoneFields ZoneDyn} {c : PurgeClock} {wraps : Prop}

/-- A zone entry as the wrap of a clock leaves it: adopted where it is bound to the clock (R74). -/
def adoptedBy (j : Fin 2) (e : Entry ZoneFields ZoneDyn) : Entry ZoneFields ZoneDyn :=
  if zoneClock e = some j then adoptZone e else e

theorem adoptedBy_eq : adoptedBy j e = match e with
    | .inService f d =>
      if f.clock = some j then
        .inService { f with
            purgeStart := d.stagedStart.getD f.purgeStart
            purgeDuration := d.stagedDuration.getD f.purgeDuration
            purgeFlow := d.stagedFlow.getD f.purgeFlow }
          { d with stagedStart := none, stagedDuration := none, stagedFlow := none }
      else e
    | _ => e := by
  cases e <;> rfl

theorem adoptedBy_of_ne (h : zoneClock e ≠ some j) : adoptedBy j e = e := if_neg h

/-- An adoption leaves a zone bound as it was. -/
theorem zoneClock_adoptedBy : zoneClock (adoptedBy j e) = zoneClock e := by
  unfold adoptedBy
  split
  · cases e <;> rfl
  · rfl

/-- A purge clock after a minute: past P − 1 it wraps (R70). -/
def PurgeClock.advanced (c : PurgeClock) : PurgeClock :=
  if c.period ≤ c.counter + 1 then c.wrapped else { c with counter := c.counter + 1 }

/-- Between `s` and `t` a purge clock was set, and, where that was its wrap, the zones bound to it adopted their staged
values; nothing else changed. -/
structure State.ClockMoved (j : Fin 2) (c : PurgeClock) (wraps : Prop) (s t : State) : Prop where
  frame : t = { s with clocks := s.clocks.set j c, zones := t.zones }
  adopts : wraps → ∀ z : Fin 8, t.zones[z] = adoptedBy j s.zones[z]
  keeps : ¬wraps → t.zones = s.zones

/-- The zones of a list adopt one after the other, and none feels another's adoption. -/
theorem State.foldl_adopt (l : List (Fin 8)) (hl : l.Nodup) (s : State) :
    let t := l.foldl (fun s z => if zoneClock s.zones[z] = some j then s.setZone z (adoptZone s.zones[z]) else s) s
    t = { s with zones := t.zones } ∧ ∀ z : Fin 8, t.zones[z] = if z ∈ l then adoptedBy j s.zones[z] else s.zones[z] := by
  induction l generalizing s with
  | nil => exact ⟨rfl, fun z => (if_neg List.not_mem_nil).symm⟩
  | cons a l ih =>
    obtain ⟨ha, hl⟩ := List.nodup_cons.1 hl
    have hstep : (if zoneClock s.zones[a] = some j then s.setZone a (adoptZone s.zones[a]) else s) =
        s.setZone a (adoptedBy j s.zones[a]) := by
      unfold adoptedBy
      split
      · rfl
      · simp [State.setZone]
    dsimp only
    rw [List.foldl_cons, hstep]
    obtain ⟨hframe, hzones⟩ := ih hl (s.setZone a (adoptedBy j s.zones[a]))
    refine ⟨hframe, fun z => ?_⟩
    rw [hzones z, State.setZone_zones]
    by_cases hza : z = a
    · subst hza
      rw [if_neg ha, vector_set_self, if_pos List.mem_cons_self]
    · rw [vector_set_ne _ _ hza]
      simp [hza]

/-- A wrap (R70, R74). -/
theorem State.wrapClock_moved (s : State) (j : Fin 2) : State.ClockMoved j s.clocks[j].wrapped True s (s.wrapClock j) := by
  obtain ⟨hframe, hzones⟩ :=
    State.foldl_adopt (j := j) (List.finRange 8) (List.nodup_finRange 8) (s.setClock j s.clocks[j].wrapped)
  refine ⟨hframe, fun _ z => ?_, fun h => absurd trivial h⟩
  exact (hzones z).trans (if_pos (List.mem_finRange z))

/-- A purge clock's minute (R70). -/
theorem State.advanceClock_moved (s : State) (j : Fin 2) :
    State.ClockMoved j s.clocks[j].advanced (s.clocks[j].period ≤ s.clocks[j].counter + 1) s (s.advanceClock j) := by
  unfold State.advanceClock PurgeClock.advanced
  dsimp only
  split
  · rename_i h
    obtain ⟨hframe, hadopts, -⟩ := s.wrapClock_moved j
    exact ⟨hframe, fun _ => hadopts trivial, fun k => absurd h k⟩
  · rename_i h
    exact ⟨rfl, fun k => absurd k h, fun _ => rfl⟩

theorem PurgeClock.advanced_wraps (h : c.period ≤ c.counter + 1) : c.advanced = c.wrapped := if_pos h

theorem PurgeClock.advanced_counts (h : ¬c.period ≤ c.counter + 1) :
    c.advanced = { c with counter := c.counter + 1 } := if_neg h

namespace State.ClockMoved

theorem clock (h : ClockMoved j c wraps s t) : t.clocks[j] = c := by
  rw [h.frame]
  exact vector_set_self _ _ _

theorem other (h : ClockMoved j c wraps s t) (hk : k ≠ j) : t.clocks[k] = s.clocks[k] := by
  rw [h.frame]
  exact vector_set_ne _ _ hk

/-- A zone of another clock, or of a clock that does not wrap, is left alone. -/
theorem zone_keeps (h : ClockMoved j c wraps s t) (hz : zoneClock s.zones[z] = some j → ¬wraps) :
    t.zones[z] = s.zones[z] := by
  by_cases hw : wraps
  · exact (h.adopts hw z).trans (adoptedBy_of_ne fun e => hz e hw)
  · rw [h.keeps hw]

theorem zoneClock_eq (h : ClockMoved j c wraps s t) : zoneClock t.zones[z] = zoneClock s.zones[z] := by
  by_cases hw : wraps
  · rw [h.adopts hw, zoneClock_adoptedBy]
  · rw [h.keeps hw]

end State.ClockMoved

/-- A minute's effect on the purge clocks, from the state in which the minute timer and the day clock have moved on. -/
theorem State.minuteExpired_clocks (s : State) :
    s.minuteExpired = { s with
        minuteTimer := 240, dayClock := s.dayClock.map DayClock.next, clocks := s.minuteExpired.clocks,
        zones := s.minuteExpired.zones }
      ∧ (∀ j : Fin 2, s.minuteExpired.clocks[j] = s.clocks[j].advanced)
      ∧ ∀ z : Fin 8,
        (∀ j, zoneClock s.zones[z] = some j → s.clocks[j].period ≤ s.clocks[j].counter + 1 →
          s.minuteExpired.zones[z] = adoptedBy j s.zones[z])
        ∧ ((∀ j, zoneClock s.zones[z] = some j → ¬s.clocks[j].period ≤ s.clocks[j].counter + 1) →
          s.minuteExpired.zones[z] = s.zones[z]) := by
  have h0 := ((s.setMinuteTimer minuteQuarters).setDayClock (s.dayClock.map DayClock.next)).advanceClock_moved 0
  have h1 := State.advanceClock_moved
    (((s.setMinuteTimer minuteQuarters).setDayClock (s.dayClock.map DayClock.next)).advanceClock 0) 1
  have hclock := h0.other (show (1 : Fin 2) ≠ 0 by decide)
  rw [hclock] at h1
  have hmid : ∀ z : Fin 8, zoneClock _ = zoneClock s.zones[z] := fun z => h0.zoneClock_eq (z := z)
  change State.ClockMoved 1 _ _ _ s.minuteExpired at h1
  generalize ((s.setMinuteTimer minuteQuarters).setDayClock (s.dayClock.map DayClock.next)).advanceClock 0 = u
    at h0 h1 hmid
  generalize s.minuteExpired = t at h1 ⊢
  refine ⟨?_, fun j => ?_, fun z => ⟨fun j hj hw => ?_, fun hno => ?_⟩⟩
  · have hframe := h1.frame
    rw [h0.frame] at hframe
    rw [hframe]
    rfl
  · match j with
    | 0 => exact (h1.other (by decide)).trans h0.clock
    | 1 => exact h1.clock
  · match j with
    | 0 =>
      have hkeep : t.zones[z] = u.zones[z] := h1.zone_keeps fun e => by rw [hmid, hj] at e; cases e
      exact hkeep.trans (h0.adopts hw z)
    | 1 =>
      have hkeep : u.zones[z] = s.zones[z] := h0.zone_keeps fun (e : zoneClock s.zones[z] = some 0) => by
        rw [hj] at e; cases e
      exact (h1.adopts hw z).trans (by rw [hkeep])
  · have hkeep : u.zones[z] = s.zones[z] := h0.zone_keeps fun e => hno 0 e
    exact (h1.zone_keeps fun e => hno 1 ((hmid z).symm.trans e)).trans hkeep

/-! ## The expiries that are due (R11, R35, R64, R77, R101 to R111, R123) -/

theorem Timer.due_iff {x : Timer} : x.due = true ↔ x = some 0 := beq_iff_eq

theorem State.silenceTimer_due_iff {i : Fin 64} : (s.silenceTimer i).due = true ↔
    ∃ f d, s.points[i] = .inService f d ∧ d.state.isFault = false ∧ d.silence = some 0 := by
  unfold State.silenceTimer
  rw [Timer.due_iff]
  cases s.points[i] <;> simp

theorem State.runOnTimer_due_iff : (s.runOnTimer z).due = true ↔ ∃ f d, s.zones[z] = .inService f d ∧ d.runOn = some 0 := by
  unfold State.runOnTimer
  rw [Timer.due_iff]
  cases s.zones[z] <;> simp

theorem State.fanTimer_due_iff {i : Fin 24} {is : FanState → Bool} {timer : FanDyn → Timer} :
    (s.fanTimer i is timer).due = true ↔
      ∃ f d, s.outputs[i] = .inService f (.fan d) ∧ is d.state = true ∧ timer d = some 0 := by
  unfold State.fanTimer State.fan?
  rw [Timer.due_iff]
  cases s.outputs[i] with
  | vacant | draft f => simp
  | inService f d => cases d <;> simp

theorem State.damperTimer_due_iff {i : Fin 24} {st : DamperState} {timer : DamperDyn → Timer} :
    (s.damperTimer i st timer).due = true ↔
      ∃ f d, s.outputs[i] = .inService f (.damper d) ∧ d.state = st ∧ timer d = some 0 := by
  unfold State.damperTimer State.damper?
  rw [Timer.due_iff]
  cases s.outputs[i] with
  | vacant | draft f => simp
  | inService f d => cases d <;> simp

theorem State.recoveryTimer_due_iff {p : PortId} :
    (s.recoveryTimer p).due = true ↔ (s.port p).on = false ∧ (s.port p).recovery = some 0 := by
  unfold State.recoveryTimer
  rw [Timer.due_iff]
  cases (s.port p).on <;> simp

/-- The expiries that are due, in the words of the claims: no command but an expiry is, and each by its own timer. -/
theorem State.mem_dueExpiries_iff {c : Instr} : c ∈ s.dueExpiries ↔ s.RunOut c := by
  cases c with
  | silenceTimerExpiry i => simp [State.dueExpiries, State.RunOut, State.silenceTimer_due_iff]
  | runOnExpiry z => simp [State.dueExpiries, State.RunOut, State.runOnTimer_due_iff]
  | minuteTimerExpiry | drivePeriodExpiry => simp [State.dueExpiries, State.RunOut]
  | pathTimerExpiry i => simp [State.dueExpiries, State.RunOut, State.pathTimer, State.fanTimer_due_iff]
  | startTimerExpiry i => simp [State.dueExpiries, State.RunOut, State.startTimer, State.fanTimer_due_iff]
  | fanStatusTimerExpiry i => simp [State.dueExpiries, State.RunOut, State.fanStatusTimer, State.fanTimer_due_iff]
  | stopTimerExpiry i => simp [State.dueExpiries, State.RunOut, State.stopTimer, State.fanTimer_due_iff]
  | retryTimerExpiry i => simp [State.dueExpiries, State.RunOut, State.retryTimer, State.fanTimer_due_iff]
  | travelTimerExpiry i => simp [State.dueExpiries, State.RunOut, State.travelTimer, State.damperTimer_due_iff]
  | damperStatusTimerExpiry i =>
    simp [State.dueExpiries, State.RunOut, State.damperStatusTimer, State.damperTimer_due_iff]
  | recoveryTimerExpiry p =>
    have hport : p = .field ∨ p = .trunk := by cases p <;> simp
    simp [State.dueExpiries, State.RunOut, State.recoveryTimer_due_iff, hport]
  | _ => simp [State.dueExpiries, State.RunOut]

/-! ## An idle step (log entries 2 and 3) -/

theorem State.nextExpiry_none (h : s.dueExpiries = []) : s.nextExpiry = none := by
  unfold State.nextExpiry
  split
  · rw [h]
  · rfl

theorem State.nextExpiry_some (hw : s.works = true) (h : s.dueExpiries ≠ []) : ∃ c t, s.nextExpiry = some (c, t) := by
  unfold State.nextExpiry
  rw [if_pos hw]
  split
  · exact absurd ‹_› h
  · exact ⟨_, _, rfl⟩
  · exact ⟨_, _, rfl⟩

/-- An idle part at work takes an expiry that is due (log entry 3). -/
theorem step_of_due (hw : s.works = true) (hp : s.pending = []) (h : s.dueExpiries ≠ []) :
    ∃ c ∈ s.dueExpiries, ∃ n, step s = exec c (s.setFreeIndex n) := by
  obtain ⟨c, t, hnext⟩ := State.nextExpiry_some hw h
  have hstep : step s = exec c t := by simp only [step, hp, State.idle, hnext]
  refine ⟨c, State.nextExpiry_mem hnext, ?_⟩
  rcases State.nextExpiry_state hnext with rfl | rfl
  · exact ⟨t.freeIndex, hstep⟩
  · exact ⟨_, hstep⟩

/-- An idle part at work with nothing due lets a quarter second pass (log entry 2). -/
theorem step_of_not_due (hw : s.works = true) (hp : s.pending = []) (h : s.dueExpiries = []) :
    step s = .next s.ticked.finish := by
  simp only [step, hp, State.idle, State.nextExpiry_none h, State.passTime_eq, hw, if_true]

theorem Timer.tick_eq_map (x : Timer) : x.tick = x.map fun q => q - 1 := by cases x <;> rfl

theorem Entry.mapDyn_of_not {φ δ : Type} {g : δ → δ} {e : Entry φ δ} (h : e.isInService = false) : e.mapDyn g = e := by
  cases e with
  | vacant | draft f => rfl
  | inService f d => cases h

theorem State.OnlyLines.outputs (h : s.OnlyLines t) : t.outputs = s.outputs := by
  unfold State.OnlyLines at h; rw [h]

theorem State.ticked_restartDue (s : State) : s.ticked.restartDue = s.restartDue :=
  State.restartDue_congr (by unfold State.ticked; rfl) (by unfold State.ticked; rfl)

/-- A quarter second, in the words of the claims: the end of the event changes only what is on offer. -/
theorem State.ticked_passed (honly : s.ticked.OnlyLines t) (hquiet : s.ticked.QuietLines t) : s.QuarterPassed t := by
  have hpoints (i : Fin 64) : t.points[i] = s.points[i].mapDyn PointDyn.tick := by
    rw [honly.points]; exact vector_ofFn_get (fun i : Fin 64 => s.points[i].mapDyn PointDyn.tick) i
  have hzones (z : Fin 8) : t.zones[z] = s.zones[z].mapDyn ZoneDyn.tick := by
    rw [honly.zones]; exact vector_ofFn_get (fun z : Fin 8 => s.zones[z].mapDyn ZoneDyn.tick) z
  have houtputs (i : Fin 24) : t.outputs[i] = s.outputs[i].mapDyn OutputDyn.tick := by
    rw [honly.outputs]; exact vector_ofFn_get (fun i : Fin 24 => s.outputs[i].mapDyn OutputDyn.tick) i
  refine ⟨?_, fun i => ⟨fun h => ?_, fun f d h => ?_⟩, fun z => ⟨fun h => ?_, fun f d h => ?_⟩,
    fun i => ⟨fun h => ?_, fun f d h => ?_, fun f d h => ?_⟩, fun p => ?_⟩
  · rw [honly.points, honly.zones, honly.outputs]
    unfold State.OnlyLines State.ticked at honly
    unfold State.ticked
    exact honly
  · rw [hpoints, Entry.mapDyn_of_not h]
  · simp only [hpoints, h, Entry.mapDyn, PointDyn.tick, Timer.tick_eq_map]
  · rw [hzones, Entry.mapDyn_of_not h]
  · simp only [hzones, h, Entry.mapDyn, ZoneDyn.tick, Timer.tick_eq_map]
  · rw [houtputs, Entry.mapDyn_of_not h]
  · simp only [houtputs, h, Entry.mapDyn, OutputDyn.tick, FanDyn.tick, Timer.tick_eq_map]
  · simp only [houtputs, h, Entry.mapDyn, OutputDyn.tick, DamperDyn.tick, Timer.tick_eq_map]
  · have hport : (s.ticked.port p).SameLine (t.port p) := by cases p; exacts [hquiet.1, hquiet.2]
    have htick : s.ticked.port p = (s.port p).tick := by cases p <;> rfl
    rw [htick] at hport
    obtain ⟨hon, hframes, hrec, hcount⟩ := hport
    exact ⟨hon, hframes, hcount, hrec.trans (Timer.tick_eq_map _)⟩

/-- Settles O20: the minute and the wrap by what they do to the clocks and their zones, and time by the step of an idle
part. -/
theorem minutesAdvanceTheClocks : Obligations.MinutesAdvanceTheClocks := by
  unfold Obligations.MinutesAdvanceTheClocks
  intro s hw hdue
  dsimp only
  refine ⟨?_, fun j => ?_, fun c => State.mem_dueExpiries_iff, fun hp h => step_of_due hw hp h, fun hp h => ?_⟩
  · obtain ⟨hframe, hclocks, hzones⟩ := s.minuteExpired_clocks
    have hdue' : s.minuteExpired.restartDue = false :=
      (State.restartDue_congr (by rw [hframe]) (by rw [hframe])).trans hdue
    obtain ⟨t, ht, hquiet, honly⟩ := quietEvent (applies := true) hw rfl (g := State.minuteExpired) rfl hdue'
      (by rw [hframe]) (by rw [hframe])
    generalize s.minuteExpired = u at hframe hclocks hzones honly
    have hclock : t.clocks = u.clocks := by rw [honly]
    have hzone : t.zones = u.zones := honly.zones
    have hday : t.dayClock = s.dayClock.map DayClock.next := by rw [honly, hframe]
    refine ⟨t, ht, hquiet, ?_, fun h => by rw [hday, h]; rfl, fun c h => by rw [hday, h]; rfl, fun j => ?_, fun z => ?_⟩
    · rw [hclock, hzone, hday, honly, hframe]
    · rw [hclock, hclocks]
      exact ⟨PurgeClock.advanced_wraps, PurgeClock.advanced_counts⟩
    · rw [hzone]
      exact ⟨fun j hj hwraps => ((hzones z).1 j hj hwraps).trans adoptedBy_eq, (hzones z).2⟩
  · obtain ⟨hframe, hadopts, -⟩ := s.wrapClock_moved j
    have hdue' : (s.wrapClock j).restartDue = false :=
      (State.restartDue_congr (by rw [hframe]) (by rw [hframe])).trans hdue
    obtain ⟨t, ht, hquiet, honly⟩ := quietEvent (applies := true) hw rfl (g := (State.wrapClock · j)) rfl hdue'
      (by rw [hframe]) (by rw [hframe])
    generalize s.wrapClock j = u at hframe hadopts honly
    refine ⟨t, ht, hquiet, ?_, fun z => ?_⟩
    · rw [honly.zones, honly, hframe]
      rfl
    · rw [honly.zones]
      exact (hadopts trivial z).trans adoptedBy_eq
  · obtain ⟨honly, hquiet⟩ := State.finish_quiet (s.ticked_restartDue.trans hdue)
    exact ⟨_, step_of_not_due hw hp h, State.ticked_passed honly hquiet⟩

end
end Sys2Proof.Machine

namespace Sys2Proof.Machine

/-! ## Forwarding down (R127, R129) -/

section
variable {s t u : State} {f : Frame} {c : PortCounters}

/-- A port after a forwarded frame has met its FIELD queue, with room or without. -/
theorem Port.joinField_met {p : Port} {e : QEntry} :
    p.Met (p.joinField e).1 p.FieldHasRoom QEntry.isForwarded e.frame e.origin p.counters :=
  Port.join_met (by simp)

theorem Port.joinField_joins_iff {p : Port} {e : QEntry} :
    (p.joinField e).2 = true ↔ p.Admits p.FieldHasRoom QEntry.isForwarded e.frame.prio :=
  Port.join_joins_iff (by simp)

/-- Forwarding down, in the words of the claims. -/
theorem State.forwardDown_downward (s : State) (f : Frame) : s.Downward (s.forwardDown f) f s.trunk.counters := by
  have hmet : s.field.Met (s.field.joinField (forwardedEntry f)).1 s.field.FieldHasRoom QEntry.isForwarded (onward f)
      .forwarded s.field.counters := Port.joinField_met
  have hjoins : (s.field.joinField (forwardedEntry f)).2 = true ↔
      s.field.Admits s.field.FieldHasRoom QEntry.isForwarded f.prio := Port.joinField_joins_iff
  refine ⟨fun hop => ?_, fun hop => ?_⟩
  · rw [State.forwardDown_of_hop hop]
    exact ⟨Port.SameLine.refl _, rfl, rfl, rfl, rfl⟩
  · rw [State.forwardDown, if_neg hop]
    dsimp only
    split
    · rename_i h
      exact ⟨hmet, fun _ => ⟨rfl, rfl, rfl, rfl⟩, fun hno => absurd (hjoins.1 h) hno⟩
    · rename_i h
      exact ⟨hmet, fun hyes => absurd (hjoins.2 hyes) h, fun _ => ⟨rfl, rfl, rfl, rfl⟩⟩

/-- What has gone down, seen from the state before the frame was received. -/
theorem State.Downward.of_heard (h : u.Downward t f c) (hfield : u.field = s.field)
    (htrunk : s.trunk.HeardOnly u.trunk u.trunk.counters) : s.Downward t f c := by
  obtain ⟨hon, hframes, hrec, -⟩ := htrunk
  unfold State.Downward Port.HeardOnly at h ⊢
  rw [hfield, hon, hframes, hrec] at h
  exact h

theorem State.Downward.quiet (h : s.Downward t f c) (k : t.QuietLines u) : s.Downward u f c :=
  ⟨fun hop => ⟨(h.1 hop).1.trans k.1, (h.1 hop).2.sameLine k.2⟩,
    fun hop => ⟨(h.2 hop).1.sameLine k.1, fun hj => ((h.2 hop).2.1 hj).sameLine k.2,
      fun hj => ((h.2 hop).2.2 hj).sameLine k.2⟩⟩

/-- A frame that goes down leaves the TRUNK queue as it was. -/
theorem State.forwardDown_trunk_queue (s : State) (f : Frame) : (s.forwardDown f).trunk.queue = s.trunk.queue := by
  unfold State.forwardDown
  split
  · rfl
  · dsimp only
    split <;> rfl

theorem State.forwardDown_restartDue (s : State) (f : Frame) : (s.forwardDown f).restartDue = s.restartDue :=
  State.restartDue_congr (by rw [s.forwardDown_onlyLines f]) (s.forwardDown_trunk_queue f)

/-- A frame goes down at the end of an event that was otherwise quiet on the lines. -/
theorem State.forwardDown_finish (hdue : u.restartDue = false) :
    u.Downward (u.forwardDown f).finish f u.trunk.counters ∧ u.OnlyLines (u.forwardDown f).finish := by
  obtain ⟨honly, hquiet⟩ := State.finish_quiet ((u.forwardDown_restartDue f).trans hdue)
  exact ⟨(u.forwardDown_downward f).quiet hquiet, (u.forwardDown_onlyLines f).trans honly⟩

end

/-! ## TIME (R65, R134, R182) -/

section
variable {s t u : State} {hd : Header} {data : List Byte} {v : TimePayload}

/-- A TIME frame whose values are in range (R65). -/
abbrev TimePayload.InRange (v : TimePayload) : Prop := v.day ≤ 6 ∧ v.minute ≤ 1439 ∧ v.second ≤ 59

theorem State.takeTime_of (h : v.InRange) :
    s.takeTime v.day v.minute v.second =
      (s.setDayClock (some ⟨v.day, v.minute⟩)).setMinuteTimer (4 * (60 - v.second)) := if_pos h

theorem State.takeTime_of_not (h : ¬v.InRange) : s.takeTime v.day v.minute v.second = s.countIgnoredTime := if_neg h

/-- A TIME is malformed unless it has four bytes (R182). -/
theorem timePayload?_eq_none_iff : timePayload? data = none ↔ data.length ≠ 4 := by
  unfold timePayload?
  split
  · simp
  · rename_i h
    refine iff_of_true rfl fun k => ?_
    obtain ⟨day, lo, hi, second, rfl⟩ := List.length_eq_four.1 k
    exact h day lo hi second rfl

/-- The counters of a port that has received a TIME frame of these bytes. -/
abbrev PortCounters.afterTime (c : PortCounters) (data : List Byte) : PortCounters :=
  if data.length = 4 then c else { c with malformed := satInc c.malformed }

/-- A TIME frame between `s` and `t`: it is taken, ignored or malformed, and of the lines it is counted alone. -/
structure State.TimeJudged (data : List Byte) (s t : State) : Prop where
  frame : t = { s with dayClock := t.dayClock, minuteTimer := t.minuteTimer, counters := t.counters, trunk := t.trunk }
  queue : t.trunk.queue = s.trunk.queue
  heard : s.trunk.HeardOnly t.trunk (s.trunk.counters.afterTime data)
  taken : ∀ v, timePayload? data = some v → v.InRange → t.dayClock = some ⟨v.day, v.minute⟩
    ∧ t.minuteTimer = 4 * (60 - v.second) ∧ t.counters = s.counters
  ignored : ∀ v, timePayload? data = some v → ¬v.InRange → t.dayClock = s.dayClock ∧ t.minuteTimer = s.minuteTimer
    ∧ t.counters = { s.counters with ignoredTime := satInc s.counters.ignoredTime }
  malformed : timePayload? data = none → t.dayClock = s.dayClock ∧ t.minuteTimer = s.minuteTimer
    ∧ t.counters = s.counters

theorem PortCounters.afterTime_of_some {c : PortCounters} (h : timePayload? data = some v) : c.afterTime data = c :=
  if_pos (not_not.1 fun k => by cases h.symm.trans (timePayload?_eq_none_iff.2 k))

theorem PortCounters.afterTime_of_none {c : PortCounters} (h : timePayload? data = none) :
    c.afterTime data = { c with malformed := satInc c.malformed } :=
  if_neg (timePayload?_eq_none_iff.1 h)

theorem State.receiveTime_judged (s : State) (hd : Header) (data : List Byte) :
    State.TimeJudged data s (s.receiveTime (hd.frame kindTime data)) := by
  have hdata : (hd.frame kindTime data).data = data := rfl
  unfold State.receiveTime
  rw [hdata]
  cases hv : timePayload? data with
  | none =>
    exact ⟨rfl, rfl, ⟨rfl, rfl, rfl, (PortCounters.afterTime_of_none hv).symm⟩, fun w hw => (by cases hv.symm.trans hw),
      fun w hw => (by cases hv.symm.trans hw), fun _ => ⟨rfl, rfl, rfl⟩⟩
  | some v =>
    have hcounters := (PortCounters.afterTime_of_some (c := s.trunk.counters) hv).symm
    by_cases hin : v.InRange
    · simp only [State.takeTime_of hin]
      exact ⟨rfl, rfl, ⟨rfl, rfl, rfl, hcounters⟩, fun w hw _ => by cases hv.symm.trans hw; exact ⟨rfl, rfl, rfl⟩,
        fun w hw hno => by cases hv.symm.trans hw; exact absurd hin hno,
        fun hno => by cases hv.symm.trans hno⟩
    · simp only [State.takeTime_of_not hin]
      exact ⟨rfl, rfl, ⟨rfl, rfl, rfl, hcounters⟩, fun w hw hyes => by cases hv.symm.trans hw; exact absurd hyes hin,
        fun w hw _ => by cases hv.symm.trans hw; exact ⟨rfl, rfl, rfl⟩,
        fun hno => by cases hv.symm.trans hno⟩

/-- The part forwards a TIME frame from the trunk (R134). -/
abbrev State.TimeGoesDown (s : State) (hd : Header) : Prop :=
  hd.dst ≠ s.active.node ∧ (hd.dst = 255 ∨ s.isKnownNode hd.dst = true)

/-- A TIME frame is judged whatever its destination, and then goes down by it (R134). -/
theorem State.trunkReceive_time :
    s.trunkReceive (hd.frame kindTime data) =
      if s.TimeGoesDown hd then (s.receiveTime (hd.frame kindTime data)).forwardDown (hd.frame kindTime data)
      else s.receiveTime (hd.frame kindTime data) := by
  have hframe := (s.receiveTime_judged hd data).frame
  have hdst : (hd.frame kindTime data).dst = hd.dst := rfl
  have hkind : (hd.frame kindTime data).kind = kindTime := rfl
  have hknown : (s.receiveTime (hd.frame kindTime data)).isKnownNode hd.dst = s.isKnownNode hd.dst := by
    rw [hframe]; rfl
  have hblocked (u : State) : u.blocked (hd.frame kindTime data) = false := by
    rw [State.blocked, hkind]; rfl
  have hpass : (s.receiveTime (hd.frame kindTime data)).passDown (hd.frame kindTime data) =
      if hd.dst = 255 ∨ s.isKnownNode hd.dst = true then
        (s.receiveTime (hd.frame kindTime data)).forwardDown (hd.frame kindTime data)
      else s.receiveTime (hd.frame kindTime data) := by
    rw [State.passDown, hdst, hknown, hblocked, if_neg Bool.false_ne_true]
  rw [State.trunkReceive, hdst, hkind, hpass, if_neg (by decide : ¬kindTime = kindMgmtReq),
    if_neg (by decide : ¬kindTime = kindPanel), if_pos rfl, if_pos rfl]
  by_cases hnode : hd.dst = s.active.node
  · rw [if_pos hnode, if_neg fun k : s.TimeGoesDown hd => k.1 hnode]
  · rw [if_neg hnode]
    exact if_congr (and_iff_right hnode).symm rfl rfl

/-- The end of an event in which a frame goes down or not. -/
theorem State.forwardDown_or_stay {down : Prop} [Decidable down] {f : Frame} (hdue : u.restartDue = false) :
    u.OnlyLines (if down then u.forwardDown f else u).finish
      ∧ (down → u.Downward (if down then u.forwardDown f else u).finish f u.trunk.counters)
      ∧ (¬down → u.QuietLines (if down then u.forwardDown f else u).finish) := by
  split
  · rename_i h
    obtain ⟨hdown, honly⟩ := State.forwardDown_finish (f := f) hdue
    exact ⟨honly, fun _ => hdown, fun hno => absurd h hno⟩
  · rename_i h
    obtain ⟨honly, hquiet⟩ := State.finish_quiet hdue
    exact ⟨honly, fun hyes => absurd hyes h, fun _ => hquiet⟩

/-- Settles O21: the frame is judged by its bytes, and meets the FIELD queue where it goes down. -/
theorem timeFrameSetsTheClock : Obligations.TimeFrameSetsTheClock := by
  unfold Obligations.TimeFrameSetsTheClock
  intro s hd data ⟨hworks, hon, hdue⟩
  have hjudged := (s.heard .trunk).receiveTime_judged hd data
  have hexec : exec (.time hd data) s = .next ((s.heard .trunk).trunkReceive (hd.frame kindTime data)).finish :=
    onFrame_of hworks hon
  rw [State.trunkReceive_time] at hexec
  generalize (s.heard .trunk).receiveTime (hd.frame kindTime data) = u at hjudged hexec
  obtain ⟨hframe, hqueue, hheard, htaken, hignored, hmalformed⟩ := hjudged
  have hdue' : u.restartDue = false :=
    (State.restartDue_congr (by rw [hframe]) hqueue).trans (State.heard_restartDue.trans hdue)
  have hfield : u.field = s.field := by rw [hframe]; rfl
  have hheard' : s.trunk.HeardOnly u.trunk (s.trunk.counters.heard.afterTime data) := hheard
  obtain ⟨-, -, -, hcount⟩ := id hheard'
  obtain ⟨honly, hdown, hstay⟩ :=
    State.forwardDown_or_stay (down := (s.heard .trunk).TimeGoesDown hd) (f := hd.frame kindTime data) hdue'
  generalize (if (s.heard .trunk).TimeGoesDown hd then u.forwardDown (hd.frame kindTime data) else u).finish = t
    at hexec honly hdown hstay
  have hday : t.dayClock = u.dayClock := by rw [honly]
  have hminute : t.minuteTimer = u.minuteTimer := by rw [honly]
  have hcounters : t.counters = u.counters := by rw [honly]
  refine ⟨t, hexec, ?_⟩
  dsimp only
  rw [hday, hminute, hcounters]
  refine ⟨?_, ?_, fun h => ?_, fun h => ?_, fun h => ?_⟩
  · rw [honly, hframe]
    rfl
  · rintro day lo hi second rfl
    exact ⟨htaken _ rfl, hignored _ rfl⟩
  · exact hmalformed (timePayload?_eq_none_iff.2 h)
  · have hwent := hdown h
    rw [hcount] at hwent
    exact hwent.of_heard hfield (by rw [hcount]; exact hheard')
  · obtain ⟨hqfield, hqtrunk⟩ := hstay h
    rw [hfield] at hqfield
    exact ⟨hqfield, hheard'.sameLine hqtrunk⟩

end
end Sys2Proof.Machine

namespace Sys2Proof.Machine

/-! ## Fields and their ranges (R138, R152, R156) -/

section
variable {code lo hi n : Nat} {v : Option Nat}

theorem within_of {φ : Type} {k : Nat → φ} (h : lo ≤ n) (h' : n ≤ hi) : within lo hi k (some n) = .ok (k n) :=
  if_pos ⟨h, h'⟩

theorem within_of_not {φ : Type} {k : Nat → φ} (h : n < lo ∨ hi < n) :
    within lo hi k (some n) = .error .outOfRange := if_neg (by omega)

/-! A code that an entry does not have is BAD_FIELD for reading and for writing alike. -/

theorem PointFields.set_of_get_none {f : PointFields} (h : f.get code = none) : f.set code v = .error .badField := by
  unfold PointFields.get at h
  split at h
  case h_26 => simp only [PointFields.set]
  all_goals cases h

theorem ZoneFields.set_of_get_none {f : ZoneFields} (h : f.get code = none) : f.set code v = .error .badField := by
  unfold ZoneFields.get at h
  split at h
  case h_20 => simp only [ZoneFields.set]
  all_goals cases h

theorem OutputFields.set_of_get_none {f : OutputFields} (h : f.get code = none) : f.set code v = .error .badField := by
  unfold OutputFields.get at h
  split at h
  case h_11 => simp only [OutputFields.set]
  all_goals cases h

theorem WindowFields.set_of_get_none {f : WindowFields} (h : f.get code = none) : f.set code v = .error .badField := by
  unfold WindowFields.get at h
  split at h
  case h_6 => simp only [WindowFields.set]
  all_goals cases h

theorem Response.set_of_get_none {r : Response} {l : Fin 5} (h : r.get l code = none) :
    r.set l code v = .error .badField := by
  unfold Response.get at h
  unfold Response.set
  split at h
  · cases h
  · split_ifs at h ⊢
    rfl
  · simp only

theorem DeviceRecord.set_of_get_none {f : DeviceRecord} (h : f.get code = none) : f.set code v = .error .badField := by
  unfold DeviceRecord.get at h
  split at h
  case h_6 => simp only [DeviceRecord.set]
  all_goals cases h

/-- A purge clock has the one field of code 1 (R184). -/
theorem PurgeClock.get_eq_none_iff {c : PurgeClock} : c.get code = none ↔ code ≠ 1 := by
  unfold PurgeClock.get
  split
  · exact iff_of_false nofun (not_not.2 rfl)
  · exact iff_of_true rfl ‹_›

theorem periodValue_of_ne (h : code ≠ 1) : periodValue code v = .error .badField := by
  unfold periodValue
  split
  · exact absurd rfl h
  · rfl

theorem ZoneDyn.stage_start (d : ZoneDyn) :
    d.stage 17 v = within 0 239 (fun n => { d with stagedStart := some n }) v := rfl

theorem ZoneDyn.stage_duration (d : ZoneDyn) :
    d.stage 18 v = within 1 240 (fun n => { d with stagedDuration := some n }) v := rfl

theorem ZoneDyn.stage_flow (d : ZoneDyn) :
    d.stage 19 v = within 0 anyValue (fun n => { d with stagedFlow := some n }) v := rfl

theorem ZoneDyn.stage_of_not {d : ZoneDyn} (h17 : code ≠ 17) (h18 : code ≠ 18) (h19 : code ≠ 19) :
    d.stage code v = .error .badField := by
  unfold ZoneDyn.stage
  split
  · exact absurd rfl h17
  · exact absurd rfl h18
  · exact absurd rfl h19
  · rfl

end

section
variable {φ : Type} {held : Option (Option Nat)} {presence : Byte} {k : Written φ}

/-- With a presence byte of 0 or 1 the write is decided by the field and its value. -/
theorem presenceChecked_of_le (h : presence.toNat ≤ 1) (hbad : held = none → k = .error .badField) :
    presenceChecked held.isSome presence k = k := by
  cases held with
  | none => exact (hbad rfl).symm
  | some x => exact if_neg (not_lt.2 h)

/-- A presence byte above 1 is OUT_OF_RANGE for a field that the entry has (R156, log entry 25). -/
theorem presenceChecked_of_gt (h : 1 < presence.toNat) (hheld : held ≠ none) :
    presenceChecked held.isSome presence k = .error .outOfRange := by
  obtain ⟨x, rfl⟩ := Option.ne_none_iff_exists'.1 hheld
  exact if_pos h

theorem presenceChecked_of_none (hheld : held = none) :
    presenceChecked held.isSome presence k = .error .badField := by
  rw [hheld]
  rfl

end

/-! ## Nodes (R139, R148) -/

section
variable {s t u : State} {src tag table index field presence : Byte} {value : BitVec 16} {old new : Option Byte}

@[simp] theorem State.heard_nodeRefused (p : PortId) (self : EntryRef) :
    (s.heard p).nodeRefused self old new = s.nodeRefused self old new := by cases p <;> rfl

theorem State.nodeRefused_iff {self : EntryRef} :
    s.nodeRefused self old new = true ↔ ∃ n, new = some n ∧ old ≠ some n ∧ s.nodeTaken self n = true := by
  unfold State.nodeRefused
  cases new with
  | none => exact iff_of_false Bool.false_ne_true nofun
  | some n =>
    rw [Bool.and_eq_true, bne_iff_ne]
    exact ⟨fun ⟨hne, htaken⟩ => ⟨n, rfl, hne.symm, htaken⟩, fun ⟨m, hm, hne, htaken⟩ => by
      cases hm; exact ⟨hne.symm, htaken⟩⟩

/-- A written node is refused where it is new to the point and in use (R139). -/
theorem State.nodeRefused_point_iff {i : Fin 64} :
    s.nodeRefused (.point i) old new = true ↔ ∃ n, new = some n ∧ old ≠ some n ∧ s.NodeInUse (some i) none n := by
  simp only [State.nodeRefused_iff, State.nodeTaken_point_iff]

theorem State.nodeRefused_output_iff {i : Fin 24} :
    s.nodeRefused (.output i) old new = true ↔ ∃ n, new = some n ∧ old ≠ some n ∧ s.NodeInUse none (some i) n := by
  simp only [State.nodeRefused_iff, State.nodeTaken_output_iff]

/-- A known field node is that of a point or an output entry that is not VACANT (R128). -/
theorem State.isKnownNode_iff {node : Byte} :
    s.isKnownNode node = true ↔ (∃ i, s.PointHasNode i node) ∨ ∃ i, s.OutputHasNode i node := by
  simp [State.isKnownNode, State.isPointNode, State.pointNode_iff, State.outputNode_iff]

/-! ## Staged periods (R72, R73) -/

/-- A period fits every zone bound to its clock (R73). -/
theorem State.periodFits_iff {j : Fin 2} {p : Nat} : s.periodFits j p = true ↔ s.PeriodFits j p := by
  unfold State.periodFits State.PeriodFits
  rw [List.all_eq_true]
  refine ⟨fun h z f d hz hj => ?_, fun h z _ => ?_⟩
  · have hall := h z (List.mem_finRange z)
    rw [hz] at hall
    simpa [hj, fits_iff] using hall
  · have hz := h z
    cases he : s.zones[z] with
    | vacant | draft f => rfl
    | inService f d =>
      by_cases hj : f.clock = some j
      · simpa [hj, fits_iff] using hz f d he hj
      · simp [hj]

theorem periodValue_of {n : Nat} (h : 5 ≤ n) (h' : n ≤ 240) : periodValue 1 (some n) = .ok n :=
  within_of (k := fun n => n) h h'

theorem periodValue_of_not {n : Nat} (h : n < 5 ∨ 240 < n) : periodValue 1 (some n) = .error .outOfRange :=
  within_of_not (k := fun n => n) h

/-- A period in range is staged where it fits (R73). -/
theorem State.tunePeriod_of {j : Fin 2} {n : Nat} (h : 5 ≤ n) (h' : n ≤ 240) :
    s.tunePeriod j 1 (some n) =
      if s.periodFits j n then .ok (s.setClock j { s.clocks[j] with staged := some n })
      else .error (.checkFailed .purgeRange) := by
  rw [State.tunePeriod, periodValue_of h h']

theorem State.tunePeriod_of_error {j : Fin 2} {code : Nat} {v : Option Nat} {e : ReplyCode}
    (h : periodValue code v = .error e) : s.tunePeriod j code v = .error e := by
  rw [State.tunePeriod, h]

/-! ## The entry of an ENTRY_SET (R152) -/

/-- The write of a field by the entry that the request names. -/
def State.writeField (s : State) (code : Nat) (value : BitVec 16) (presence : Byte) : EntryRef → Except ReplyCode State
  | .point i => s.setPointField i code value presence
  | .zone z => s.setZoneField z code value presence
  | .output i => s.setOutputField i code value presence
  | .window w => s.setWindowField w code value presence
  | .response l => s.setResponseField l code value presence
  | .clock j => s.setClockField j code value presence
  | .device => s.setDeviceField code value presence

theorem State.entrySet_of {r : EntryRef} (hs : s.saving = false) (he : entryRef table index = .ok r) :
    s.entrySet table index field value presence = s.writeField field.toNat value presence r := by
  rw [State.entrySet, he]
  dsimp only
  rw [hs, if_neg Bool.false_ne_true]
  cases r <;> rfl

theorem entryRef_point {i : Fin 64} (h : indexOf 64 index = some i) : entryRef 1 index = .ok (.point i) := by
  simp [entryRef, indexed, h]

theorem entryRef_zone {z : Fin 8} (h : indexOf 8 index = some z) : entryRef 2 index = .ok (.zone z) := by
  simp [entryRef, indexed, h]

theorem entryRef_output {i : Fin 24} (h : indexOf 24 index = some i) : entryRef 3 index = .ok (.output i) := by
  simp [entryRef, indexed, h]

theorem entryRef_window {w : Fin 8} (h : indexOf 8 index = some w) : entryRef 4 index = .ok (.window w) := by
  simp [entryRef, indexed, h]

theorem entryRef_clock {j : Fin 2} (h : indexOf 2 index = some j) : entryRef 6 index = .ok (.clock j) := by
  simp [entryRef, indexed, h]

theorem entryRef_device : entryRef 7 0 = .ok .device := rfl

/-- ENTRY_SET that is done. -/
theorem entrySet_done (hr : s.Ready)
    (h : (s.heard .trunk).entrySet table index field value presence = .ok (u.heard .trunk)) (htrunk : u.trunk = s.trunk)
    (hfield : u.field = s.field) (hact : u.active = s.active) (hpend : u.restartPending = s.restartPending) :
    s.Done (.entrySet src tag table index field value presence) src 2 tag [] u :=
  onRequest_changes (r := .entrySet table index field value presence) hr (by rw [State.decide, h]; rfl) htrunk hfield hact
    hpend

/-! ## Writing one field -/

theorem State.setPointField_of_draft {i : Fin 64} {f : PointFields} {code : Nat} (h : s.points[i] = .draft f) :
    s.setPointField i code value presence =
      (presenceChecked (f.get code).isSome presence (f.set code (setValue value presence))).bind fun f' =>
        if s.nodeRefused (.point i) f.node f'.node then .error (.checkFailed .nodeDuplicate)
        else .ok (s.setPoint i (.draft f')) := by
  rw [State.setPointField, h]
  dsimp only
  cases presenceChecked (f.get code).isSome presence (f.set code (setValue value presence)) <;> rfl

theorem State.setZoneField_of_draft {z : Fin 8} {f : ZoneFields} {code : Nat} (h : s.zones[z] = .draft f) :
    s.setZoneField z code value presence =
      (presenceChecked (f.get code).isSome presence (f.set code (setValue value presence))).bind fun f' =>
        .ok (s.setZone z (.draft f')) := by
  rw [State.setZoneField, h]
  dsimp only
  cases presenceChecked (f.get code).isSome presence (f.set code (setValue value presence)) <;> rfl

theorem State.setOutputField_of_draft {i : Fin 24} {f : OutputFields} {code : Nat} (h : s.outputs[i] = .draft f) :
    s.setOutputField i code value presence =
      (presenceChecked (f.get code).isSome presence (f.set code (setValue value presence))).bind fun f' =>
        if s.nodeRefused (.output i) f.node f'.node then .error (.checkFailed .nodeDuplicate)
        else .ok (s.setOutput i (.draft f')) := by
  rw [State.setOutputField, h]
  dsimp only
  cases presenceChecked (f.get code).isSome presence (f.set code (setValue value presence)) <;> rfl

theorem State.setWindowField_of_draft {w : Fin 8} {f : WindowFields} {code : Nat} (h : s.windows[w] = .draft f) :
    s.setWindowField w code value presence =
      (presenceChecked (f.get code).isSome presence (f.set code (setValue value presence))).bind fun f' =>
        .ok (s.setWindow w (.draft f')) := by
  rw [State.setWindowField, h]
  dsimp only
  cases presenceChecked (f.get code).isSome presence (f.set code (setValue value presence)) <;> rfl

theorem State.setResponseField_of_calm {l : Fin 5} {code : Nat} (h : s.fireState = false) :
    s.setResponseField l code value presence =
      (presenceChecked (s.response.get l code).isSome presence (s.response.set l code (setValue value presence))).bind
        fun r => .ok (s.setResponse r) := by
  rw [State.setResponseField, h, if_neg Bool.false_ne_true]
  cases presenceChecked (s.response.get l code).isSome presence (s.response.set l code (setValue value presence)) <;> rfl

theorem State.setClockField_eq {j : Fin 2} {code : Nat} :
    s.setClockField j code value presence =
      (presenceChecked (s.clocks[j].get code).isSome presence (s.tunePeriod j code (setValue value presence))).bind .ok := by
  rw [State.setClockField]
  cases presenceChecked (s.clocks[j].get code).isSome presence (s.tunePeriod j code (setValue value presence)) <;> rfl

theorem State.setDeviceField_eq {code : Nat} :
    s.setDeviceField code value presence =
      (presenceChecked (s.pendingRecord.get code).isSome presence
        (s.pendingRecord.set code (setValue value presence))).bind fun r =>
          if code = 1 ∧ s.isKnownNode r.node then .error (.checkFailed .nodeDuplicate) else .ok (s.setPendingRecord r) := by
  rw [State.setDeviceField]
  cases presenceChecked (s.pendingRecord.get code).isSome presence
    (s.pendingRecord.set code (setValue value presence)) <;> rfl

/-! An entry of tables 1 to 4 that is not in DRAFT is not written. -/

theorem State.setPointField_of_not {i : Fin 64} {code : Nat} (h : ∀ f, s.points[i] ≠ .draft f) :
    s.setPointField i code value presence = .error .state := by
  unfold State.setPointField
  split
  · exact absurd ‹_› (h _)
  · rfl

theorem State.setZoneField_of_not {z : Fin 8} {code : Nat} (h : ∀ f, s.zones[z] ≠ .draft f) :
    s.setZoneField z code value presence = .error .state := by
  unfold State.setZoneField
  split
  · exact absurd ‹_› (h _)
  · rfl

theorem State.setOutputField_of_not {i : Fin 24} {code : Nat} (h : ∀ f, s.outputs[i] ≠ .draft f) :
    s.setOutputField i code value presence = .error .state := by
  unfold State.setOutputField
  split
  · exact absurd ‹_› (h _)
  · rfl

theorem State.setWindowField_of_not {w : Fin 8} {code : Nat} (h : ∀ f, s.windows[w] ≠ .draft f) :
    s.setWindowField w code value presence = .error .state := by
  unfold State.setWindowField
  split
  · exact absurd ‹_› (h _)
  · rfl

/-! ## ENTRY_SET as a request -/

section
variable {φ : Type} {held : Option (Option Nat)} {k : Written φ} {accept : φ → Except ReplyCode State}

/-- A write under a presence byte of 0 or 1: the refusal of the field, or what its new fields are accepted as. -/
theorem entrySet_written (hr : s.Ready) (hle : presence.toNat ≤ 1) (hbad : held = none → k = .error .badField)
    (h : (s.heard .trunk).entrySet table index field value presence = (presenceChecked held.isSome presence k).bind accept) :
    (∀ x, k = .ok x → (s.heard .trunk).entrySet table index field value presence = accept x)
      ∧ ∀ c, k = .error c → s.Refuses (.entrySet src tag table index field value presence) src 2 tag c := by
  rw [presenceChecked_of_le hle hbad] at h
  refine ⟨fun x hx => ?_, fun c hc => entrySet_refused hr ?_⟩
  · rw [h, hx]; rfl
  · rw [h, hc]; rfl

/-- A write under a presence byte above 1 is refused, by whether the entry has the field (R156). -/
theorem entrySet_judged (hr : s.Ready) (hgt : 1 < presence.toNat)
    (h : (s.heard .trunk).entrySet table index field value presence = (presenceChecked held.isSome presence k).bind accept) :
    (held ≠ none → s.Refuses (.entrySet src tag table index field value presence) src 2 tag .outOfRange)
      ∧ (held = none → s.Refuses (.entrySet src tag table index field value presence) src 2 tag .badField) := by
  refine ⟨fun hheld => entrySet_refused hr ?_, fun hheld => entrySet_refused hr ?_⟩
  · rw [h, presenceChecked_of_gt hgt hheld]; rfl
  · rw [h, presenceChecked_of_none hheld]; rfl

/-- A write that one more check accepts or refuses. -/
theorem entrySet_checked {failed p : Prop} [Decidable failed] {c : ReplyCode} (hr : s.Ready) (hp : failed ↔ p)
    (h : (s.heard .trunk).entrySet table index field value presence = if failed then .error c else .ok (u.heard .trunk))
    (htrunk : u.trunk = s.trunk) (hfield : u.field = s.field) (hact : u.active = s.active)
    (hpend : u.restartPending = s.restartPending) :
    (¬p → s.Done (.entrySet src tag table index field value presence) src 2 tag [] u)
      ∧ (p → s.Refuses (.entrySet src tag table index field value presence) src 2 tag c) :=
  ⟨fun k => entrySet_done hr (h.trans (if_neg fun e => k (hp.1 e))) htrunk hfield hact hpend,
    fun k => entrySet_refused hr (h.trans (if_pos (hp.2 k)))⟩

end

/-- Settles O42: each table's write by its field, under a presence byte of 0 or 1 and above, and what takes none. -/
theorem entrySetWritesOneField : Obligations.EntrySetWritesOneField := by
  unfold Obligations.EntrySetWritesOneField
  intro s src tag index field value presence hr hs
  have hs' : (s.heard .trunk).saving = false := hs
  have hset {table : Byte} {r : EntryRef} (he : entryRef table index = .ok r) :
      (s.heard .trunk).entrySet table index field value presence =
        (s.heard .trunk).writeField field.toNat value presence r := State.entrySet_of hs' he
  have hpoint {i f} (hi : indexOf 64 index = some i) (hp : s.points[i] = .draft f) :=
    (hset (entryRef_point hi)).trans (State.setPointField_of_draft (s := s.heard .trunk) hp)
  have hzone {z f} (hi : indexOf 8 index = some z) (hp : s.zones[z] = .draft f) :=
    (hset (entryRef_zone hi)).trans (State.setZoneField_of_draft (s := s.heard .trunk) hp)
  have houtput {i f} (hi : indexOf 24 index = some i) (hp : s.outputs[i] = .draft f) :=
    (hset (entryRef_output hi)).trans (State.setOutputField_of_draft (s := s.heard .trunk) hp)
  have hwindow {w f} (hi : indexOf 8 index = some w) (hp : s.windows[w] = .draft f) :=
    (hset (entryRef_window hi)).trans (State.setWindowField_of_draft (s := s.heard .trunk) hp)
  have hresponse {l : Fin 5} (hl : index.toNat = l.val + 1) (hcalm : ∀ z, ¬s.ZoneInFire z) :=
    (hset (entryRef_response hl)).trans (State.setResponseField_of_calm (s := s.heard .trunk)
      (Bool.eq_false_iff.2 fun hfire => (not_exists.2 hcalm) (State.fireState_iff.1 hfire)))
  have hclock {j} (hi : indexOf 2 index = some j) :=
    (hset (entryRef_clock hi)).trans (State.setClockField_eq (s := s.heard .trunk))
  have hdevice (hi : index = 0) :=
    (hset (table := 7) (r := .device) (by rw [hi]; rfl)).trans (State.setDeviceField_eq (s := s.heard .trunk))
  refine ⟨fun hle => ⟨fun i f hi hp => ?_, fun z f hi hp => ?_, fun i f hi hp => ?_, fun w f hi hp => ?_,
    fun l hl hcalm => ?_, fun j hi h1 => ?_, fun hi => ?_⟩, fun i hi hno => ?_, fun z hi hno => ?_, fun i hi hno => ?_,
    fun w hi hno => ?_, fun j hi hne => ?_, fun hgt => ⟨fun i f hi hp => ?_, fun z f hi hp => ?_, fun i f hi hp => ?_,
    fun w f hi hp => ?_, fun l hl hcalm => ?_, fun j hi h1 => ?_, fun hi => ?_⟩⟩
  · obtain ⟨hdone, hbad⟩ := entrySet_written (src := src) (tag := tag) hr hle PointFields.set_of_get_none (hpoint hi hp)
    refine ⟨fun f' hf' => entrySet_checked hr State.nodeRefused_point_iff ?_ rfl rfl rfl rfl, hbad⟩
    rw [hdone f' hf', State.heard_nodeRefused]
    rfl
  · obtain ⟨hdone, hbad⟩ := entrySet_written (src := src) (tag := tag) hr hle ZoneFields.set_of_get_none (hzone hi hp)
    exact ⟨fun f' hf' => entrySet_done hr (hdone f' hf') rfl rfl rfl rfl, hbad⟩
  · obtain ⟨hdone, hbad⟩ := entrySet_written (src := src) (tag := tag) hr hle OutputFields.set_of_get_none (houtput hi hp)
    refine ⟨fun f' hf' => entrySet_checked hr State.nodeRefused_output_iff ?_ rfl rfl rfl rfl, hbad⟩
    rw [hdone f' hf', State.heard_nodeRefused]
    rfl
  · obtain ⟨hdone, hbad⟩ := entrySet_written (src := src) (tag := tag) hr hle WindowFields.set_of_get_none (hwindow hi hp)
    exact ⟨fun f' hf' => entrySet_done hr (hdone f' hf') rfl rfl rfl rfl, hbad⟩
  · obtain ⟨hdone, hbad⟩ := entrySet_written (src := src) (tag := tag) hr hle Response.set_of_get_none (hresponse hl hcalm)
    exact ⟨fun f' hf' => entrySet_done hr (hdone f' hf') rfl rfl rfl rfl, hbad⟩
  · subst h1
    obtain ⟨hdone, hbad⟩ := entrySet_written (src := src) (tag := tag) hr hle
      (fun h => absurd rfl (PurgeClock.get_eq_none_iff.1 h)) (hclock hi)
    have htune {v : Option Nat} {x : Except ReplyCode State} (hv : setValue value presence = v)
        (h : (s.heard .trunk).tunePeriod j 1 v = x) :
        (s.heard .trunk).tunePeriod j 1 (setValue value presence) = x := hv ▸ h
    refine ⟨fun n hn h5 h240 => ⟨fun hfits => ?_, fun hno => ?_⟩, fun n hn hout => ?_, fun hnone => ?_⟩
    · have hfits' : (s.heard .trunk).periodFits j n = true := State.periodFits_iff.2 hfits
      exact entrySet_done hr (hdone _ (htune hn ((State.tunePeriod_of h5 h240).trans (if_pos hfits')))) rfl rfl rfl rfl
    · have hno' : ¬(s.heard .trunk).periodFits j n = true := mt State.periodFits_iff.1 hno
      exact hbad _ (htune hn ((State.tunePeriod_of h5 h240).trans (if_neg hno')))
    · exact hbad _ (htune hn (State.tunePeriod_of_error (periodValue_of_not hout)))
    · exact hbad _ (htune hnone (State.tunePeriod_of_error rfl))
  · obtain ⟨hdone, hbad⟩ := entrySet_written (src := src) (tag := tag) hr hle DeviceRecord.set_of_get_none (hdevice hi)
    have hcode : field.toNat = 1 ↔ field = 1 := BitVec.toNat_inj (y := 1#8)
    exact ⟨fun r' hr' => entrySet_checked hr (and_congr hcode State.isKnownNode_iff) (hdone r' hr') rfl rfl rfl rfl, hbad⟩
  · exact entrySet_refused hr ((hset (entryRef_point hi)).trans (State.setPointField_of_not hno))
  · exact entrySet_refused hr ((hset (entryRef_zone hi)).trans (State.setZoneField_of_not hno))
  · exact entrySet_refused hr ((hset (entryRef_output hi)).trans (State.setOutputField_of_not hno))
  · exact entrySet_refused hr ((hset (entryRef_window hi)).trans (State.setWindowField_of_not hno))
  · have hnone : (s.heard .trunk).clocks[j].get field.toNat = none :=
      PurgeClock.get_eq_none_iff.2 fun e => hne (BitVec.eq_of_toNat_eq e)
    exact entrySet_refused hr ((hclock hi).trans (congrArg (Except.bind · .ok) (presenceChecked_of_none hnone)))
  · exact entrySet_judged hr hgt (hpoint hi hp)
  · exact entrySet_judged hr hgt (hzone hi hp)
  · exact entrySet_judged hr hgt (houtput hi hp)
  · exact entrySet_judged hr hgt (hwindow hi hp)
  · exact entrySet_judged hr hgt (hresponse hl hcalm)
  · subst h1
    exact (entrySet_judged hr hgt (hclock hi)).1 nofun
  · exact entrySet_judged hr hgt (hdevice hi)

/-! ## ENTRY_TUNE (R72, R73, R152) -/

theorem State.entryTune_zone {z : Fin 8} (hs : s.saving = false) (hi : indexOf 8 index = some z) :
    s.entryTune 2 index field value = s.tuneZone z field.toNat (some value.toNat) := by
  have he : tuneRef 2 index = .ok (.zone z) := (if_pos (.inl rfl)).trans (entryRef_zone hi)
  rw [State.entryTune, he]
  dsimp only
  rw [hs, if_neg Bool.false_ne_true]

theorem State.entryTune_clock {j : Fin 2} (hs : s.saving = false) (hi : indexOf 2 index = some j) :
    s.entryTune 6 index field value = s.tunePeriod j field.toNat (some value.toNat) := by
  have he : tuneRef 6 index = .ok (.clock j) := (if_pos (.inr rfl)).trans (entryRef_clock hi)
  rw [State.entryTune, he]
  dsimp only
  rw [hs, if_neg Bool.false_ne_true]

/-- ENTRY_TUNE that is refused. -/
theorem entryTune_refused {c : ReplyCode} (hr : s.Ready)
    (h : (s.heard .trunk).entryTune table index field value = .error c) :
    s.Refuses (.entryTune src tag table index field value) src 7 tag c :=
  onRequest_refused (r := .entryTune table index field value) hr (by rw [State.decide, h]; rfl)

/-- ENTRY_TUNE of a value in range: staged where the values fit, and otherwise PURGE_RANGE (R73). -/
theorem entryTune_stages {fit p : Prop} [Decidable fit] (hr : s.Ready) (hp : fit ↔ p)
    (h : (s.heard .trunk).entryTune table index field value =
      if fit then .ok (u.heard .trunk) else .error (.checkFailed .purgeRange))
    (htrunk : u.trunk = s.trunk) (hfield : u.field = s.field) (hact : u.active = s.active)
    (hpend : u.restartPending = s.restartPending) :
    (p → s.Done (.entryTune src tag table index field value) src 7 tag [] u)
      ∧ (¬p → s.Refuses (.entryTune src tag table index field value) src 7 tag (.checkFailed .purgeRange)) := by
  refine ⟨fun k => ?_, fun k => entryTune_refused hr (h.trans (if_neg (mt hp.1 k)))⟩
  exact onRequest_changes (r := .entryTune table index field value) hr
    (by rw [State.decide, h, if_pos (hp.2 k)]; rfl) htrunk hfield hact hpend

section
variable {z : Fin 8} {f : ZoneFields} {d d' : ZoneDyn} {j : Fin 2} {code : Nat} {v : Option Nat}

theorem State.tuneZone_of_unbound (hz : s.zones[z] = .inService f d) (hj : f.clock = none) :
    s.tuneZone z code v = .error .state := by
  rw [State.tuneZone, hz]
  dsimp only
  rw [hj]

theorem State.tuneZone_of_not (hz : s.zones[z].isInService = false) : s.tuneZone z code v = .error .state := by
  unfold State.tuneZone
  split
  · rename_i h; rw [h] at hz; cases hz
  · rfl

/-- A purge value that is staged is judged with the other one against the period after the next wrap (R73, log entry 21). -/
theorem State.tuneZone_of_staged (hz : s.zones[z] = .inService f d) (hj : f.clock = some j)
    (hd : d.stage code v = .ok d') :
    s.tuneZone z code v =
      if fits (d'.stagedStart.getD f.purgeStart) (d'.stagedDuration.getD f.purgeDuration) s.clocks[j].next then
        .ok (s.setZone z (.inService f d'))
      else .error (.checkFailed .purgeRange) := by
  rw [State.tuneZone, hz]
  dsimp only
  rw [hj]
  dsimp only
  rw [hd]

theorem State.tuneZone_of_refused {c : ReplyCode} (hz : s.zones[z] = .inService f d) (hj : f.clock = some j)
    (hd : d.stage code v = .error c) : s.tuneZone z code v = .error c := by
  rw [State.tuneZone, hz]
  dsimp only
  rw [hj]
  dsimp only
  rw [hd]

end

/-- Settles O47: the zone by its clock and the value that is tuned, and the period by the zones that it must fit. -/
theorem tunesAreStaged : Obligations.TunesAreStaged := by
  unfold Obligations.TunesAreStaged
  intro s src tag index field value hr hs
  have hs' : (s.heard .trunk).saving = false := hs
  refine ⟨fun z f d hi hz => ?_, fun z hi hz => ?_, fun j hi => ?_⟩
  · have hz' : (s.heard .trunk).zones[z] = .inService f d := hz
    have htune := State.entryTune_zone (field := field) (value := value) hs' hi
    refine ⟨fun hj => entryTune_refused hr (htune.trans (State.tuneZone_of_unbound hz' hj)), fun j hj => ?_⟩
    have staged {d' : ZoneDyn} (hd : d.stage field.toNat (some value.toNat) = .ok d') :=
      entryTune_stages (src := src) (tag := tag) (u := s.setZone z (.inService f d')) hr fits_iff
        (htune.trans (State.tuneZone_of_staged hz' hj hd)) rfl rfl rfl rfl
    have refused {c : ReplyCode} (hd : d.stage field.toNat (some value.toNat) = .error c) :=
      entryTune_refused (src := src) (tag := tag) hr (htune.trans (State.tuneZone_of_refused hz' hj hd))
    refine ⟨fun h hn => ?_, fun h hn hn' => ?_, fun h => ?_, fun h => ?_, fun h => ?_⟩
    · subst h
      exact staged (d.stage_start.trans (within_of (Nat.zero_le _) hn))
    · subst h
      exact staged (d.stage_duration.trans (within_of hn hn'))
    · subst h
      exact staged (d.stage_flow.trans (within_of (Nat.zero_le _) (Nat.le_of_lt_succ value.isLt)))
    · rcases h with ⟨rfl, hn⟩ | ⟨rfl, hn⟩
      · exact refused (d.stage_start.trans (within_of_not (.inr hn)))
      · exact refused (d.stage_duration.trans (within_of_not (hn.imp_left Nat.lt_one_iff.2)))
    · simp only [List.mem_cons, List.not_mem_nil, or_false, not_or] at h
      obtain ⟨h17, h18, h19⟩ := h
      exact refused (ZoneDyn.stage_of_not (fun e => h17 (BitVec.eq_of_toNat_eq e))
        (fun e => h18 (BitVec.eq_of_toNat_eq e)) fun e => h19 (BitVec.eq_of_toNat_eq e))
  · exact entryTune_refused hr ((State.entryTune_zone hs' hi).trans (State.tuneZone_of_not hz))
  · have htune := State.entryTune_clock (field := field) (value := value) hs' hi
    refine ⟨fun h hn hn' => ?_, fun h hn => ?_, fun h => ?_⟩
    · subst h
      exact entryTune_stages hr State.periodFits_iff (htune.trans (State.tunePeriod_of hn hn')) rfl rfl rfl rfl
    · subst h
      exact entryTune_refused hr (htune.trans (State.tunePeriod_of_error (periodValue_of_not hn)))
    · exact entryTune_refused hr (htune.trans (State.tunePeriod_of_error
        (periodValue_of_ne fun e => h (BitVec.eq_of_toNat_eq e))))

end
end Sys2Proof.Machine

namespace Sys2Proof.Machine

/-! ## The bounds of the queues, by what their frames are (R91, R125, R165) -/

/-- What each frame of the queue is, oldest first. -/
def Port.origins (p : Port) : List Origin := p.queue.map QEntry.origin

/-- The bounds of the TRUNK queue, with at most `n` frames that are a RESTART's reply. -/
structure TrunkBounded (n : Nat) (l : List Origin) : Prop where
  length : l.length ≤ trunkRoom
  kinds : ∀ o ∈ l, ∀ i, o.isDriveOf i = false
  restart : l.count .restartReply ≤ n

/-- The bounds of the FIELD queue. -/
structure FieldBounded (l : List Origin) : Prop where
  kinds : ∀ o ∈ l, o = .forwarded ∨ ∃ i, o.isDriveOf i = true
  forwarded : l.count .forwarded ≤ fieldForwardedRoom
  drives : ∀ i, l.countP (·.isDriveOf i) ≤ 1

section
variable {l m : List Origin} {n : Nat} {i : Fin 24} {run : Bool}

/-- A count over the frames of a queue is a count over what they are. -/
theorem length_filter_origin (g : Origin → Bool) (q : List QEntry) :
    (q.filter fun e => g e.origin).length = (q.map QEntry.origin).countP g := by
  rw [List.countP_map, List.countP_eq_length_filter]
  rfl

theorem QEntry.isDrive_iff {e : QEntry} : e.isDrive = true ↔ ∃ i, e.origin.isDriveOf i = true := by
  unfold QEntry.isDrive
  cases e.origin <;> simp [Origin.isDriveOf]

theorem Origin.isDriveOf_iff {o : Origin} : o.isDriveOf i = true ↔ ∃ run, o = .drive i run := by
  cases o <;> simp [Origin.isDriveOf]

theorem Origin.isDriveOf_drive {j : Fin 24} : (Origin.drive i run).isDriveOf j = true ↔ i = j := by
  simp [Origin.isDriveOf]

/-- A DRIVE is of one output. -/
theorem Origin.isDriveOf_of {o : Origin} {j : Fin 24} (h : o.isDriveOf i = true) : o.isDriveOf j = true ↔ i = j := by
  cases o <;> simp_all [Origin.isDriveOf]

/-- The bounds of a TRUNK queue, in the words of the claims. -/
theorem trunkBounded_iff {q : List QEntry} : TrunkBounded n (q.map QEntry.origin) ↔
    q.length ≤ trunkRoom ∧ (∀ e ∈ q, e.isDrive = false)
      ∧ (q.filter fun e => e.origin == .restartReply).length ≤ n := by
  have hkinds : (∀ o ∈ q.map QEntry.origin, ∀ i, o.isDriveOf i = false) ↔ ∀ e ∈ q, e.isDrive = false := by
    simp only [List.forall_mem_map, ← Bool.not_eq_true, QEntry.isDrive_iff, not_exists]
  rw [length_filter_origin (· == .restartReply), ← hkinds]
  exact ⟨fun h => ⟨by simpa using h.length, h.kinds, h.restart⟩, fun ⟨h, k, l⟩ => ⟨by simpa using h, k, l⟩⟩

/-- The bounds of a FIELD queue, in the words of the claims. -/
theorem fieldBounded_iff {q : List QEntry} : FieldBounded (q.map QEntry.origin) ↔
    (∀ e ∈ q, e.isForwarded = true ∨ e.isDrive = true) ∧ (q.filter QEntry.isForwarded).length ≤ fieldForwardedRoom
      ∧ ∀ i : Fin 24, (q.filter (·.isDriveOf i)).length ≤ 1 := by
  have hkinds : (∀ o ∈ q.map QEntry.origin, o = .forwarded ∨ ∃ i, o.isDriveOf i = true)
      ↔ ∀ e ∈ q, e.isForwarded = true ∨ e.isDrive = true := by
    simp only [List.forall_mem_map, QEntry.isForwarded, beq_iff_eq, QEntry.isDrive_iff]
  have hforwarded := length_filter_origin (· == .forwarded) q
  have hdrives (i : Fin 24) := length_filter_origin (·.isDriveOf i) q
  rw [← hkinds]
  constructor
  · exact fun h => ⟨h.kinds, hforwarded.trans_le h.forwarded, fun i => (hdrives i).trans_le (h.drives i)⟩
  · exact fun ⟨h, k, l⟩ => ⟨h, hforwarded.symm.trans_le k, fun i => (hdrives i).symm.trans_le (l i)⟩

theorem TrunkBounded.sublist (h : TrunkBounded n l) (hm : m.Sublist l) : TrunkBounded n m where
  length := hm.length_le.trans h.length
  kinds o ho := h.kinds o (hm.subset ho)
  restart := (hm.count_le _).trans h.restart

theorem FieldBounded.sublist (h : FieldBounded l) (hm : m.Sublist l) : FieldBounded m where
  kinds o ho := h.kinds o (hm.subset ho)
  forwarded := (hm.count_le _).trans h.forwarded
  drives i := hm.countP_le.trans (h.drives i)

/-- A forwarded frame or a reply is added to a TRUNK queue with room. -/
theorem TrunkBounded.concat {o : Origin} (h : TrunkBounded n l) (hroom : l.length < trunkRoom)
    (ho : ∀ i, o.isDriveOf i = false) : TrunkBounded (n + (o == .restartReply).toNat) (l ++ [o]) where
  length := by rw [List.length_append]; exact hroom
  kinds x hx := by
    rcases List.mem_append.1 hx with hx | hx
    · exact h.kinds x hx
    · rwa [List.mem_singleton.1 hx]
  restart := by
    rw [List.count_append, List.count_singleton]
    exact Nat.add_le_add h.restart (by cases o == .restartReply <;> simp)

/-- A forwarded frame is added to a FIELD queue with room for it. -/
theorem FieldBounded.concat_forwarded (h : FieldBounded l) (hroom : l.count .forwarded < fieldForwardedRoom) :
    FieldBounded (l ++ [.forwarded]) where
  kinds x hx := by
    rcases List.mem_append.1 hx with hx | hx
    · exact h.kinds x hx
    · exact .inl (List.mem_singleton.1 hx)
  forwarded := by rw [List.count_append]; exact hroom
  drives i := by rw [List.countP_append]; exact h.drives i

/-- The DRIVE of an output is added to a FIELD queue that has none of it. -/
theorem FieldBounded.concat_drive (h : FieldBounded l) (hno : l.countP (·.isDriveOf i) = 0) :
    FieldBounded (l ++ [.drive i run]) where
  kinds x hx := by
    rcases List.mem_append.1 hx with hx | hx
    · exact h.kinds x hx
    · exact .inr ⟨i, by rw [List.mem_singleton.1 hx]; simp [Origin.isDriveOf]⟩
  forwarded := by rw [List.count_append]; exact h.forwarded
  drives j := by
    rw [List.countP_append, List.countP_singleton]
    by_cases hj : i = j
    · subst hj
      rw [hno]
      split <;> simp
    · simpa [Origin.isDriveOf, hj] using h.drives j

/-- A run DRIVE that takes the place of a stop DRIVE of its output, or the reverse, is counted as that one was. -/
theorem FieldBounded.replace_drive (h : FieldBounded l) :
    FieldBounded (l.map fun o => if o.isDriveOf i then .drive i run else o) where
  kinds x hx := by
    obtain ⟨o, ho, rfl⟩ := List.mem_map.1 hx
    split
    · exact .inr ⟨i, by simp [Origin.isDriveOf]⟩
    · exact h.kinds o ho
  forwarded := by
    refine le_of_eq_of_le ?_ h.forwarded
    rw [List.count, List.countP_map]
    refine List.countP_congr fun o _ => ?_
    dsimp only [Function.comp]
    split
    · rename_i ho; cases o <;> simp_all [Origin.isDriveOf]
    · rfl
  drives j := by
    refine le_of_eq_of_le ?_ (h.drives j)
    rw [List.countP_map]
    refine List.countP_congr fun o _ => ?_
    dsimp only [Function.comp]
    split
    · rename_i ho; rw [Origin.isDriveOf_drive, Origin.isDriveOf_of ho]
    · rfl

end

/-! ## The transmitter of a port (R122, R123) -/

/-- Between `p` and `q` no further frame came on offer, and none failed. -/
structure Port.Calmer (p q : Port) : Prop where
  on : q.on = p.on
  recovery : q.recovery.isSome = p.recovery.isSome
  report : q.report.map ReportOffer.failures = p.report.map ReportOffer.failures
  offered : (q.queue.filter QEntry.onOffer).Sublist (p.queue.filter QEntry.onOffer)

section
variable {p q : Port} {e : QEntry} {r : ReportOffer} {full : Bool} {looked : QEntry → Bool}

theorem Port.failures_of_report (h : p.report = some r) : p.failures = r.failures := by
  rw [Port.failures, h]

theorem Port.failures_of_queue (h : p.report = none) :
    p.failures = ((p.queue.filter QEntry.onOffer).head?.bind QEntry.attempt).getD 0 := by
  rw [Port.failures, h, List.head?_filter]

theorem Port.Calmer.refl (p : Port) : p.Calmer p := ⟨rfl, rfl, rfl, .refl _⟩

theorem Port.Calmer.reported (h : p.Calmer q) : q.report.isSome = p.report.isSome := by
  rw [← Option.isSome_map (f := ReportOffer.failures), h.report, Option.isSome_map]

theorem Port.Calmer.offers_le (h : p.Calmer q) : q.offers ≤ p.offers := by
  unfold Port.offers
  rw [h.reported]
  exact Nat.add_le_add_right h.offered.length_le _

theorem Port.Calmer.failures_le (h : p.Calmer q) (hone : p.offers ≤ 1) : q.failures ≤ p.failures := by
  have hreport := h.report
  cases hp : p.report with
  | some r =>
    rw [hp] at hreport
    obtain ⟨x, hx, hfail⟩ := Option.map_eq_some_iff.1 hreport
    rw [Port.failures_of_report hx, Port.failures_of_report hp, hfail]
  | none =>
    rw [hp] at hreport
    rw [Port.failures_of_queue hp, Port.failures_of_queue (Option.map_eq_none_iff.1 hreport)]
    have hlen : (p.queue.filter QEntry.onOffer).length ≤ 1 := (Nat.le_add_right _ _).trans hone
    cases hq : q.queue.filter QEntry.onOffer with
    | nil => exact Nat.zero_le _
    | cons x l => rw [← hq, h.offered.eq_of_length_le (by rw [hq, List.length_cons]; omega)]

/-- A transmitter that takes no further frame stays sound. -/
theorem Port.Calmer.sound (h : p.Calmer q) (hs : p.Sound) : q.Sound := by
  obtain ⟨hone, hfail, hoff, hrec⟩ := hs
  refine ⟨h.offers_le.trans hone, (h.failures_le hone).trans_lt hfail, fun k => ?_, ?_⟩
  · exact Nat.le_zero.1 (h.offers_le.trans_eq (hoff (h.on.symm.trans k)))
  · rw [h.recovery, hrec, h.on]

/-- A port with nothing on offer is sound when its recovery timer fits. -/
theorem Port.sound_of_idle (hreport : p.report = none) (hqueue : p.queue.filter QEntry.onOffer = [])
    (hrec : p.recovery.isSome = !p.on) : p.Sound := by
  have hoffers : p.offers = 0 := by rw [Port.offers, hqueue, hreport]; rfl
  have hfail : p.failures = 0 := by rw [Port.failures_of_queue hreport, hqueue]; rfl
  exact ⟨by omega, by rw [hfail]; decide, fun _ => hoffers, hrec⟩

theorem Port.withdrawOffer_sound (hs : p.Sound) : p.withdrawOffer.Sound := by
  refine Port.sound_of_idle rfl ?_ hs.2.2.2
  simp [Port.withdrawOffer]

/-! ## Joining a queue (R125, R127) -/

/-- What joining leaves of a queue: it is one frame longer, has lost one frame that was looked at for it, or is as it
was. -/
theorem Port.join_queue (p : Port) (full : Bool) (looked : QEntry → Bool) (e : QEntry) :
    (full = false ∧ (p.join full looked e).1.queue = p.queue ++ [e])
    ∨ (∃ pre x post, p.queue = pre ++ x :: post ∧ looked x = true ∧ (p.join full looked e).1.queue = pre ++ post ++ [e])
    ∨ (p.join full looked e).1.queue = p.queue := by
  rcases p.join_cases full looked e with ⟨hf, hj⟩ | ⟨-, hlt, hj⟩ | ⟨-, -, hj⟩ <;> rw [hj]
  · exact .inl ⟨hf, rfl⟩
  · obtain ⟨y, hy, hl, hworst⟩ := exists_leastUrgent hlt
    obtain ⟨pre, x, post, hq, hx, -, hrem⟩ := removeNewest_spec (q := p.queue)
      (p := fun x => looked x && x.frame.prio.toNat == leastUrgent looked p.queue) ⟨y, hy, by simp [hl, hworst]⟩
    exact .inr (.inl ⟨pre, x, post, hq, (Bool.and_eq_true_iff.1 hx).1, by rw [hrem]⟩)
  · exact .inr (.inr rfl)

theorem Port.join_rest (p : Port) (full : Bool) (looked : QEntry → Bool) (e : QEntry) :
    (p.join full looked e).1.on = p.on ∧ (p.join full looked e).1.report = p.report
      ∧ (p.join full looked e).1.recovery = p.recovery := by
  rcases p.join_cases full looked e with ⟨-, hj⟩ | ⟨-, -, hj⟩ | ⟨-, -, hj⟩ <;> rw [hj] <;> exact ⟨rfl, rfl, rfl⟩

/-- A frame that joins a queue is not yet on offer. -/
theorem Port.join_calmer (he : e.attempt = none) : p.Calmer (p.join full looked e).1 := by
  obtain ⟨hon, hreport, hrec⟩ := p.join_rest full looked e
  refine ⟨hon, by rw [hrec], by rw [hreport], ?_⟩
  have hoff : [e].filter QEntry.onOffer = [] := by simp [QEntry.onOffer, he]
  rcases p.join_queue full looked e with ⟨-, hq⟩ | ⟨pre, x, post, hp, -, hq⟩ | hq <;> rw [hq]
  · rw [List.filter_append, hoff, List.append_nil]
  · rw [List.filter_append, hoff, List.append_nil, hp]
    exact List.Sublist.filter _ ((List.sublist_cons_self x post).append_left pre)

/-- A frame that joins the TRUNK queue keeps its bounds (R125, R165). -/
theorem TrunkBounded.joinTrunk {n : Nat} (h : TrunkBounded n p.origins) (ho : ∀ i, e.origin.isDriveOf i = false) :
    TrunkBounded (n + (e.origin == .restartReply).toNat) (p.joinTrunk e).1.origins := by
  unfold Port.origins Port.joinTrunk at *
  rcases p.join_queue (decide (trunkRoom ≤ p.queue.length)) (fun _ => true) e with
    ⟨hf, hq⟩ | ⟨pre, x, post, hp, -, hq⟩ | hq <;> rw [hq]
  · rw [List.map_append]
    exact h.concat (by simpa using hf) ho
  · rw [hp] at h
    rw [List.map_append]
    refine TrunkBounded.concat (h.sublist ?_) ?_ ho
    · exact ((List.sublist_cons_self x post).append_left pre).map _
    · have hlen := h.length
      simp only [List.length_map, List.length_append, List.length_cons] at hlen ⊢
      omega
  · exact ⟨h.length, h.kinds, h.restart.trans (Nat.le_add_right _ _)⟩

/-- A forwarded frame that joins the FIELD queue keeps its bounds (R127). -/
theorem FieldBounded.joinField (h : FieldBounded p.origins) (ho : e.origin = .forwarded) :
    FieldBounded (p.joinField e).1.origins := by
  have hcount := length_filter_origin (· == .forwarded) p.queue
  unfold Port.origins Port.joinField at *
  rcases p.join_queue (decide (fieldForwardedRoom ≤ (p.queue.filter QEntry.isForwarded).length)) QEntry.isForwarded e
    with ⟨hf, hq⟩ | ⟨pre, x, post, hp, hx, hq⟩ | hq <;> rw [hq]
  · rw [List.map_append, List.map_singleton, ho]
    refine h.concat_forwarded ?_
    rw [List.count, ← hcount]
    exact Nat.lt_of_not_le (of_decide_eq_false hf)
  · rw [hp] at h
    rw [List.map_append, List.map_singleton, ho]
    refine FieldBounded.concat_forwarded (h.sublist ?_) ?_
    · exact ((List.sublist_cons_self x post).append_left pre).map _
    · have hlen := h.forwarded
      have hxo : x.origin = .forwarded := by simpa [QEntry.isForwarded] using hx
      simp only [List.map_append, List.map_cons, List.count_append, List.count_cons, hxo, beq_self_eq_true, if_true]
        at hlen ⊢
      omega
  · exact h

/-- What a queue holds once a DRIVE has joined it. -/
theorem origins_joinDrive {q : List QEntry} {i : Fin 24} {run : Bool} (he : e.origin = .drive i run) :
    (joinDrive q i e).map QEntry.origin =
      if (q.map QEntry.origin).countP (·.isDriveOf i) = 0 then q.map QEntry.origin ++ [.drive i run]
      else (q.map QEntry.origin).map fun o => if o.isDriveOf i then .drive i run else o := by
  have hany : q.any (·.isDriveOf i) = true ↔ (q.map QEntry.origin).countP (·.isDriveOf i) ≠ 0 := by
    rw [← Nat.pos_iff_ne_zero, List.countP_pos_iff, List.any_eq_true]
    simp only [List.mem_map, exists_exists_and_eq_and]
    rfl
  unfold joinDrive
  by_cases h : (q.map QEntry.origin).countP (·.isDriveOf i) = 0
  · rw [if_neg fun k => hany.1 k h, if_pos h, List.map_append, List.map_singleton, he]
  · rw [if_pos (hany.2 h), if_neg h, List.map_map, List.map_map]
    refine List.map_congr_left fun x _ => ?_
    change (if x.origin.isDriveOf i = true then e else x).origin = if x.origin.isDriveOf i = true then _ else x.origin
    split
    · exact he
    · rfl

/-- A DRIVE that joins the FIELD queue keeps its bounds (R91). -/
theorem FieldBounded.joinDrive {q : List QEntry} {i : Fin 24} {run : Bool} (h : FieldBounded (q.map QEntry.origin))
    (he : e.origin = .drive i run) : FieldBounded ((Machine.joinDrive q i e).map QEntry.origin) := by
  rw [origins_joinDrive he]
  split
  · rename_i hno; exact h.concat_drive hno
  · exact h.replace_drive

/-- What is on offer of a queue in which some frames make room for one that is not on offer. -/
theorem offered_replace {c : QEntry → Bool} (he : e.onOffer = false) (q : List QEntry) :
    ((q.map fun x => if c x then e else x).filter QEntry.onOffer) = q.filter fun x => x.onOffer && !c x := by
  induction q with
  | nil => rfl
  | cons x q ih =>
    rw [List.map_cons, List.filter_cons, List.filter_cons, ih]
    cases hc : c x <;> simp [he]

/-- A DRIVE that joins the FIELD queue is not yet on offer, and ends the attempt of the one it replaces (R92). -/
theorem offered_joinDrive {q : List QEntry} {i : Fin 24} (he : e.onOffer = false) :
    ((joinDrive q i e).filter QEntry.onOffer).Sublist (q.filter QEntry.onOffer) := by
  unfold joinDrive
  split
  · rw [offered_replace he]
    exact List.monotone_filter_right q fun x hx => (Bool.and_eq_true_iff.1 hx).1
  · rw [List.filter_append, List.filter_singleton, he]
    simp

end

/-! ## The arbiters and the ends of an attempt (R122, R123) -/

section
variable {p q : Port} {prio : Nat}

/-- The oldest frame of a priority comes on offer, in a queue of which none was (R122). -/
theorem offered_offerOldest {q : List QEntry} (hq : ∀ e ∈ q, e.onOffer = false) :
    (offerOldest prio q).filter QEntry.onOffer = []
      ∨ ∃ e, (offerOldest prio q).filter QEntry.onOffer = [e] ∧ e.attempt = some 0 := by
  induction q with
  | nil => exact .inl rfl
  | cons x q ih =>
    have hx : x.onOffer = false := hq x List.mem_cons_self
    have hrest : ∀ e ∈ q, e.onOffer = false := fun e he => hq e (List.mem_cons_of_mem _ he)
    unfold offerOldest
    split
    · refine .inr ⟨{ x with attempt := some 0 }, ?_, rfl⟩
      rw [List.filter_cons, List.filter_eq_nil_iff.2 fun e he => by rw [hrest e he]; exact Bool.false_ne_true]
      rfl
    · rw [List.filter_cons, hx]
      exact ih hrest

theorem origins_offerOldest (prio : Nat) (q : List QEntry) :
    (offerOldest prio q).map QEntry.origin = q.map QEntry.origin := by
  have h := congrArg (List.map Prod.snd) (frames_offerOldest prio q)
  rwa [List.map_map, List.map_map] at h

/-- A transmitter is free when its port is ON with nothing on offer (R122). -/
theorem Port.free_iff : p.free = true ↔ p.on = true ∧ p.report = none ∧ ∀ e ∈ p.queue, e.onOffer = false := by
  simp [Port.free, and_assoc]

/-- A free transmitter that takes a frame of its queue is sound (R122). -/
theorem Port.offerOldest_sound (hfree : p.free = true) (hs : p.Sound) :
    ({ p with queue := offerOldest prio p.queue } : Port).Sound := by
  obtain ⟨hon, hreport, hqueue⟩ := Port.free_iff.1 hfree
  obtain ⟨-, -, -, hrec⟩ := hs
  rcases offered_offerOldest (prio := prio) hqueue with hnone | ⟨e, hone, he⟩
  · exact Port.sound_of_idle hreport hnone hrec
  · refine ⟨?_, ?_, fun hoff => absurd hon (by rw [hoff]; exact Bool.false_ne_true), hrec⟩
    · rw [Port.offers, hone, hreport]; exact le_rfl
    · rw [Port.failures_of_queue (p := { p with queue := offerOldest prio p.queue }) hreport, hone]
      simp [he, attemptLimit]

/-- A free transmitter that takes a report is sound (R122, R167). -/
theorem Port.offerReport_sound {r : ReportOffer} (hr : r.failures = 0) (hfree : p.free = true) (hs : p.Sound) :
    ({ p with report := some r } : Port).Sound := by
  obtain ⟨hon, -, hqueue⟩ := Port.free_iff.1 hfree
  obtain ⟨-, -, -, hrec⟩ := hs
  have hnone : p.queue.filter QEntry.onOffer = [] :=
    List.filter_eq_nil_iff.2 fun e he => by rw [hqueue e he]; exact Bool.false_ne_true
  refine ⟨?_, ?_, fun hoff => absurd hon (by rw [hoff]; exact Bool.false_ne_true), hrec⟩
  · rw [Port.offers, hnone]; exact le_rfl
  · rw [Port.failures_of_report rfl, hr]; decide

/-- One more failed attempt, short of the limit, leaves the frame on offer (R122, R123). -/
theorem Port.addFailure_sound (hlimit : ¬attemptLimit ≤ p.failures + 1) (hs : p.Sound) : p.addFailure.Sound := by
  obtain ⟨hone, -, hoff, hrec⟩ := hs
  let failed (e : QEntry) : QEntry := { e with attempt := e.attempt.map (· + 1) }
  have hqueue : p.addFailure.queue.filter QEntry.onOffer = (p.queue.filter QEntry.onOffer).map failed := by
    have hsame : QEntry.onOffer ∘ failed = QEntry.onOffer := funext fun e => Option.isSome_map
    rw [show p.addFailure.queue = p.queue.map failed from rfl, List.filter_map, hsame]
  have hoffers : p.addFailure.offers = p.offers := by
    rw [Port.offers, hqueue, List.length_map, Port.offers]
    exact congrArg (_ + Bool.toNat ·) Option.isSome_map
  refine ⟨hoffers.trans_le hone, ?_, fun k => hoffers.trans (hoff k), hrec⟩
  refine lt_of_le_of_lt ?_ (Nat.lt_of_not_le hlimit)
  cases hp : p.report with
  | some r =>
    have hr : p.addFailure.report = some { r with failures := r.failures + 1 } := by simp [Port.addFailure, hp]
    rw [Port.failures_of_report hp, Port.failures_of_report hr]
  | none =>
    have hr : p.addFailure.report = none := by simp [Port.addFailure, hp]
    rw [Port.failures_of_queue hp, Port.failures_of_queue hr, hqueue, List.head?_map]
    cases hq : p.queue.filter QEntry.onOffer with
    | nil => exact Nat.zero_le _
    | cons e l => cases he : e.attempt <;> simp [failed, he]

theorem Port.addFailure_origins (p : Port) : p.addFailure.origins = p.origins := by
  rw [Port.origins, show p.addFailure.queue = p.queue.map fun e => { e with attempt := e.attempt.map (· + 1) } from rfl,
    List.map_map]
  rfl

end

/-! ## The queues of a state -/

/-- Between `p` and `q` the port at most let frames go: none joined its queue, came on offer or failed. -/
structure Port.Eases (p q : Port) : Prop where
  calmer : p.Calmer q
  origins : q.origins.Sublist p.origins

/-- Between `s` and `t` both ports at most let frames go, and a RESTART is pending in both or in neither. -/
structure State.Eases (s t : State) : Prop where
  pending : t.restartPending = s.restartPending
  field : s.field.Eases t.field
  trunk : s.trunk.Eases t.trunk

section
variable {s t u : State} {p q r : Port} {i : Fin 24}

theorem Port.Eases.refl (p : Port) : p.Eases p := ⟨.refl p, .refl _⟩

theorem Port.Eases.trans (h : p.Eases q) (k : q.Eases r) : p.Eases r where
  calmer := ⟨k.calmer.on.trans h.calmer.on, k.calmer.recovery.trans h.calmer.recovery,
    k.calmer.report.trans h.calmer.report, k.calmer.offered.trans h.calmer.offered⟩
  origins := k.origins.trans h.origins

/-- A port that loses frames of its queue. -/
theorem Port.Eases.of_sublist {l : List QEntry} (h : l.Sublist p.queue) : p.Eases { p with queue := l } :=
  ⟨⟨rfl, rfl, rfl, h.filter _⟩, h.map _⟩

theorem State.Eases.refl (s : State) : s.Eases s := ⟨rfl, .refl _, .refl _⟩

theorem State.Eases.trans (h : s.Eases t) (k : t.Eases u) : s.Eases u :=
  ⟨k.pending.trans h.pending, h.field.trans k.field, h.trunk.trans k.trunk⟩

theorem State.Eases.foldl {α : Type} {g : State → α → State} (hg : ∀ s a, State.Eases s (g s a)) (l : List α)
    (s : State) : s.Eases (l.foldl g s) := by
  induction l generalizing s with
  | nil => exact .refl s
  | cons a l ih => exact (hg s a).trans (ih _)

/-- A state whose lines are as they were. -/
theorem State.Eases.of_lines (hp : t.restartPending = s.restartPending) (hf : t.field = s.field)
    (ht : t.trunk = s.trunk) : s.Eases t := ⟨hp, hf ▸ .refl _, ht ▸ .refl _⟩

/-- The bounds of the queues and the transmitters, each port for itself. -/
theorem State.queuesSound_iff : s.QueuesSound ↔
    TrunkBounded s.restartPending.toNat s.trunk.origins ∧ FieldBounded s.field.origins ∧ s.field.Sound
      ∧ s.trunk.Sound := by
  unfold Port.origins
  rw [trunkBounded_iff, fieldBounded_iff]
  constructor
  · rintro ⟨hlen, hno, hkinds, hroom, hone, hreply, hfield, htrunk⟩
    exact ⟨⟨hlen, hno, hreply⟩, ⟨hkinds, hroom, hone⟩, hfield, htrunk⟩
  · rintro ⟨⟨hlen, hno, hreply⟩, ⟨hkinds, hroom, hone⟩, hfield, htrunk⟩
    exact ⟨hlen, hno, hkinds, hroom, hone, hreply, hfield, htrunk⟩

/-- Queues from which frames go stay sound. -/
theorem State.Eases.sound (h : s.Eases t) (hs : s.QueuesSound) : t.QueuesSound := by
  obtain ⟨htrunk, hfield, hf, ht⟩ := State.queuesSound_iff.1 hs
  refine State.queuesSound_iff.2 ⟨?_, hfield.sublist h.field.origins, h.field.calmer.sound hf, h.trunk.calmer.sound ht⟩
  rw [h.pending]
  exact htrunk.sublist h.trunk.origins

theorem State.QueuesSound.setField (hs : s.QueuesSound) (hb : FieldBounded p.origins) (hp : p.Sound) :
    (s.setField p).QueuesSound := by
  obtain ⟨htrunk, -, -, ht⟩ := State.queuesSound_iff.1 hs
  exact State.queuesSound_iff.2 ⟨htrunk, hb, hp, ht⟩

theorem State.QueuesSound.setTrunk (hs : s.QueuesSound) (hb : TrunkBounded s.restartPending.toNat p.origins)
    (hp : p.Sound) : (s.setTrunk p).QueuesSound := by
  obtain ⟨-, hfield, hf, -⟩ := State.queuesSound_iff.1 hs
  exact State.queuesSound_iff.2 ⟨hb, hfield, hf, hp⟩

theorem State.QueuesSound.port (hs : s.QueuesSound) (id : PortId) : (s.port id).Sound := by
  obtain ⟨-, -, hf, ht⟩ := State.queuesSound_iff.1 hs
  cases id
  · exact hf
  · exact ht

/-- A port with no frame more, and a sound transmitter, takes the place of another. -/
theorem State.QueuesSound.setPort {id : PortId} (hs : s.QueuesSound) (hb : p.origins.Sublist (s.port id).origins)
    (hp : p.Sound) : (s.setPort id p).QueuesSound := by
  obtain ⟨htrunk, hfield, -, -⟩ := State.queuesSound_iff.1 hs
  cases id
  · exact hs.setField (hfield.sublist hb) hp
  · exact hs.setTrunk (htrunk.sublist hb) hp

/-! ## What lets frames go at most -/

theorem State.setPort_eases {id : PortId} (s : State) (h : (s.port id).Eases p) : s.Eases (s.setPort id p) := by
  cases id
  · exact ⟨rfl, h, .refl _⟩
  · exact ⟨rfl, .refl _, h⟩

theorem State.heard_eases (s : State) (id : PortId) : s.Eases (s.heard id) :=
  s.setPort_eases ⟨⟨rfl, rfl, rfl, .refl _⟩, .refl _⟩

theorem State.countMalformed_eases (s : State) (id : PortId) : s.Eases (s.countMalformed id) :=
  s.setPort_eases ⟨⟨rfl, rfl, rfl, .refl _⟩, .refl _⟩

theorem State.updateZone_eases (s : State) (z : Fin 8) (g : ZoneDyn → ZoneDyn) : s.Eases (s.updateZone z g) := by
  rw [s.updateZone_frame z g]; exact .of_lines rfl rfl rfl

theorem State.reformZone_eases (s : State) (z : Fin 8) : s.Eases (s.reformZone z) := s.updateZone_eases z _

theorem State.updatePoint_eases (s : State) (i : Fin 64) (g : PointFields → PointDyn → PointDyn) :
    s.Eases (s.updatePoint i g) := by
  rw [s.updatePoint_frame i g]; exact .of_lines rfl rfl rfl

theorem State.updateFan_eases (s : State) (i : Fin 24) (g : OutputFields → FanDyn → FanDyn) :
    s.Eases (s.updateFan i g) := by
  rw [s.updateFan_frame i g]; exact .of_lines rfl rfl rfl

theorem State.updateDamper_eases (s : State) (i : Fin 24) (g : OutputFields → DamperDyn → DamperDyn) :
    s.Eases (s.updateDamper i g) := by
  rw [s.updateDamper_frame i g]; exact .of_lines rfl rfl rfl

theorem State.withdrawDrive_eases (s : State) (i : Fin 24) : s.Eases (s.withdrawDrive i) :=
  s.setPort_eases (id := .field) (.of_sublist List.filter_sublist)

theorem State.detachReport_eases (s : State) (z : Fin 8) : s.Eases (s.detachReport z) := by
  unfold State.detachReport
  split
  · refine s.setPort_eases (id := .trunk) ⟨⟨rfl, rfl, ?_, .refl _⟩, .refl _⟩
    exact Option.map_map _ _ _
  · exact .refl s

theorem State.takeSample_eases (s : State) (i : Fin 64) (v : SamplePayload) : s.Eases (s.takeSample i v) := by
  obtain ⟨hfield, htrunk, hpend⟩ := s.takeSample_lines i v
  exact .of_lines hpend hfield htrunk

theorem State.receivePanel_eases (s : State) (f : Frame) : s.Eases (s.receivePanel f) := by
  unfold State.receivePanel
  split
  · split
    · exact s.countMalformed_eases _
    · split
      · rw [State.panelAlarm_eq, (State.foldl_atMasked_all s).frame]
        exact .of_lines rfl rfl rfl
      · split
        · rw [State.panelNormal_eq, (State.foldl_atMasked_all s).frame]
          exact .of_lines rfl rfl rfl
        · exact .of_lines rfl rfl rfl
  · exact .of_lines rfl rfl rfl

theorem State.receiveTime_eases (s : State) (f : Frame) : s.Eases (s.receiveTime f) := by
  unfold State.receiveTime State.takeTime
  split
  · split <;> exact .of_lines rfl rfl rfl
  · exact s.countMalformed_eases _

theorem State.minuteExpired_eases (s : State) : s.Eases s.minuteExpired := by
  rw [s.minuteExpired_clocks.1]; exact .of_lines rfl rfl rfl

theorem State.wrapClock_eases (s : State) (j : Fin 2) : s.Eases (s.wrapClock j) := by
  rw [(s.wrapClock_moved j).frame]; exact .of_lines rfl rfl rfl

theorem State.deliverZones_eases (s : State) (demands : Vector Nat 8) (shares : Vector (Vector Nat 4) 8) :
    s.Eases (s.deliverZones demands shares) := .foldl (fun s z => s.updateZone_eases z _) _ s

theorem State.deliverOutputs_eases (s : State) (flows : Vector Nat 24) (holds : Vector HoldMark 24)
    (targets : Vector DamperTarget 24) : s.Eases (s.deliverOutputs flows holds targets) :=
  .foldl (fun s i => (s.updateFan_eases i _).trans (State.updateDamper_eases _ i _)) _ s

theorem State.setSlot_eases (s : State) (id : SlotId) (x : Slot) : s.Eases (s.setSlot id x) := by
  cases id <;> exact .of_lines rfl rfl rfl

theorem State.reportTransmitted_eases (s : State) (r : ReportOffer) : s.Eases (s.reportTransmitted r) := by
  unfold State.reportTransmitted
  split
  · exact s.setSlot_eases _ _
  · exact .refl s

theorem State.reportAbandoned_eases (s : State) (r : ReportOffer) : s.Eases (s.reportAbandoned r) := by
  unfold State.reportAbandoned
  split
  · exact s.setSlot_eases _ _
  · exact .refl s

theorem State.frameLeft_eases (s : State) (e : QEntry) : s.Eases (s.frameLeft e) := by
  unfold State.frameLeft State.advanceDither
  split
  · split <;> exact .of_lines rfl rfl rfl
  · exact .refl s

theorem State.breakSave_eases (s : State) : s.Eases s.breakSave := by
  unfold State.breakSave; split <;> exact .of_lines rfl rfl rfl

/-- Ports whose counters or whose running timers alone differ. -/
theorem State.Eases.of_same (hp : t.restartPending = s.restartPending) (hf : s.field.Eases p) (hft : t.field = p)
    (ht : s.trunk.Eases q) (htt : t.trunk = q) : s.Eases t := ⟨hp, hft ▸ hf, htt ▸ ht⟩

theorem Port.tick_eases (p : Port) : p.Eases p.tick := ⟨⟨rfl, Timer.tick_isSome _, rfl, .refl _⟩, .refl _⟩

theorem State.ticked_eases (s : State) : s.Eases s.ticked := by
  refine .of_same ?_ s.field.tick_eases ?_ s.trunk.tick_eases ?_ <;> (unfold State.ticked; rfl)

theorem State.countersClear_eases (s : State) : s.Eases s.countersClear := by
  refine .of_same (p := { s.field with counters := .zero }) (q := { s.trunk with counters := .zero }) ?_
    ⟨⟨rfl, rfl, rfl, .refl _⟩, .refl _⟩ ?_ ⟨⟨rfl, rfl, rfl, .refl _⟩, .refl _⟩ ?_ <;>
    (unfold State.countersClear; rfl)

theorem State.handOn_eases (s : State) (i : Fin 24) : s.Eases (s.handOn i) := by
  unfold State.handOn
  split
  · exact .refl s
  · exact ((s.updateFan_eases i _).trans (State.updateDamper_eases _ i _)).trans (State.withdrawDrive_eases _ i)

theorem State.handOff_eases (s : State) (i : Fin 24) : s.Eases (s.handOff i) :=
  (s.updateFan_eases i _).trans (State.updateDamper_eases _ i _)

/-! ## What lets frames join (R91, R125, R127, R153) -/

/-- The DRIVE that is built for an output is its own, and not yet on offer (R90). -/
theorem State.driveEntry_some {e : QEntry} (h : s.driveEntry i = some e) :
    ∃ run, e.origin = .drive i run ∧ e.attempt = none := by
  unfold State.driveEntry at h
  split at h
  · split at h
    · cases h; exact ⟨_, rfl, rfl⟩
    · cases h
  · cases h

/-- A DRIVE that is queued keeps the queues sound (R91). -/
theorem State.queueDrive_queues (hs : s.QueuesSound) (i : Fin 24) : (s.queueDrive i).QueuesSound := by
  cases h : s.driveEntry i with
  | none => rwa [State.queueDrive_of_none h]
  | some e =>
    obtain ⟨run, ho, ha⟩ := State.driveEntry_some h
    obtain ⟨-, hfield, hf, -⟩ := State.queuesSound_iff.1 hs
    rw [State.queueDrive_of_some h]
    refine hs.setField (hfield.joinDrive ho) (Port.Calmer.sound (p := s.field) ⟨rfl, rfl, rfl, ?_⟩ hf)
    exact offered_joinDrive (by rw [QEntry.onOffer, ha]; rfl)

theorem State.forwardUp_queues (hs : s.QueuesSound) (f : Frame) : (s.forwardUp f).QueuesSound := by
  obtain ⟨htrunk, -, -, ht⟩ := State.queuesSound_iff.1 hs
  unfold State.forwardUp
  split
  · exact (s.setPort_eases (id := .field) ⟨⟨rfl, rfl, rfl, .refl _⟩, .refl _⟩).sound hs
  · have hjoin : (s.setTrunk (s.trunk.joinTrunk (forwardedEntry f)).1).QueuesSound :=
      hs.setTrunk (htrunk.joinTrunk (e := forwardedEntry f) fun _ => rfl) (Port.Calmer.sound (Port.join_calmer rfl) ht)
    dsimp only
    split
    · exact (State.setPort_eases (id := .field) _ ⟨⟨rfl, rfl, rfl, .refl _⟩, .refl _⟩).sound hjoin
    · exact hjoin

theorem State.forwardDown_queues (hs : s.QueuesSound) (f : Frame) : (s.forwardDown f).QueuesSound := by
  obtain ⟨-, hfield, hf, -⟩ := State.queuesSound_iff.1 hs
  unfold State.forwardDown
  split
  · exact (s.setPort_eases (id := .trunk) ⟨⟨rfl, rfl, rfl, .refl _⟩, .refl _⟩).sound hs
  · have hjoin : (s.setField (s.field.joinField (forwardedEntry f)).1).QueuesSound :=
      hs.setField (hfield.joinField rfl) (Port.Calmer.sound (Port.join_calmer rfl) hf)
    dsimp only
    split
    · exact (State.setPort_eases (id := .trunk) _ ⟨⟨rfl, rfl, rfl, .refl _⟩, .refl _⟩).sound hjoin
    · exact hjoin

/-- A reply that joins the TRUNK queue (R153). -/
theorem State.queueReply_queues (hs : s.QueuesSound) (dst code tag : Byte) (n : Nat) (data : List Byte) :
    (s.queueReply .reply dst code tag n data).QueuesSound := by
  obtain ⟨htrunk, -, -, ht⟩ := State.queuesSound_iff.1 hs
  have hjoin := htrunk.joinTrunk (e := ⟨s.replyFrame dst code tag n data, .reply, none⟩) fun _ => rfl
  exact hs.setTrunk hjoin (Port.Calmer.sound (Port.join_calmer rfl) ht)

/-- The reply of a RESTART that becomes pending (R165). -/
theorem State.queueRestartReply_queues (hs : s.QueuesSound) (hp : s.restartPending = false) (dst code tag : Byte)
    (n : Nat) (data : List Byte) :
    ((s.setRestartPending true).queueReply .restartReply dst code tag n data).QueuesSound := by
  obtain ⟨htrunk, hfield, hf, ht⟩ := State.queuesSound_iff.1 hs
  rw [hp] at htrunk
  have hjoin := htrunk.joinTrunk (e := ⟨s.replyFrame dst code tag n data, .restartReply, none⟩) fun _ => rfl
  exact State.queuesSound_iff.2 ⟨hjoin, hfield, hf, Port.Calmer.sound (Port.join_calmer rfl) ht⟩

/-! ## The ends of an attempt and the arbiters -/

theorem Port.withdrawOffer_origins (p : Port) : p.withdrawOffer.origins.Sublist p.origins :=
  List.filter_sublist.map _

theorem State.completeOffer_queues (hs : s.QueuesSound) (id : PortId) : (s.completeOffer id).QueuesSound := by
  have h := hs.setPort (Port.withdrawOffer_origins _) (Port.withdrawOffer_sound (hs.port id))
  unfold State.completeOffer
  dsimp only
  split
  · exact (State.reportTransmitted_eases _ _).sound h
  · split
    · exact (State.frameLeft_eases _ _).sound h
    · exact h

theorem State.abandonOffer_queues (hs : s.QueuesSound) (id : PortId) : (s.abandonOffer id).QueuesSound := by
  have h := hs.setPort (id := id) (p := { (s.port id).withdrawOffer.countAbandoned.countOffEntry with
    on := false, recovery := timerOf recoverySeconds }) (Port.withdrawOffer_origins _)
    (Port.sound_of_idle rfl (by simp [Port.withdrawOffer]) rfl)
  unfold State.abandonOffer
  dsimp only
  split
  · exact (State.reportAbandoned_eases _ _).sound h
  · split
    · exact (State.frameLeft_eases _ _).sound h
    · exact h

theorem State.failOffer_queues (hs : s.QueuesSound) (id : PortId) : (s.failOffer id).QueuesSound := by
  unfold State.failOffer
  split
  · exact State.abandonOffer_queues hs id
  · rename_i hlimit
    exact hs.setPort (by rw [Port.addFailure_origins]) (Port.addFailure_sound hlimit (hs.port id))

/-- A port that comes back ON has nothing on offer (R123). -/
theorem State.recover_queues (hs : s.QueuesSound) (id : PortId) : (s.recover id).QueuesSound := by
  obtain ⟨hone, hfail, -, -⟩ := hs.port id
  exact hs.setPort (.refl _) ⟨hone, hfail, fun h => (by cases h), rfl⟩

theorem State.arbitrateField_queues (hs : s.QueuesSound) : s.arbitrateField.QueuesSound := by
  unfold State.arbitrateField
  split
  · rename_i hfree
    split
    · exact hs
    · rename_i prio _
      exact hs.setPort (id := .field) (by rw [Port.origins, origins_offerOldest]; exact .refl _)
        (Port.offerOldest_sound hfree (hs.port .field))
  · exact hs

theorem State.arbitrateTrunk_queues (hs : s.QueuesSound) : s.arbitrateTrunk.QueuesSound := by
  unfold State.arbitrateTrunk
  split
  · rename_i hfree
    split
    · exact hs
    · split
      · split
        · exact hs.setPort (id := .trunk) (.refl _) (Port.offerReport_sound rfl hfree (hs.port .trunk))
        · exact hs
      · exact hs.setPort (id := .trunk) (by rw [Port.origins, origins_offerOldest]; exact .refl _)
          (Port.offerOldest_sound hfree (hs.port .trunk))
  · exact hs

/-! ## The resets (R121) -/

/-- Two ports as a reset leaves them. -/
theorem State.queuesSound_of_start (hf : s.field = Port.start) (ht : s.trunk = Port.start) : s.QueuesSound := by
  have hstart : Port.start.Sound := by decide
  refine State.queuesSound_iff.2 ?_
  rw [hf, ht]
  exact ⟨⟨Nat.zero_le _, fun o h => absurd h List.not_mem_nil, Nat.zero_le _⟩,
    ⟨fun o h => absurd h List.not_mem_nil, Nat.zero_le _, fun _ => Nat.zero_le _⟩, hstart, hstart⟩

theorem State.resetDynamic_queues (s : State) : s.resetDynamic.QueuesSound :=
  State.queuesSound_of_start (by unfold State.resetDynamic; rfl) (by unfold State.resetDynamic; rfl)

theorem State.finish_queues (hs : s.QueuesSound) : s.finish.QueuesSound := by
  unfold State.finish
  split
  · exact State.resetDynamic_queues _
  · exact State.arbitrateTrunk_queues (State.arbitrateField_queues hs)

theorem State.powerUp_queues (hs : s.QueuesSound) : s.powerUp.QueuesSound := by
  have hbreak : s.Eases (s.breakSave.setPowered true) := s.breakSave_eases.trans (.of_lines rfl rfl rfl)
  unfold State.powerUp
  dsimp only
  split
  · exact hbreak.sound hs
  · exact State.resetDynamic_queues _

theorem State.release_queues (hs : s.QueuesSound) : s.release.QueuesSound := by
  have hbreak : s.Eases (s.breakSave.setResetLine false) := s.breakSave_eases.trans (.of_lines rfl rfl rfl)
  unfold State.release
  dsimp only
  split
  · exact State.resetDynamic_queues _
  · exact hbreak.sound hs

end

end Sys2Proof.Machine

namespace Sys2Proof.Machine

section
variable {s t u : State} {i : Fin 24}

/-! ## Outputs in the machine (R100 to R116) -/

theorem State.foldl_queues {α : Type} {g : State → α → State}
    (hg : ∀ (s : State) a, s.QueuesSound → (g s a).QueuesSound) (l : List α) (hs : s.QueuesSound) :
    (l.foldl g s).QueuesSound := by
  induction l generalizing s with
  | nil => exact hs
  | cons a l ih => exact ih (hg s a hs)

theorem State.startFan_queues (hs : s.QueuesSound) (i : Fin 24) : (s.startFan i).QueuesSound :=
  State.queueDrive_queues ((s.updateFan_eases i _).sound hs) i

theorem State.pathCheck_queues (hs : s.QueuesSound) : s.pathCheck.QueuesSound := by
  unfold State.pathCheck
  refine State.foldl_queues (fun s i hs => ?_) _ hs
  split
  · exact State.startFan_queues hs i
  · exact hs

theorem State.pathCheckThrough_queues (hs : s.QueuesSound) (j : Fin 24) : (s.pathCheckThrough j).QueuesSound := by
  unfold State.pathCheckThrough
  refine State.foldl_queues (fun s i hs => ?_) _ hs
  split
  · exact State.startFan_queues hs i
  · exact hs

theorem State.queueDrives_queues (hs : s.QueuesSound) : s.queueDrives.QueuesSound := by
  unfold State.queueDrives
  exact State.foldl_queues (fun _ i hs => State.queueDrive_queues hs i) _ hs

/-- The zones of an allocation have taken their parts (R77, R84). -/
def State.zonesDelivered (s : State) : State :=
  (s.setDriveTimer s.active.drivePeriod).deliverZones (Vector.ofFn s.demand) s.sharing.shares

/-- The zones and the outputs of an allocation have taken their deliveries (R84, R90). -/
def State.outputsDelivered (s : State) : State :=
  s.zonesDelivered.deliverOutputs (Vector.ofFn (s.fanFlow s.sharing.shares)) (Vector.ofFn s.holdMark)
    (Vector.ofFn (s.damperTarget s.sharing.shares))

/-- An allocation delivers, queues the DRIVE frames and checks the paths (R78). -/
theorem State.allocate_eq (s : State) : s.allocate = s.outputsDelivered.queueDrives.pathCheck := rfl

theorem State.outputsDelivered_eases (s : State) : s.Eases s.outputsDelivered := by
  have htimer : s.Eases (s.setDriveTimer s.active.drivePeriod) := .of_lines rfl rfl rfl
  exact (htimer.trans (State.deliverZones_eases _ _ _)).trans (State.deliverOutputs_eases _ _ _ _)

theorem State.allocate_queues (hs : s.QueuesSound) : s.allocate.QueuesSound := by
  rw [State.allocate_eq]
  exact State.pathCheck_queues (State.queueDrives_queues (s.outputsDelivered_eases.sound hs))

theorem State.takeDamperStatus_queues (hs : s.QueuesSound) (i : Fin 24) (r : DamperReport) :
    (s.takeDamperStatus i r).QueuesSound := by
  have h := (s.updateDamper_eases i fun f => DamperDyn.takeStatus f r).sound hs
  unfold State.takeDamperStatus
  dsimp only
  split
  · exact State.pathCheckThrough_queues h i
  · exact h

theorem State.pathExpired_queues (hs : s.QueuesSound) (i : Fin 24) : (s.pathExpired i).QueuesSound := by
  have h := (s.updateFan_eases i fun f => FanDyn.pathExpired f (s.fireInReach i)).sound hs
  unfold State.pathExpired
  dsimp only
  split
  · exact State.queueDrive_queues h i
  · exact h

theorem State.retryExpired_queues (hs : s.QueuesSound) (i : Fin 24) : (s.retryExpired i).QueuesSound := by
  have h := (s.updateFan_eases i fun f => FanDyn.retryExpired f (s.fireInReach i)).sound hs
  unfold State.retryExpired
  dsimp only
  split
  · exact State.queueDrive_queues h i
  · exact h

/-! ## Frames of either line (R129 to R135) -/

theorem State.receiveSample_queues (hs : s.QueuesSound) (f : Frame) : (s.receiveSample f).QueuesSound := by
  unfold State.receiveSample
  split
  · split
    · split
      · exact State.forwardUp_queues ((s.takeSample_eases _ _).sound hs) f
      · exact (s.takeSample_eases _ _).sound hs
    · exact State.forwardUp_queues ((s.countMalformed_eases _).sound hs) f
  · split
    · exact State.forwardUp_queues hs f
    · exact State.forwardUp_queues (State.Eases.sound (t := s.countStranger) (.of_lines rfl rfl rfl) hs) f

theorem State.receiveFanStatus_queues (hs : s.QueuesSound) (i : Fin 24) (d : FanDyn) (f : Frame) :
    (s.receiveFanStatus i d f).QueuesSound := by
  unfold State.receiveFanStatus
  split
  · dsimp only
    split
    · exact State.forwardUp_queues ((s.updateFan_eases i _).sound hs) f
    · exact (s.updateFan_eases i _).sound hs
  · exact State.forwardUp_queues ((s.countMalformed_eases _).sound hs) f

theorem State.receiveDamperStatus_queues (hs : s.QueuesSound) (i : Fin 24) (d : DamperDyn) (f : Frame) :
    (s.receiveDamperStatus i d f).QueuesSound := by
  unfold State.receiveDamperStatus
  split
  · dsimp only
    split
    · exact State.forwardUp_queues (State.takeDamperStatus_queues hs _ _) f
    · exact State.takeDamperStatus_queues hs _ _
  · exact State.forwardUp_queues ((s.countMalformed_eases _).sound hs) f

theorem State.receiveStatus_queues (hs : s.QueuesSound) (f : Frame) : (s.receiveStatus f).QueuesSound := by
  unfold State.receiveStatus
  split
  · split
    · exact State.receiveFanStatus_queues hs _ _ f
    · exact State.receiveDamperStatus_queues hs _ _ f
    · exact State.forwardUp_queues hs f
  · exact State.forwardUp_queues hs f

theorem State.fieldReceive_queues (hs : s.QueuesSound) (f : Frame) : (s.fieldReceive f).QueuesSound := by
  unfold State.fieldReceive
  split
  · exact State.Eases.sound (.of_lines rfl rfl rfl) hs
  · split
    · exact State.receiveSample_queues hs f
    · split
      · exact State.receiveStatus_queues hs f
      · exact State.forwardUp_queues hs f

theorem State.passDown_queues (hs : s.QueuesSound) (f : Frame) : (s.passDown f).QueuesSound := by
  unfold State.passDown
  split
  · split
    · exact State.Eases.sound (.of_lines rfl rfl rfl) hs
    · exact State.forwardDown_queues hs f
  · exact hs

/-! ## What a request leaves before its reply (chapters 7 and 8) -/

theorem State.openEntry_eases (s : State) (r : EntryRef) : s.Eases (s.openEntry r) := by
  cases r <;> exact .of_lines rfl rfl rfl

theorem State.clearEntry_eases (s : State) (r : EntryRef) : s.Eases (s.clearEntry r) := by
  cases r <;> exact .of_lines rfl rfl rfl

/-- A period that is staged changes one purge clock (R72). -/
theorem State.tunePeriod_ok {j : Fin 2} {code : Nat} {v : Option Nat} (h : s.tunePeriod j code v = .ok t) :
    ∃ c, t = s.setClock j c := by
  unfold State.tunePeriod at h
  split at h
  · cases h
  · split at h
    · cases h; exact ⟨_, rfl⟩
    · cases h

/-- A purge value that is staged changes one zone (R72). -/
theorem State.tuneZone_ok {z : Fin 8} {code : Nat} {v : Option Nat} (h : s.tuneZone z code v = .ok t) :
    ∃ e, t = s.setZone z e := by
  unfold State.tuneZone at h
  split at h
  · split at h
    · cases h
    · split at h
      · cases h
      · split at h
        · cases h; exact ⟨_, rfl⟩
        · cases h
  · cases h

theorem State.entryTune_eases {table index field : Byte} {value : BitVec 16}
    (h : s.entryTune table index field value = .ok t) : s.Eases t := by
  unfold State.entryTune at h
  split at h
  · cases h
  · split at h
    · cases h
    · split at h
      · obtain ⟨e, rfl⟩ := State.tuneZone_ok h; exact .of_lines rfl rfl rfl
      · obtain ⟨c, rfl⟩ := State.tunePeriod_ok h; exact .of_lines rfl rfl rfl
      · cases h

theorem State.entrySet_eases {table index field : Byte} {value : BitVec 16} {presence : Byte}
    (h : s.entrySet table index field value presence = .ok t) : s.Eases t := by
  unfold State.entrySet at h
  split at h
  · cases h
  · split at h
    · cases h
    · split at h
      · obtain ⟨f, rfl⟩ := State.setPointField_ok h; exact .of_lines rfl rfl rfl
      · obtain ⟨f, rfl⟩ := State.setZoneField_ok h; exact .of_lines rfl rfl rfl
      · obtain ⟨f, rfl⟩ := State.setOutputField_ok h; exact .of_lines rfl rfl rfl
      · obtain ⟨f, rfl⟩ := State.setWindowField_ok h; exact .of_lines rfl rfl rfl
      · obtain ⟨r, rfl⟩ := State.setResponseField_ok h; exact .of_lines rfl rfl rfl
      · obtain ⟨c, rfl⟩ := State.tunePeriod_ok (presenceChecked_ok h); exact .of_lines rfl rfl rfl
      · obtain ⟨r, rfl⟩ := State.setDeviceField_ok h; exact .of_lines rfl rfl rfl

theorem State.entryCommission_eases {table index : Byte} (h : s.entryCommission table index = .ok t) : s.Eases t := by
  obtain ⟨r, h⟩ := State.entryCommission_ok h
  rcases State.commissionEntry_ok h with ⟨i, f, -, rfl⟩ | ⟨z, f, -, rfl⟩ | ⟨i, f, -, rfl⟩ | ⟨w, f, -, rfl⟩
  · exact State.Eases.trans (t := s.setPoint i (.inService f f.initial)) (.of_lines rfl rfl rfl)
      (State.reformZone_eases _ _)
  · exact .of_lines rfl rfl rfl
  · exact .of_lines rfl rfl rfl
  · exact .of_lines rfl rfl rfl

/-- A retirement withdraws the DRIVE of an output, and lets the report of a zone on offer go on without its slot (R117,
R170). -/
theorem State.entryRetire_eases {table index : Byte} (h : s.entryRetire table index = .ok t) : s.Eases t := by
  obtain ⟨r, h⟩ := State.entryRetire_ok h
  rcases State.retireEntry_ok h with ⟨i, f, d, -, rfl⟩ | ⟨z, f, d, -, rfl⟩ | ⟨i, f, d, -, rfl⟩ | ⟨w, f, -, rfl⟩
  · refine State.Eases.trans ?_ (State.reformZone_eases _ _)
    split <;> exact .of_lines rfl rfl rfl
  · exact State.Eases.trans (t := (s.setZone z (.draft f)).setZoneSlot z Slot.cleared) (.of_lines rfl rfl rfl)
      (State.detachReport_eases _ z)
  · have hwithdrawn : s.Eases ((s.setOutput i (.draft f)).withdrawDrive i) :=
      State.Eases.trans (t := s.setOutput i (.draft f)) (.of_lines rfl rfl rfl) (State.withdrawDrive_eases _ i)
    unfold State.retireOutput
    dsimp only
    split
    · exact hwithdrawn.trans (.of_lines rfl rfl rfl)
    · exact hwithdrawn
  · exact .of_lines rfl rfl rfl

/-- The zone requests are an event at one zone (R39, R46 to R48). -/
theorem State.zoneRelease_ok {zone level : Byte} (h : s.zoneRelease zone level = .ok t) :
    ∃ z g, t = s.updateZone z g := by
  unfold State.zoneRelease at h
  split at h
  · cases h
  · split at h
    · cases h
    · split at h
      · cases h
      · split at h
        · cases h
        · cases h; exact ⟨_, _, rfl⟩

theorem State.zoneSuppress_ok {zone setting : Byte} (h : s.zoneSuppress zone setting = .ok t) :
    ∃ z g, t = s.updateZone z g := by
  unfold State.zoneSuppress at h
  split at h
  · cases h
  · split at h
    · cases h; exact ⟨_, _, rfl⟩
    · split at h
      · cases h; exact ⟨_, _, rfl⟩
      · cases h

theorem State.zoneForce_ok {zone level : Byte} (h : s.zoneForce zone level = .ok t) : ∃ z g, t = s.updateZone z g := by
  unfold State.zoneForce at h
  split at h
  · cases h
  · split at h
    · cases h
    · cases h; exact ⟨_, _, rfl⟩

theorem State.outputHand_ok {output setting : Byte} (h : s.outputHand output setting = .ok t) :
    ∃ i, t = s.handOff i ∨ t = s.handOn i := by
  unfold State.outputHand at h
  split at h
  · cases h
  · split at h
    · cases h; exact ⟨_, .inl rfl⟩
    · split at h
      · split at h
        · cases h
        · cases h; exact ⟨_, .inr rfl⟩
      · cases h

theorem State.outputReset_eases {output : Byte} (h : s.outputReset output = .ok t) : s.Eases t := by
  unfold State.outputReset at h
  split at h
  · cases h
  · split at h
    · cases h; exact s.updateFan_eases _ _
    · cases h
  · split at h
    · cases h
    · cases h; exact s.updateDamper_eases _ _

/-- No request touches a queue before its reply but to withdraw a DRIVE (R93). -/
theorem State.decide_eases {r : Request} (h : (s.decide r).state? = some t) : s.Eases t := by
  cases r with
  | entryOpen table index =>
    obtain ⟨r, rfl⟩ := State.entryOpen_ok (Decision.ofChange_state? h); exact s.openEntry_eases r
  | entrySet table index field value presence => exact State.entrySet_eases (Decision.ofChange_state? h)
  | entryCommission table index => exact State.entryCommission_eases (Decision.ofChange_state? h)
  | entryRetire table index => exact State.entryRetire_eases (Decision.ofChange_state? h)
  | entryClear table index =>
    obtain ⟨r, rfl⟩ := State.entryClear_ok (Decision.ofChange_state? h); exact s.clearEntry_eases r
  | entryTune table index field value => exact State.entryTune_eases (Decision.ofChange_state? h)
  | zoneRelease zone level =>
    obtain ⟨z, g, rfl⟩ := State.zoneRelease_ok (Decision.ofChange_state? h); exact s.updateZone_eases z g
  | zoneSuppress zone setting =>
    obtain ⟨z, g, rfl⟩ := State.zoneSuppress_ok (Decision.ofChange_state? h); exact s.updateZone_eases z g
  | zoneForce zone level =>
    obtain ⟨z, g, rfl⟩ := State.zoneForce_ok (Decision.ofChange_state? h); exact s.updateZone_eases z g
  | outputHand output setting =>
    obtain ⟨i, rfl | rfl⟩ := State.outputHand_ok (Decision.ofChange_state? h)
    · exact s.handOff_eases i
    · exact s.handOn_eases i
  | outputReset output => exact State.outputReset_eases (Decision.ofChange_state? h)
  | entryGet | readZone | readPoint | readOutput | readCounter | readDevice =>
    rw [Decision.ofRead_state? h]; exact .refl s
  | countersClear => cases h; exact s.countersClear_eases
  | save =>
    simp only [State.decide] at h
    split at h <;> cases h
    exact .refl s
  | restart =>
    simp only [State.decide] at h
    split at h
    · cases h
    · split at h <;> cases h
      exact .refl s

/-! ## Requests with their replies (R153, R164, R165) -/

theorem State.takeRequest_queues (hs : s.QueuesSound) (src tag : Byte) (r : Request) :
    (s.takeRequest src tag r).QueuesSound := by
  unfold State.takeRequest
  split
  · exact State.queueReply_queues hs _ _ _ _ _
  · rename_i hpend
    split
    · exact State.queueReply_queues hs _ _ _ _ _
    · rename_i t data h
      exact State.queueReply_queues ((State.decide_eases (by rw [h]; rfl)).sound hs) _ _ _ _ _
    · rename_i t h
      exact State.Eases.sound (s := t) (.of_lines rfl rfl rfl) ((State.decide_eases (by rw [h]; rfl)).sound hs)
    · rename_i t h
      have heases : s.Eases t := State.decide_eases (by rw [h]; rfl)
      exact State.queueRestartReply_queues (heases.sound hs)
        (heases.pending.trans (Bool.not_eq_true _ ▸ hpend)) _ _ _ _ _

theorem State.takeEncoded_queues (hs : s.QueuesSound) (src code tag : Byte) (args : List Byte) :
    (s.takeEncoded src code tag args).QueuesSound := by
  unfold State.takeEncoded
  split
  · exact State.takeRequest_queues hs _ _ _
  · exact State.queueReply_queues hs _ _ _ _ _

theorem State.receiveRequest_queues (hs : s.QueuesSound) (f : Frame) : (s.receiveRequest f).QueuesSound := by
  unfold State.receiveRequest
  split
  · exact State.takeEncoded_queues hs _ _ _ _
  · exact (s.countMalformed_eases _).sound hs

theorem State.trunkReceive_queues (hs : s.QueuesSound) (f : Frame) : (s.trunkReceive f).QueuesSound := by
  unfold State.trunkReceive
  split
  · split
    · exact State.receiveRequest_queues hs f
    · split
      · exact (s.receivePanel_eases f).sound hs
      · split
        · exact (s.receiveTime_eases f).sound hs
        · exact hs
  · split
    · exact State.passDown_queues ((s.receiveTime_eases f).sound hs) f
    · exact State.passDown_queues hs f

theorem State.saveCompleted_queues (hs : s.QueuesSound) (matched : Bool) : (s.saveCompleted matched).QueuesSound := by
  unfold State.saveCompleted
  split
  · exact hs
  · have hmark (u : State) (p : Prop) [Decidable p] : u.Eases (if p then u else u.markDevice) := by
      split <;> exact .of_lines rfl rfl rfl
    have hstored (x : StoreContent) (y : StoreState) : s.Eases (((s.setSave none).setStore x).setStoreState y) :=
      .of_lines rfl rfl rfl
    dsimp only
    split <;> exact State.queueReply_queues (((hstored _ _).trans (hmark _ _)).sound hs) _ _ _ _ _

/-! ## Every command -/

theorem onEvent_queues {applies : Bool} {g : State → State} (hs : s.QueuesSound) (h : onEvent applies g s = .next t)
    (hg : (g s).QueuesSound) : t.QueuesSound := by
  rcases onEvent_next.1 h with ⟨-, -, rfl⟩ | ⟨-, rfl⟩
  · exact State.finish_queues hg
  · exact hs

/-- An event that lets frames go at most. -/
theorem onEvent_eases {applies : Bool} {g : State → State} (hs : s.QueuesSound) (h : onEvent applies g s = .next t)
    (hg : s.Eases (g s)) : t.QueuesSound := onEvent_queues hs h (hg.sound hs)

theorem onFrame_queues {p : PortId} {g : State → State} (hs : s.QueuesSound) (h : onFrame p g s = .next t)
    (hg : ∀ u : State, u.QueuesSound → (g u).QueuesSound) : t.QueuesSound :=
  onEvent_queues hs h (hg _ ((s.heard_eases p).sound hs))

/-- An expiry that takes the fan whose timer it names to FAULT. -/
theorem fanFault_queues {applies : Bool} {r : FanFault} (hs : s.QueuesSound)
    (h : onEvent applies (State.updateFan · i fun f => FanDyn.enterFault f r) s = .next t) : t.QueuesSound :=
  onEvent_eases hs h (s.updateFan_eases i _)

theorem damperFault_queues {applies : Bool} {r : DamperFault} (hs : s.QueuesSound)
    (h : onEvent applies (State.updateDamper · i fun _ => DamperDyn.enterFault r) s = .next t) : t.QueuesSound :=
  onEvent_eases hs h (s.updateDamper_eases i _)

/-- Every command keeps the queues and the transmitters sound. -/
theorem exec_queues {c : Instr} (hs : s.QueuesSound) (h : exec c s = .next t) : t.QueuesSound := by
  cases c with
  | sample hd data | statusFan hd data | statusDamper hd data | fieldFrame ident data | fieldMgmtReq hd data =>
    exact onFrame_queues hs h fun _ hu => State.fieldReceive_queues hu _
  | panelAlarm hd rest | panelNormal hd rest | time hd data | trunkFrame ident data =>
    exact onFrame_queues hs h fun _ hu => State.trunkReceive_queues hu _
  | standardOrRemoteFrame p => exact onFrame_queues hs h fun u hu => (u.countMalformed_eases p).sound hu
  | badRequest src code tag args => exact onFrame_queues hs h fun _ hu => State.takeEncoded_queues hu src code tag args
  | entryOpen | entrySet | entryGet | entryCommission | entryRetire | entryClear | entryTune | zoneRelease
  | zoneSuppressOn | zoneSuppressOff | zoneForce | outputHandOn | outputHandOff | outputReset | readZone | readPoint
  | readOutput | readCounter | readDevice | countersClear | save | restart =>
    exact onFrame_queues hs h fun _ hu => State.takeRequest_queues hu _ _ _
  | silenceTimerExpiry i =>
    rw [exec_silenceTimerExpiry] at h
    exact onEvent_eases hs h (s.updatePoint_eases i _)
  | runOnExpiry z =>
    rw [exec_runOnExpiry] at h
    exact onEvent_eases hs h (s.updateZone_eases z _)
  | minuteTimerExpiry =>
    rw [exec_minuteTimerExpiry] at h
    exact onEvent_eases hs h s.minuteExpired_eases
  | purgeClockWrap j =>
    rw [exec_purgeClockWrap] at h
    exact onEvent_eases hs h (s.wrapClock_eases j)
  | drivePeriodExpiry =>
    rw [exec_drivePeriodExpiry] at h
    exact onEvent_queues hs h (State.allocate_queues hs)
  | pathTimerExpiry i =>
    rw [exec_pathTimerExpiry] at h
    exact onEvent_queues hs h (State.pathExpired_queues hs i)
  | startTimerExpiry i | fanStatusTimerExpiry i | stopTimerExpiry i => exact fanFault_queues hs h
  | retryTimerExpiry i =>
    rw [exec_retryTimerExpiry] at h
    exact onEvent_queues hs h (State.retryExpired_queues hs i)
  | travelTimerExpiry i | damperStatusTimerExpiry i => exact damperFault_queues hs h
  | transmitComplete p =>
    rw [exec_transmitComplete] at h
    exact onEvent_queues hs h (State.completeOffer_queues hs p)
  | failedAttempt p =>
    rw [exec_failedAttempt] at h
    exact onEvent_queues hs h (State.failOffer_queues hs p)
  | arbitrationLost p =>
    rw [exec_arbitrationLost] at h
    exact onEvent_queues hs h hs
  | frameAbandon p =>
    rw [exec_frameAbandon] at h
    exact onEvent_queues hs h (State.abandonOffer_queues hs p)
  | recoveryTimerExpiry p =>
    rw [exec_recoveryTimerExpiry] at h
    exact onEvent_queues hs h (State.recover_queues hs p)
  | saveComplete matched =>
    rw [exec_saveComplete] at h
    exact onEvent_queues hs h (State.saveCompleted_queues hs matched)
  | restartTakesEffect =>
    rw [exec_restartTakesEffect] at h
    split at h <;> cases h
    · exact State.resetDynamic_queues _
    · exact hs
  | powerOn => cases h; exact State.powerUp_queues hs
  | supplyLoss => cases h; exact (s.breakSave_eases.trans (.of_lines rfl rfl rfl)).sound hs
  | resetLineAssert => cases h; exact (s.breakSave_eases.trans (.of_lines rfl rfl rfl)).sound hs
  | resetLineRelease => cases h; exact State.release_queues hs

/-- A quarter second lets no frame join. -/
theorem State.passTime_queues (hs : s.QueuesSound) : s.passTime.QueuesSound := by
  rw [State.passTime_eq]
  split
  · exact State.finish_queues (s.ticked_eases.sound hs)
  · exact hs

/-- Settles O55: every command and every quarter second keeps the queues and the transmitters sound. -/
theorem stepKeepsQueuesSound : Obligations.StepKeepsQueuesSound := by
  unfold Obligations.StepKeepsQueuesSound
  intro s t hs h
  unfold step at h
  split at h
  · rename_i c rest hp
    exact exec_queues (s := s.setPending rest) hs h
  · unfold State.idle at h
    split at h
    · rename_i c u hnext
      rcases State.nextExpiry_state hnext with rfl | rfl
      · exact exec_queues hs h
      · exact exec_queues (s := s.setFreeIndex (s.freeIndex + 1)) hs h
    · cases h; exact State.passTime_queues hs

end

end Sys2Proof.Machine

namespace Sys2Proof.Machine

/-! ## The step of a run frame (R87) -/

section
variable {q c φ : Nat}

/-- The floor that is added at each index rises by 0 or 1. -/
theorem dither_rises (hφ : φ < 16) :
    (c + 1) * φ / 16 - c * φ / 16 ≤ 1 ∧ c * φ / 16 ≤ (c + 1) * φ / 16 := by
  rw [Nat.succ_mul]
  omega

theorem ditheredStep_eq (q : Nat) (c : Fin 16) :
    ditheredStep q c = q / 16 + ((c.val + 1) * (q % 16) / 16 - c.val * (q % 16) / 16) :=
  Nat.add_sub_assoc (dither_rises (Nat.mod_lt q (by decide))).2 _

/-- A whole speed is carried without a fraction. -/
theorem ditheredStep_of_whole (h : q % 16 = 0) (c : Fin 16) : ditheredStep q c = q / 16 := by
  rw [ditheredStep_eq, h, Nat.mul_zero, Nat.mul_zero, Nat.sub_self, Nat.add_zero]

theorem ditheredStep_cases (q : Nat) (c : Fin 16) : ditheredStep q c = q / 16 ∨ ditheredStep q c = q / 16 + 1 := by
  have h := (dither_rises (c := c.val) (Nat.mod_lt q (show 0 < 16 by decide))).1
  rw [ditheredStep_eq]
  omega

theorem ditheredStep_le (hq : q ≤ 4080) (c : Fin 16) : ditheredStep q c ≤ 255 := by
  by_cases h : q = 4080
  · rw [h, ditheredStep_of_whole (by decide)]
  · have := ditheredStep_cases q c
    omega

/-- The floors of all sixteen indices rise to the whole of the fraction. -/
theorem sum_ditheredStep (q : Nat) : ∑ c : Fin 16, ditheredStep q c = q := by
  have hmono : Monotone fun k => k * (q % 16) / 16 := fun a b h =>
    Nat.div_le_div_right (Nat.mul_le_mul_right _ h)
  have htelescope := Finset.sum_range_tsub hmono 16
  calc ∑ c : Fin 16, ditheredStep q c
      = ∑ c : Fin 16, (q / 16 + ((c.val + 1) * (q % 16) / 16 - c.val * (q % 16) / 16)) :=
        Finset.sum_congr rfl fun c _ => ditheredStep_eq q c
    _ = 16 * (q / 16) + ∑ k ∈ Finset.range 16, ((k + 1) * (q % 16) / 16 - k * (q % 16) / 16) := by
        rw [Finset.sum_add_distrib, ← Fin.sum_univ_eq_sum_range fun k => (k + 1) * (q % 16) / 16 - k * (q % 16) / 16]
        simp
    _ = q := by rw [htelescope]; omega

/-- Sixteen consecutive indices are all indices once, wherever they begin. -/
theorem sum_consecutive (g : Fin 16 → Nat) (c : Fin 16) :
    ((List.range 16).map fun n => g (c + Fin.ofNat 16 n)).sum = ∑ k : Fin 16, g k :=
  calc ((List.range 16).map fun n => g (c + Fin.ofNat 16 n)).sum
      = ∑ n ∈ Finset.range 16, g (c + Fin.ofNat 16 n) := rfl
    _ = ∑ k : Fin 16, g (c + k) := by
        rw [← Fin.sum_univ_eq_sum_range fun n => g (c + Fin.ofNat 16 n)]
        exact Finset.sum_congr rfl fun k _ => by rw [Fin.ofNat_val_eq_self]
    _ = ∑ k : Fin 16, g k := Equiv.sum_comp (Equiv.addLeft c) g

end

/-! ## What a DRIVE carries (R90) -/

section
variable {s t : State} {i : Fin 24} {f : OutputFields} {d : FanDyn} {x : DamperDyn} {e : QEntry} {node : Byte}

/-- A fan in STARTING or RUNNING is commanded to run. -/
abbrev FanState.Runs (st : FanState) : Prop := st = .starting ∨ st = .running

theorem OutputDyn.command_fan : (OutputDyn.fan d).command =
    if d.state = .hand then none
    else if d.state.Runs then some ([1, byte (ditheredStep d.q d.dither)], true) else some ([0, 0], false) := by
  cases h : d.state <;> simp [OutputDyn.command, h]

theorem OutputDyn.command_damper : (OutputDyn.damper x).command =
    if x.state = .hand then none else some ([if x.target = .opened then 1 else 0, 0], false) := by
  cases h : x.state <;> cases k : x.target <;> simp [OutputDyn.command, h, k]

/-- What an output's DRIVE carries is what its state calls for. -/
theorem State.driveEntry_data {y : OutputDyn} (h : s.outputs[i] = .inService f y) (he : s.driveEntry i = some e) :
    ∃ run, y.command = some (e.frame.data, run) := by
  unfold State.driveEntry at he
  rw [h] at he
  dsimp only at he
  split at he
  · rename_i node data run _ hcmd
    cases he
    exact ⟨run, hcmd⟩
  · cases he

/-- Settles O25: the step by its two parts, the sum by telescoping, and the frame by the fan's state. -/
theorem ditherSpreadsTheFraction : Obligations.DitherSpreadsTheFraction := by
  unfold Obligations.DitherSpreadsTheFraction
  refine ⟨fun q c => ⟨ditheredStep_eq q c, ditheredStep_cases q c, fun hq => ditheredStep_le hq c, fun hq => ?_⟩,
    fun q c => ?_, fun s i f d e hi he => ?_⟩
  · rw [hq, ditheredStep_of_whole (by decide)]
  · rw [sum_consecutive, sum_ditheredStep]
  · obtain ⟨run, hcmd⟩ := State.driveEntry_data hi he
    rw [OutputDyn.command_fan] at hcmd
    constructor <;> intro hruns
    · have hhand : d.state ≠ .hand := by rcases hruns with h | h <;> rw [h] <;> decide
      rw [if_neg hhand, if_pos hruns] at hcmd
      exact (Prod.ext_iff.1 (Option.some.inj hcmd)).1.symm
    · rw [if_neg hruns] at hcmd
      split at hcmd
      · cases hcmd
      · exact (Prod.ext_iff.1 (Option.some.inj hcmd)).1.symm

end

end Sys2Proof.Machine

namespace Sys2Proof.Machine

/-! ## A run of events, each at its own place -/

/-- A run of events at distinct places, each of which changes what is seen at its own place alone. -/
theorem foldl_pointwise {σ ι α : Type} [DecidableEq ι] {step : σ → ι → σ} {view : σ → ι → α} {g : ι → α → α}
    {keeps : σ → Prop} (hkeeps : ∀ s i, keeps s → keeps (step s i))
    (hstep : ∀ s i j, keeps s → view (step s i) j = if j = i then g i (view s i) else view s j)
    (l : List ι) (hl : l.Nodup) (s : σ) (hs : keeps s) (j : ι) :
    view (l.foldl step s) j = if j ∈ l then g j (view s j) else view s j := by
  induction l generalizing s with
  | nil => simp
  | cons a l ih =>
    obtain ⟨ha, hl⟩ := List.nodup_cons.1 hl
    rw [List.foldl_cons, ih hl _ (hkeeps s a hs), hstep s a j hs]
    by_cases hj : j = a
    · subst hj
      simp [ha]
    · simp [hj]

/-- The same over all places. -/
theorem foldl_pointwise_all {σ α : Type} {n : Nat} {step : σ → Fin n → σ} {view : σ → Fin n → α}
    {g : Fin n → α → α} {keeps : σ → Prop} (hkeeps : ∀ s i, keeps s → keeps (step s i))
    (hstep : ∀ s i j, keeps s → view (step s i) j = if j = i then g i (view s i) else view s j)
    (s : σ) (hs : keeps s) (j : Fin n) : view ((List.finRange n).foldl step s) j = g j (view s j) := by
  rw [foldl_pointwise hkeeps hstep _ (List.nodup_finRange n) s hs, if_pos (List.mem_finRange j)]

/-- What every event of a run keeps, the run keeps. -/
theorem foldl_keeps {σ ι : Type} {step : σ → ι → σ} {keeps : σ → Prop} (hkeeps : ∀ s i, keeps s → keeps (step s i))
    (l : List ι) {s : σ} (hs : keeps s) : keeps (l.foldl step s) := by
  induction l generalizing s with
  | nil => exact hs
  | cons a l ih => exact ih (hkeeps s a hs)

/-! ## The zones of an allocation (R84) -/

section
variable {s t : State} {z : Fin 8} {f : ZoneFields} {d : ZoneDyn}

/-- A zone and its report slot. -/
abbrev State.zoneView (s : State) (z : Fin 8) : Entry ZoneFields ZoneDyn × Slot := (s.zones[z], s.zoneSlots[z])

/-- A zone and its report slot after an event at it (R56). -/
def State.zoneTook (s : State) (g : ZoneDyn → ZoneDyn) (z : Fin 8) :
    Entry ZoneFields ZoneDyn × Slot → Entry ZoneFields ZoneDyn × Slot
  | (.inService f d, slot) =>
    (.inService f (g d), if d.SameReport (g d) then slot else slot.mark (s.onOffer (.zone z)))
  | v => v

theorem State.zoneTook_congr (h : t.trunk = s.trunk) : t.zoneTook = s.zoneTook := by
  funext g z v
  unfold State.zoneTook
  rw [State.onOffer_congr h]

theorem State.updateZone_view (s : State) (z y : Fin 8) (g : ZoneDyn → ZoneDyn) :
    (s.updateZone z g).zoneView y = if y = z then s.zoneTook g z (s.zoneView z) else s.zoneView y := by
  by_cases hy : y = z
  · subst hy
    rw [if_pos rfl]
    cases hz : s.zones[y] with
    | inService f d =>
      rw [State.zoneView, State.updateZone_self hz, State.updateZone_slot hz, State.zoneView, hz]
      rfl
    | vacant | draft f =>
      rw [State.updateZone_of_not (by rw [hz]; rfl), State.zoneView, hz]
      rfl
  · rw [if_neg hy]
    obtain ⟨hzones, hslots⟩ := State.updateZone_other (g := g) (s := s) hy
    rw [State.zoneView, hzones, hslots]

/-- What the zones of an allocation take, each for itself (R84). -/
theorem State.deliverZones_view (s : State) (demands : Vector Nat 8) (shares : Vector (Vector Nat 4) 8) (z : Fin 8) :
    (s.deliverZones demands shares).zoneView z =
      s.zoneTook (fun d => d.allocated demands[z] shares[z]) z (s.zoneView z) := by
  refine foldl_pointwise_all (view := State.zoneView) (keeps := fun t => t.trunk = s.trunk)
    (g := fun z => s.zoneTook (fun d => d.allocated demands[z] shares[z]) z) (fun t z ht => ?_)
    (fun t z y ht => ?_) s rfl z
  · rw [State.updateZone_frame]; exact ht
  · rw [State.updateZone_view, State.zoneTook_congr ht]

/-- Between `s` and `t` nothing changed but the zones and their slots. -/
abbrev State.OnlyZones (s t : State) : Prop := t = { s with zones := t.zones, zoneSlots := t.zoneSlots }

theorem State.OnlyZones.trans {u : State} (h : s.OnlyZones t) (k : t.OnlyZones u) : s.OnlyZones u := by
  unfold State.OnlyZones at *; rw [k, h]

theorem State.updateZone_onlyZones (s : State) (z : Fin 8) (g : ZoneDyn → ZoneDyn) : s.OnlyZones (s.updateZone z g) :=
  s.updateZone_frame z g

theorem State.deliverZones_onlyZones (s : State) (demands : Vector Nat 8) (shares : Vector (Vector Nat 4) 8) :
    s.OnlyZones (s.deliverZones demands shares) :=
  foldl_keeps (keeps := s.OnlyZones) (fun t z ht => ht.trans (t.updateZone_onlyZones z _)) _ rfl

theorem State.zonesDelivered_view (s : State) (z : Fin 8) : s.zonesDelivered.zoneView z =
    s.zoneTook (fun d => d.allocated (s.demand z) s.sharing.shares[z]) z (s.zoneView z) := by
  have hview := (s.setDriveTimer s.active.drivePeriod).deliverZones_view (Vector.ofFn s.demand) s.sharing.shares z
  rw [vector_ofFn_get, State.zoneTook_congr (s := s) (t := s.setDriveTimer s.active.drivePeriod) rfl] at hview
  exact hview

/-- An IN_SERVICE zone takes its demand, shares, delivered flow and SHORT, and its slot is set when SHORT changes. -/
theorem State.zonesDelivered_zone (h : s.zones[z] = .inService f d) :
    s.zonesDelivered.zones[z] = .inService f (d.allocated (s.demand z) s.sharing.shares[z])
      ∧ s.zonesDelivered.zoneSlots[z] =
        if (d.allocated (s.demand z) s.sharing.shares[z]).short = d.short then s.zoneSlots[z]
        else s.zoneSlots[z].mark (s.onOffer (.zone z)) := by
  have hview := s.zonesDelivered_view z
  rw [show s.zoneView z = (.inService f d, s.zoneSlots[z]) from Prod.ext h rfl] at hview
  obtain ⟨hzone, hslot⟩ := Prod.ext_iff.1 hview
  refine ⟨hzone, hslot.trans (if_congr ?_ rfl rfl)⟩
  exact ⟨fun ⟨_, _, _, _, hshort, _⟩ => hshort, fun hshort => ⟨rfl, rfl, rfl, rfl, hshort, rfl, rfl, Iff.rfl⟩⟩

theorem State.zonesDelivered_out (h : s.zones[z].isInService = false) :
    s.zonesDelivered.zones[z] = s.zones[z] ∧ s.zonesDelivered.zoneSlots[z] = s.zoneSlots[z] := by
  have hview := s.zonesDelivered_view z
  have hsame (v : Entry ZoneFields ZoneDyn × Slot) (hv : v.1.isInService = false) (g : ZoneDyn → ZoneDyn) :
      s.zoneTook g z v = v := by
    obtain ⟨e, slot⟩ := v
    cases e with
    | inService f d => cases hv
    | vacant | draft f => rfl
  rw [hsame _ h] at hview
  obtain ⟨hzone, hslot⟩ := Prod.ext_iff.1 hview
  exact ⟨hzone, hslot⟩

theorem State.zonesDelivered_frame (s : State) :
    (s.setDriveTimer s.active.drivePeriod).OnlyZones s.zonesDelivered := by
  unfold State.zonesDelivered
  exact State.deliverZones_onlyZones _ _ _

end

/-! ## Events at the outputs, each for itself -/

/-- An output's entry after an event at it as a fan. -/
def Entry.mapFan (g : OutputFields → FanDyn → FanDyn) : Entry OutputFields OutputDyn → Entry OutputFields OutputDyn
  | .inService f (.fan d) => .inService f (.fan (g f d))
  | e => e

/-- An output's entry after an event at it as a damper. -/
def Entry.mapDamper (g : OutputFields → DamperDyn → DamperDyn) :
    Entry OutputFields OutputDyn → Entry OutputFields OutputDyn
  | .inService f (.damper d) => .inService f (.damper (g f d))
  | e => e

section
variable {s t u : State} {i j : Fin 24} {f : OutputFields} {d : FanDyn} {x : DamperDyn}

theorem State.updateFan_outputs (s : State) (i j : Fin 24) (g : OutputFields → FanDyn → FanDyn) :
    (s.updateFan i g).outputs[j] = if j = i then s.outputs[i].mapFan g else s.outputs[j] := by
  unfold State.updateFan
  split
  · rename_i f d h
    rw [h]
    split <;> exact (vector_set_get _ i j _).trans (if_congr eq_comm rfl rfl)
  · rename_i h
    have hsame : s.outputs[i].mapFan g = s.outputs[i] := by
      unfold Entry.mapFan
      split
      · rename_i f d e; exact absurd e (h f d)
      · rfl
    rw [hsame]
    split
    · rename_i hj; rw [hj]
    · rfl

theorem State.updateDamper_outputs (s : State) (i j : Fin 24) (g : OutputFields → DamperDyn → DamperDyn) :
    (s.updateDamper i g).outputs[j] = if j = i then s.outputs[i].mapDamper g else s.outputs[j] := by
  unfold State.updateDamper
  split
  · rename_i f d h
    rw [h]
    split <;> exact (vector_set_get _ i j _).trans (if_congr eq_comm rfl rfl)
  · rename_i h
    have hsame : s.outputs[i].mapDamper g = s.outputs[i] := by
      unfold Entry.mapDamper
      split
      · rename_i f d e; exact absurd e (h f d)
      · rfl
    rw [hsame]
    split
    · rename_i hj; rw [hj]
    · rfl

/-- An event at a fan that R168 does not name leaves the trouble slots alone. -/
theorem State.updateFan_slots {g : OutputFields → FanDyn → FanDyn}
    (h : ∀ f d, s.outputs[i] = .inService f (.fan d) → fanTrouble d (g f d) = none) :
    (s.updateFan i g).outputSlots = s.outputSlots := by
  unfold State.updateFan
  split
  · rename_i f d e
    rw [h f d e]
    rfl
  · rfl

theorem State.updateDamper_slots {g : OutputFields → DamperDyn → DamperDyn}
    (h : ∀ f d, s.outputs[i] = .inService f (.damper d) → damperTrouble d.state (g f d).state = none) :
    (s.updateDamper i g).outputSlots = s.outputSlots := by
  unfold State.updateDamper
  split
  · rename_i f d e
    dsimp only
    rw [h f d e]
    rfl
  · rfl

/-! ### The deliveries (R90, R100, R109) -/

/-- What becomes of an output's entry as it takes its delivery. -/
def Entry.delivered (flow : Nat) (hold : HoldMark) (target : DamperTarget) :
    Entry OutputFields OutputDyn → Entry OutputFields OutputDyn
  | .inService f (.fan d) => .inService f (.fan (d.deliver f (fanResult f flow hold)))
  | .inService f (.damper d) => .inService f (.damper (d.deliver f target))
  | e => e

theorem Entry.delivered_eq (flow : Nat) (hold : HoldMark) (target : DamperTarget) (e : Entry OutputFields OutputDyn) :
    (e.mapFan fun f => FanDyn.deliver f (fanResult f flow hold)).mapDamper (fun f => DamperDyn.deliver f target) =
      e.delivered flow hold target := by
  unfold Entry.mapFan Entry.delivered
  cases e with
  | inService f d => cases d <;> rfl
  | vacant | draft f => rfl

theorem State.deliverOutputs_outputs (s : State) (flows : Vector Nat 24) (holds : Vector HoldMark 24)
    (targets : Vector DamperTarget 24) (i : Fin 24) :
    (s.deliverOutputs flows holds targets).outputs[i] = s.outputs[i].delivered flows[i] holds[i] targets[i] := by
  unfold State.deliverOutputs
  refine foldl_pointwise_all (view := fun (t : State) (i : Fin 24) => t.outputs[i]) (keeps := fun _ => True)
    (g := fun i => Entry.delivered flows[i] holds[i] targets[i]) (fun _ _ _ => trivial) (fun t i j _ => ?_) s trivial i
  rw [State.updateDamper_outputs, State.updateFan_outputs, State.updateFan_outputs, if_pos rfl, Entry.delivered_eq]
  split
  · rfl
  · rfl

/-- A fan with the results of an allocation noted (R90). -/
def FanDyn.told (r : FanResult) (d : FanDyn) : FanDyn :=
  { d with flow := r.flow, q := r.q, run := r.run, hold := r.hold }

section
variable {r : FanResult}

/-! What a fan does with its delivery, by its state (R100). -/

theorem FanDyn.deliver_of_stopped (hs : d.state = .stopped) :
    d.deliver f r = if r.run then (d.told r).toPathWait f else d.told r := by
  cases hr : r.run <;> simp [FanDyn.deliver, FanDyn.told, hs, hr]

theorem FanDyn.deliver_of_pathWait (hs : d.state = .pathWait) :
    d.deliver f r = if r.run then d.told r else (d.told r).toStopped := by
  cases hr : r.run <;> simp [FanDyn.deliver, FanDyn.told, hs, hr]

theorem FanDyn.deliver_of_runs (hs : d.state.Runs) :
    d.deliver f r = if r.run then d.told r else (d.told r).toStopping f := by
  rcases hs with hs | hs <;> cases hr : r.run <;> simp [FanDyn.deliver, FanDyn.told, hs, hr]

theorem FanDyn.deliver_of_stopping (hs : d.state = .stopping) :
    d.deliver f r = if r.run then (d.told r).toStarting f else d.told r := by
  cases hr : r.run <;> simp [FanDyn.deliver, FanDyn.told, hs, hr]

theorem FanDyn.deliver_of_out (hs : d.state.isFault = true ∨ d.state = .hand) : d.deliver f r = d.told r := by
  cases k : d.state with
  | fault _ | hand => simp [FanDyn.deliver, FanDyn.told, k]
  | _ => rw [k] at hs; simp [FanState.isFault] at hs

end

theorem DamperDyn.deliver_of_same {target : DamperTarget} (h : target = x.target) : x.deliver f target = x := if_pos h

theorem DamperDyn.deliver_of_moves {target : DamperTarget} (h : target ≠ x.target)
    (hs : x.state = .settled ∨ x.state = .travelling) :
    x.deliver f target = ({ x with target := target } : DamperDyn).toTravelling f := by
  rw [DamperDyn.deliver, if_neg h]
  rcases hs with hs | hs <;> simp only [hs]

theorem DamperDyn.deliver_of_out {target : DamperTarget} (h : target ≠ x.target)
    (hs : x.state.isFault = true ∨ x.state = .hand) : x.deliver f target = { x with target := target } := by
  rw [DamperDyn.deliver, if_neg h]
  cases k : x.state with
  | fault _ | hand => rfl
  | _ => rw [k] at hs; simp [DamperState.isFault] at hs

/-- A delivery neither raises nor ends a trouble (R168). -/
theorem FanDyn.deliver_untroubled (h : d.Sound) (r : FanResult) : fanTrouble d (d.deliver f r) = none := by
  obtain ⟨-, -, -, -, -, -, -, hpath, -⟩ := h
  unfold fanTrouble
  cases hs : d.state with
  | stopped =>
    have hno : d.noPath = false := by simpa [hs] using hpath
    rw [FanDyn.deliver_of_stopped hs]
    cases r.run <;> simp [hs, hno, FanDyn.toPathWait, FanDyn.told]
  | pathWait =>
    have hno : d.noPath = false := by simpa [hs] using hpath
    rw [FanDyn.deliver_of_pathWait hs]
    cases r.run <;> simp [hs, hno, FanDyn.toStopped, FanDyn.told]
  | starting | running =>
    rw [FanDyn.deliver_of_runs (by rw [hs]; decide)]
    cases r.run <;> simp [hs, FanDyn.toStopping, FanDyn.told, FanDyn.stopTimers]
  | stopping =>
    rw [FanDyn.deliver_of_stopping hs]
    cases r.run <;> simp [hs, FanDyn.toStarting, FanDyn.told, FanDyn.stopTimers]
  | fault q | hand =>
    rw [FanDyn.deliver_of_out (by simp [hs, FanState.isFault])]
    simp [hs, FanDyn.told]

theorem DamperDyn.deliver_untroubled (x : DamperDyn) (target : DamperTarget) :
    damperTrouble x.state (x.deliver f target).state = none := by
  unfold damperTrouble
  by_cases h : target = x.target
  · rw [DamperDyn.deliver_of_same h]
    cases x.state <;> rfl
  · cases hs : x.state with
    | settled | travelling =>
      rw [DamperDyn.deliver_of_moves h (by simp [hs])]
      rfl
    | fault q | hand =>
      rw [DamperDyn.deliver_of_out h (by simp [hs, DamperState.isFault])]
      simp [hs]

/-- The deliveries of an allocation set no trouble slot. -/
theorem State.deliverOutputs_slots (hs : s.MachinesSound) (flows : Vector Nat 24) (holds : Vector HoldMark 24)
    (targets : Vector DamperTarget 24) : (s.deliverOutputs flows holds targets).outputSlots = s.outputSlots := by
  unfold State.deliverOutputs
  refine (foldl_keeps (keeps := fun t : State => t.MachinesSound ∧ t.outputSlots = s.outputSlots) (fun t i ht => ?_) _
    ⟨hs, rfl⟩).2
  obtain ⟨hsound, hslots⟩ := ht
  have hfan : (t.updateFan i fun f => FanDyn.deliver f (fanResult f flows[i] holds[i])).MachinesSound :=
    State.updateFan_machines hsound fun _ _ _ h => FanDyn.deliver_sound h _
  refine ⟨State.updateDamper_machines hfan fun _ _ _ h => DamperDyn.deliver_sound h _, ?_⟩
  rw [State.updateDamper_slots fun _ x _ => x.deliver_untroubled _,
    State.updateFan_slots fun f d hd => FanDyn.deliver_untroubled (hsound.fan hd).2 _, hslots]

end

/-! ### The path check (R101) -/

/-- What becomes of an output's entry in a path check that proves its path, or not. -/
def Entry.started (proved : Bool) : Entry OutputFields OutputDyn → Entry OutputFields OutputDyn
  | .inService f (.fan d) => .inService f (.fan (if d.state = .pathWait ∧ proved = true then d.toStarting f else d))
  | e => e

/-- A path check of one fan: in PATH_WAIT it is started when its path is proved. -/
def State.startWhere (ok : State → Fin 24 → Bool) (s : State) (i : Fin 24) : State :=
  if s.fanIs i .pathWait && ok s i then s.startFan i else s

/-- A path check of every fan, in ascending order. -/
def State.startAll (ok : State → Fin 24 → Bool) (s : State) : State := (List.finRange 24).foldl (State.startWhere ok) s

/-- A condition that does not depend on the state of any fan. -/
def FanBlind (ok : State → Fin 24 → Bool) : Prop :=
  ∀ s t : State, t.zones = s.zones → (∀ j, t.damper? j = s.damper? j) → ok t = ok s

section
variable {s t u : State} {i j : Fin 24} {f : OutputFields} {d : FanDyn} {ok : State → Fin 24 → Bool}

theorem State.pathCheck_eq (s : State) : s.pathCheck = s.startAll State.pathProved := rfl

theorem State.pathCheckThrough_eq (s : State) (damper : Fin 24) :
    s.pathCheckThrough damper = s.startAll fun s i => s.servedBranch i (· == some damper) := rfl

theorem State.servedBranch_congr (h : t.zones = s.zones) : t.servedBranch = s.servedBranch := by
  funext i ok
  unfold State.servedBranch
  rw [h]

theorem State.servedBranch_fanBlind (test : Option (Fin 24) → Bool) : FanBlind fun s i => s.servedBranch i test :=
  fun _ _ hz _ => funext fun i => congrFun (congrFun (State.servedBranch_congr hz) i) test

theorem State.pathProved_fanBlind : FanBlind State.pathProved := by
  intro s t hz hd
  have hopen : t.reportedOpen = s.reportedOpen := by
    funext j
    unfold State.reportedOpen
    rw [hd]
  funext i
  unfold State.pathProved
  rw [State.servedBranch_congr hz, hopen]

theorem State.fanIs_of (h : s.outputs[i] = .inService f (.fan d)) (st : FanState) : s.fanIs i st = (d.state == st) := by
  unfold State.fanIs State.fan?
  rw [h]

theorem State.fanIs_iff {st : FanState} :
    s.fanIs i st = true ↔ ∃ f d, s.outputs[i] = .inService f (.fan d) ∧ d.state = st := by
  unfold State.fanIs State.fan?
  cases h : s.outputs[i] with
  | inService f d => cases d <;> simp
  | vacant | draft f => simp

theorem State.queueDrive_outputs (s : State) (i : Fin 24) : (s.queueDrive i).outputs = s.outputs := by
  rw [State.queueDrive_eq]; rfl

theorem State.startWhere_of (h : (s.fanIs i .pathWait && ok s i) = true) : s.startWhere ok i = s.startFan i := if_pos h

theorem State.startWhere_of_not (h : (s.fanIs i .pathWait && ok s i) = false) : s.startWhere ok i = s :=
  if_neg (by rw [h]; decide)

/-- The entries after one fan's path check. -/
theorem State.startWhere_outputs (ok : State → Fin 24 → Bool) (s : State) (i j : Fin 24) :
    (s.startWhere ok i).outputs[j] = if j = i then s.outputs[i].started (ok s i) else s.outputs[j] := by
  cases h : s.fanIs i .pathWait && ok s i with
  | true =>
    obtain ⟨hfan, hok⟩ := Bool.and_eq_true_iff.1 h
    obtain ⟨f, d, hd, hst⟩ := State.fanIs_iff.1 hfan
    have hstart : s.outputs[i].mapFan FanDyn.toStarting = s.outputs[i].started (ok s i) := by
      rw [hd, hok]
      simp [Entry.mapFan, Entry.started, hst]
    rw [State.startWhere_of h, ← hstart, ← State.updateFan_outputs]
    exact congrArg (fun v : Vector _ 24 => v[j]) (State.queueDrive_outputs _ i)
  | false =>
    have hsame : s.outputs[i].started (ok s i) = s.outputs[i] := by
      cases hd : s.outputs[i] with
      | vacant | draft f => rfl
      | inService f d =>
        cases d with
        | damper x => rfl
        | fan d =>
          rw [State.fanIs_of hd] at h
          rw [Entry.started, if_neg (by simpa using h)]
    rw [State.startWhere_of_not h, hsame]
    split
    · rename_i hj; rw [hj]
    · rfl

theorem State.startWhere_onlyOutputs (ok : State → Fin 24 → Bool) (s : State) (i : Fin 24) :
    s.OnlyOutputs (s.startWhere ok i) := by
  unfold State.startWhere
  split
  · exact s.startFan_onlyOutputs i
  · exact .refl s

theorem Entry.started_damper {proved : Bool} {e : Entry OutputFields OutputDyn} {x : DamperDyn} :
    e.started proved = .inService f (.damper x) ↔ e = .inService f (.damper x) := by
  unfold Entry.started
  split <;> simp

theorem State.damper?_eq_some {x : DamperDyn} :
    s.damper? i = some x ↔ ∃ f, s.outputs[i] = .inService f (.damper x) := by
  unfold State.damper?
  cases s.outputs[i] with
  | inService f d => cases d <;> simp
  | vacant | draft f => simp

theorem State.startWhere_damper? (ok : State → Fin 24 → Bool) (s : State) (i j : Fin 24) :
    (s.startWhere ok i).damper? j = s.damper? j := by
  refine Option.ext fun x => ?_
  rw [State.damper?_eq_some, State.damper?_eq_some, State.startWhere_outputs]
  split
  · rename_i hj
    rw [hj]
    exact exists_congr fun f => Entry.started_damper
  · rfl

/-- A start from PATH_WAIT neither raises nor ends a trouble (R168). -/
theorem State.startWhere_slots (ok : State → Fin 24 → Bool) (s : State) (i : Fin 24) :
    (s.startWhere ok i).outputSlots = s.outputSlots := by
  unfold State.startWhere
  split
  · rename_i h
    obtain ⟨f, d, hd, hst⟩ := State.fanIs_iff.1 (Bool.and_eq_true_iff.1 h).1
    have hquiet : fanTrouble d (d.toStarting f) = none := by
      simp [fanTrouble, hst, FanDyn.toStarting, FanDyn.stopTimers]
    rw [State.startFan, State.queueDrive_eq]
    refine State.updateFan_slots fun g e he => ?_
    cases hd.symm.trans he
    exact hquiet
  · rfl

/-- What a path check keeps: the zones, and what every damper has reported. -/
structure State.SamePaths (s t : State) : Prop where
  zones : t.zones = s.zones
  dampers : ∀ j, t.damper? j = s.damper? j

theorem State.SamePaths.startWhere (h : s.SamePaths t) (i : Fin 24) : s.SamePaths (t.startWhere ok i) where
  zones := by
    have hz : (t.startWhere ok i).zones = t.zones := by rw [t.startWhere_onlyOutputs ok i]
    exact hz.trans h.zones
  dampers j := (State.startWhere_damper? ok t i j).trans (h.dampers j)

/-- The entries after a path check of every fan, each for itself. -/
theorem State.startAll_outputs (hok : FanBlind ok) (s : State) (j : Fin 24) :
    (s.startAll ok).outputs[j] = s.outputs[j].started (ok s j) := by
  unfold State.startAll
  refine foldl_pointwise_all (view := fun (t : State) (i : Fin 24) => t.outputs[i]) (keeps := s.SamePaths)
    (g := fun i => Entry.started (ok s i)) (fun t i ht => ht.startWhere i) (fun t i j ht => ?_) s
    ⟨rfl, fun _ => rfl⟩ j
  rw [State.startWhere_outputs, hok s t ht.zones ht.dampers]

theorem State.startAll_slots (ok : State → Fin 24 → Bool) (s : State) :
    (s.startAll ok).outputSlots = s.outputSlots :=
  foldl_keeps (keeps := fun t : State => t.outputSlots = s.outputSlots)
    (fun t i ht => (t.startWhere_slots ok i).trans ht) _ rfl

end

/-! ## DRIVE frames in their places (R90, R91) -/

/-- The frames of a queue once the DRIVE of an output has taken its place, where it has one. -/
def placeDrive (frames : List (Frame × Origin)) (i : Fin 24) : Option (Frame × Origin) → List (Frame × Origin)
  | some x =>
    if frames.any (·.2.isDriveOf i) then frames.map fun y => if y.2.isDriveOf i then x else y else frames ++ [x]
  | none => frames

/-- The DRIVE of an output as it stands, with what it is. -/
def State.drive? (s : State) (i : Fin 24) : Option (Frame × Origin) :=
  (s.driveEntry i).map fun e => (e.frame, e.origin)

/-- The frames of a queue once the DRIVE of every output has taken its place, in ascending order of the outputs. -/
def placeDrives (drive : Fin 24 → Option (Frame × Origin)) (frames : List (Frame × Origin)) : List (Frame × Origin) :=
  (List.finRange 24).foldl (fun frames i => placeDrive frames i (drive i)) frames

section
variable {s t u : State} {i j : Fin 24} {frames : List (Frame × Origin)} {x y : Frame × Origin}
  {drive : Fin 24 → Option (Frame × Origin)}

theorem withDrive_eq (frames : List (Frame × Origin)) (i : Fin 24) (run : Bool) (f : Frame) :
    withDrive frames i run f = placeDrive frames i (some (f, .drive i run)) := rfl

theorem State.drive?_isDriveOf (h : s.drive? i = some x) : x.2.isDriveOf i = true := by
  obtain ⟨e, he, rfl⟩ := Option.map_eq_some_iff.1 h
  obtain ⟨run, ho, -⟩ := State.driveEntry_some he
  exact Origin.isDriveOf_iff.2 ⟨run, ho⟩

/-- Queuing a DRIVE puts it in its place. -/
theorem State.queueDrive_frames (s : State) (i : Fin 24) :
    (s.queueDrive i).field.frames = placeDrive s.field.frames i (s.drive? i) := by
  unfold State.drive?
  cases h : s.driveEntry i with
  | none => rw [State.queueDrive_of_none h]; rfl
  | some e =>
    obtain ⟨run, ho, ha⟩ := State.driveEntry_some h
    obtain ⟨f, o, a⟩ := e
    obtain rfl : o = .drive i run := ho
    obtain rfl : a = none := ha
    rw [State.queueDrive_of_some h]
    exact frames_joinDrive s.field i run f

/-- The DRIVE of an output, wherever it waits, makes room for another. -/
def replaceDrive (i : Fin 24) (y : Frame × Origin) (frames : List (Frame × Origin)) : List (Frame × Origin) :=
  frames.map fun x => if x.2.isDriveOf i then y else x

theorem placeDrive_of_any (h : frames.any (·.2.isDriveOf i) = true) :
    placeDrive frames i (some y) = replaceDrive i y frames := if_pos h

theorem replaceDrive_of_not_any (h : frames.any (·.2.isDriveOf i) = false) : replaceDrive i y frames = frames := by
  refine (List.map_congr_left fun x hx => ?_).trans (List.map_id _)
  rw [if_neg (by simpa using List.any_eq_false.1 h x hx)]
  rfl

/-- The place of a DRIVE does not depend on what it carries. -/
theorem replaceDrive_placeDrive_self (hx : x.2.isDriveOf i = true) :
    replaceDrive i y (placeDrive frames i (some x)) = placeDrive frames i (some y) := by
  cases h : frames.any (·.2.isDriveOf i) with
  | true =>
    rw [placeDrive_of_any h, placeDrive_of_any h, replaceDrive, replaceDrive, List.map_map]
    refine List.map_congr_left fun z _ => ?_
    by_cases hz : z.2.isDriveOf i = true <;> simp [hz, hx]
  | false =>
    have hplace (z : Frame × Origin) : placeDrive frames i (some z) = frames ++ [z] := if_neg (by rw [h]; decide)
    rw [hplace, hplace, replaceDrive, List.map_append]
    exact congrArg₂ _ (replaceDrive_of_not_any h) (by simp [hx])

theorem Origin.isDriveOf_ne {o : Origin} (hj : i ≠ j) (ho : o.isDriveOf i = true) : o.isDriveOf j = false := by
  cases o <;> simp_all [Origin.isDriveOf]

/-- What one output's DRIVE carries is no matter to the place of another's. -/
theorem replaceDrive_placeDrive_ne (hj : i ≠ j) (hy : y.2.isDriveOf i = true) {o : Option (Frame × Origin)}
    (ho : ∀ x ∈ o, x.2.isDriveOf j = true) :
    replaceDrive i y (placeDrive frames j o) = placeDrive (replaceDrive i y frames) j o := by
  cases o with
  | none => rfl
  | some x =>
    have hx := Origin.isDriveOf_ne hj.symm (ho x rfl)
    have hyj := Origin.isDriveOf_ne hj hy
    have hany : (replaceDrive i y frames).any (·.2.isDriveOf j) = frames.any (·.2.isDriveOf j) := by
      rw [replaceDrive, List.any_map]
      congr 1
      funext z
      by_cases hz : z.2.isDriveOf i = true
      · simp [hz, hyj, Origin.isDriveOf_ne hj hz]
      · simp [hz]
    unfold placeDrive
    dsimp only
    rw [hany]
    split
    · rw [replaceDrive, replaceDrive, List.map_map, List.map_map]
      refine List.map_congr_left fun z _ => ?_
      by_cases hz : z.2.isDriveOf i = true
      · simp [hz, hyj, Origin.isDriveOf_ne hj hz]
      · by_cases hzj : z.2.isDriveOf j = true <;> simp [hz, hzj, hx]
    · simp [replaceDrive, hx]

/-- A DRIVE that takes the place of one of those that were placed has been placed in its stead. -/
theorem replaceDrive_foldl (hdrive : ∀ j, ∀ x ∈ drive j, x.2.isDriveOf j = true) (hy : y.2.isDriveOf i = true)
    (l : List (Fin 24)) (hl : l.Nodup) (hi : i ∈ l → (drive i).isSome = true) (frames : List (Frame × Origin)) :
    replaceDrive i y (l.foldl (fun frames i => placeDrive frames i (drive i)) frames) =
      l.foldl (fun frames j => placeDrive frames j (Function.update drive i (some y) j))
        (if i ∈ l then frames else replaceDrive i y frames) := by
  induction l generalizing frames with
  | nil => rfl
  | cons a l ih =>
    obtain ⟨ha, hl⟩ := List.nodup_cons.1 hl
    rw [List.foldl_cons, List.foldl_cons, ih hl fun h => hi (List.mem_cons_of_mem _ h)]
    by_cases hia : i = a
    · subst hia
      obtain ⟨x, hx⟩ := Option.isSome_iff_exists.1 (hi List.mem_cons_self)
      rw [if_neg ha, if_pos List.mem_cons_self, Function.update_self, hx, replaceDrive_placeDrive_self (hdrive i x hx)]
    · rw [Function.update_of_ne (Ne.symm hia)]
      by_cases hil : i ∈ l
      · rw [if_pos hil, if_pos (List.mem_cons_of_mem _ hil)]
      · rw [if_neg hil, if_neg (by simp [hia, hil]), replaceDrive_placeDrive_ne hia hy (hdrive a)]

end
end Sys2Proof.Machine

namespace Sys2Proof.Machine

section
variable {s t u : State} {i j : Fin 24} {frames : List (Frame × Origin)} {x y : Frame × Origin}
  {drive : Fin 24 → Option (Frame × Origin)} {f : OutputFields} {d : FanDyn} {ok : State → Fin 24 → Bool}

/-! ## The DRIVE of every output in its place (R90, R91) -/

theorem mem_placeDrive_self : x ∈ placeDrive frames i (some x) := by
  unfold placeDrive
  dsimp only
  split
  · rename_i h
    obtain ⟨z, hz, hd⟩ := List.any_eq_true.1 h
    exact List.mem_map.2 ⟨z, hz, if_pos hd⟩
  · simp

theorem mem_placeDrive_of_mem (hx : x ∈ frames) (hj : x.2.isDriveOf j = false) (o : Option (Frame × Origin)) :
    x ∈ placeDrive frames j o := by
  unfold placeDrive
  split
  · split
    · exact List.mem_map.2 ⟨x, hx, if_neg (by rw [hj]; decide)⟩
    · exact List.mem_append_left _ hx
  · exact hx

/-- Every DRIVE that is placed is in the queue. -/
theorem mem_placeDrives (hx : drive i = some x) (hd : x.2.isDriveOf i = true) (frames : List (Frame × Origin)) :
    x ∈ placeDrives drive frames := by
  have hlater (l : List (Fin 24)) (hi : i ∉ l) (frames : List (Frame × Origin)) (hm : x ∈ frames) :
      x ∈ l.foldl (fun frames i => placeDrive frames i (drive i)) frames := by
    induction l generalizing frames with
    | nil => exact hm
    | cons a l ih =>
      obtain ⟨ha, hl⟩ := not_or.1 (mt List.mem_cons.2 hi)
      exact ih hl _ (mem_placeDrive_of_mem hm (Origin.isDriveOf_ne ha hd) _)
  obtain ⟨pre, post, hall⟩ := List.append_of_mem (List.mem_finRange i)
  have hnodup := List.nodup_finRange 24
  rw [hall] at hnodup
  have hpost : i ∉ post := (List.nodup_cons.1 (List.nodup_append.1 hnodup).2.1).1
  rw [placeDrives, hall, List.foldl_append, List.foldl_cons, hx]
  exact hlater post hpost _ mem_placeDrive_self

/-- A DRIVE that is placed once more takes its own place. -/
theorem placeDrive_placeDrives (hdrive : ∀ j, ∀ x ∈ drive j, x.2.isDriveOf j = true) (hy : y.2.isDriveOf i = true)
    (hi : (drive i).isSome = true) (frames : List (Frame × Origin)) :
    placeDrive (placeDrives drive frames) i (some y) = placeDrives (Function.update drive i (some y)) frames := by
  obtain ⟨x, hx⟩ := Option.isSome_iff_exists.1 hi
  have hmem := mem_placeDrives hx (hdrive i x hx) frames
  rw [placeDrive_of_any (List.any_eq_true.2 ⟨x, hmem, hdrive i x hx⟩), placeDrives,
    replaceDrive_foldl hdrive hy _ (List.nodup_finRange 24) fun _ => hi, if_pos (List.mem_finRange i)]
  rfl

/-- The DRIVE of an IN_SERVICE output, if it has a node and is not in HAND. -/
theorem State.drive?_of {c : OutputDyn} (h : s.outputs[i] = .inService f c) : s.drive? i =
    f.node.bind fun node => c.command.map fun x => (s.originate 2 kindDrive node x.1, .drive i x.2) := by
  unfold State.drive? State.driveEntry
  rw [h]
  dsimp only
  cases f.node <;> cases c.command <;> rfl

theorem State.drive?_of_not (h : s.outputs[i].isInService = false) : s.drive? i = none := by
  unfold State.drive? State.driveEntry
  cases hi : s.outputs[i] with
  | inService f c => rw [hi] at h; cases h
  | vacant | draft f => rfl

theorem State.drive?_congr (ho : t.outputs[i] = s.outputs[i]) (ha : t.active = s.active) : t.drive? i = s.drive? i := by
  cases hi : s.outputs[i] with
  | inService f c =>
    rw [State.drive?_of (ho.trans hi), State.drive?_of hi]
    unfold State.originate
    rw [ha]
  | vacant | draft f =>
    rw [State.drive?_of_not (by rw [ho, hi]; rfl), State.drive?_of_not (by rw [hi]; rfl)]

theorem State.OnlyLines.drive? (h : s.OnlyLines t) : t.drive? = s.drive? :=
  funext fun i => State.drive?_congr (by rw [h.outputs]) (by rw [h])

/-- The FIELD queue of a part is an older one in which the DRIVE of every output has taken its place. -/
abbrev State.DrivesPlaced (frames : List (Frame × Origin)) (u : State) : Prop :=
  u.field.frames = placeDrives u.drive? frames

/-- The DRIVE frames of an allocation (R90). -/
theorem State.queueDrives_placed (s : State) : State.DrivesPlaced s.field.frames s.queueDrives := by
  have hrun (l : List (Fin 24)) (u : State) (hu : u.drive? = s.drive?) : (l.foldl State.queueDrive u).field.frames =
      l.foldl (fun frames i => placeDrive frames i (s.drive? i)) u.field.frames := by
    induction l generalizing u with
    | nil => rfl
    | cons a l ih =>
      have ha : (u.queueDrive a).drive? = s.drive? := (u.queueDrive_onlyLines a).drive?.trans hu
      rw [List.foldl_cons, List.foldl_cons, ih _ ha, State.queueDrive_frames, hu]
  have hsame : s.queueDrives.drive? = s.drive? :=
    foldl_keeps (keeps := fun t : State => t.drive? = s.drive?)
      (fun t i ht => (t.queueDrive_onlyLines i).drive?.trans ht) _ rfl
  unfold State.DrivesPlaced
  rw [hsame]
  exact hrun _ s rfl

/-- The DRIVE of a fan, if it has a node and is not in HAND. -/
theorem State.drive?_fan (h : s.outputs[i] = .inService f (.fan d)) (hst : d.state ≠ .hand) : s.drive? i =
    f.node.map fun node => (s.originate 2 kindDrive node
      (if d.state.Runs then [1, byte (ditheredStep d.q d.dither)] else [0, 0]),
      .drive i (Decidable.decide d.state.Runs)) := by
  rw [State.drive?_of h, OutputDyn.command_fan, if_neg hst]
  cases f.node with
  | none => rfl
  | some node => by_cases hr : d.state.Runs <;> simp [hr]

theorem FanDyn.toStarting_runs : (d.toStarting f).state.Runs := .inl rfl

/-- A fan that is started has its run frame take the place of its stop frame (R91, R101). -/
theorem State.startWhere_placed (h : u.DrivesPlaced frames) : (u.startWhere ok i).DrivesPlaced frames := by
  cases hstart : u.fanIs i .pathWait && ok u i with
  | false => rwa [State.startWhere_of_not hstart]
  | true =>
    obtain ⟨f, d, hd, hst⟩ := State.fanIs_iff.1 (Bool.and_eq_true_iff.1 hstart).1
    rw [State.startWhere_of hstart, State.startFan]
    have hself := u.updateFan_outputs i i FanDyn.toStarting
    have hother (j : Fin 24) (hj : j ≠ i) : (u.updateFan i FanDyn.toStarting).drive? j = u.drive? j :=
      State.drive?_congr ((u.updateFan_outputs i j _).trans (if_neg hj)) (by rw [State.updateFan_frame])
    have hfield : (u.updateFan i FanDyn.toStarting).field = u.field := by rw [State.updateFan_frame]
    rw [if_pos rfl, hd, Entry.mapFan] at hself
    generalize u.updateFan i FanDyn.toStarting = v at hself hother hfield
    have hbefore := State.drive?_fan hd (by rw [hst]; decide)
    have hafter := State.drive?_fan hself (by rcases d.toStarting_runs (f := f) with h | h <;> rw [h] <;> decide)
    unfold State.DrivesPlaced
    rw [State.queueDrive_frames, (v.queueDrive_onlyLines i).drive?, hfield, h]
    cases hnode : f.node with
    | none =>
      rw [hnode] at hbefore hafter
      have hsame : v.drive? = u.drive? := by
        funext j
        by_cases hj : j = i
        · rw [hj, hbefore, hafter]; rfl
        · exact hother j hj
      rw [hsame, hbefore]
      rfl
    | some node =>
      rw [hnode] at hbefore hafter
      rw [hafter, Option.map_some, placeDrive_placeDrives (fun j x hx => State.drive?_isDriveOf hx)
        (Origin.isDriveOf_drive.2 rfl) (by rw [hbefore]; rfl)]
      congr 1
      funext j
      by_cases hj : j = i
      · rw [hj, Function.update_self, hafter]; rfl
      · rw [Function.update_of_ne hj, hother j hj]

theorem State.startAll_placed (h : u.DrivesPlaced frames) : (u.startAll ok).DrivesPlaced frames :=
  foldl_keeps (keeps := State.DrivesPlaced frames) (fun _ _ h => State.startWhere_placed h) _ h

/-! ## The path of a fan, in the words of the claims (R101) -/

theorem State.servedBranch_iff {test : Option (Fin 24) → Bool} : s.servedBranch i test = true ↔
    ∃ (z : Fin 8) (g : ZoneFields) (e : ZoneDyn), ∃ k ∈ g.branches,
      s.zones[z] = .inService g e ∧ g.fans[k] = i ∧ 0 < e.shares[k] ∧ test g.dampers[k] = true := by
  unfold State.servedBranch
  rw [List.any_eq_true]
  constructor
  · rintro ⟨z, -, h⟩
    cases hz : s.zones[z] with
    | vacant | draft g => rw [hz] at h; cases h
    | inService g e =>
      rw [hz] at h
      obtain ⟨k, hk, h⟩ := List.any_eq_true.1 h
      simp only [Bool.and_eq_true, beq_iff_eq, decide_eq_true_eq, and_assoc] at h
      exact ⟨z, g, e, k, hk, hz, h⟩
  · rintro ⟨z, g, e, k, hk, hz, h⟩
    refine ⟨z, List.mem_finRange z, ?_⟩
    rw [hz]
    refine List.any_eq_true.2 ⟨k, hk, ?_⟩
    simpa only [Bool.and_eq_true, beq_iff_eq, decide_eq_true_eq, and_assoc] using h

theorem State.reportedOpen_iff :
    s.reportedOpen j = true ↔ ∃ h x, s.outputs[j] = .inService h (.damper x) ∧ x.position = .opened := by
  unfold State.reportedOpen State.damper?
  cases s.outputs[j] with
  | inService f c => cases c <;> simp
  | vacant | draft f => simp

theorem State.pathProved_iff : s.pathProved i = true ↔
    ∃ (z : Fin 8) (g : ZoneFields) (e : ZoneDyn), ∃ k ∈ g.branches,
      s.zones[z] = .inService g e ∧ g.fans[k] = i ∧ 0 < e.shares[k]
        ∧ ∀ j ∈ g.dampers[k], ∃ h x, s.outputs[j] = .inService h (.damper x) ∧ x.position = .opened := by
  unfold State.pathProved
  rw [State.servedBranch_iff]
  refine exists_congr fun z => exists_congr fun g => exists_congr fun e => exists_congr fun k =>
    and_congr_right fun _ => and_congr_right fun _ => and_congr_right fun _ => and_congr_right fun _ => ?_
  cases g.dampers[k] with
  | none => simp
  | some j => simp [State.reportedOpen_iff]

/-! ## What an allocation leaves (R77, R78, R90, R101) -/

theorem State.queueDrives_onlyLines (s : State) : s.OnlyLines s.queueDrives :=
  foldl_keeps (keeps := s.OnlyLines) (fun t i ht => ht.trans (t.queueDrive_onlyLines i)) _ (.refl s)

/-- What the zones of an allocation leave alone as they take their parts. -/
theorem State.zonesDelivered_rest (s : State) :
    s.zonesDelivered.points = s.points ∧ s.zonesDelivered.outputs = s.outputs
      ∧ s.zonesDelivered.outputSlots = s.outputSlots ∧ s.zonesDelivered.field = s.field
      ∧ s.zonesDelivered.trunk = s.trunk := by
  have h := s.zonesDelivered_frame
  generalize s.zonesDelivered = t at h ⊢
  rw [h]
  exact ⟨rfl, rfl, rfl, rfl, rfl⟩

/-- The entries of the outputs once they have taken their deliveries. -/
theorem State.outputsDelivered_outputs (s : State) (i : Fin 24) : s.outputsDelivered.outputs[i] =
    s.outputs[i].delivered (s.fanFlow s.sharing.shares i) (s.holdMark i) (s.damperTarget s.sharing.shares i) := by
  unfold State.outputsDelivered
  rw [State.deliverOutputs_outputs, vector_ofFn_get, vector_ofFn_get, vector_ofFn_get]
  obtain ⟨-, houtputs, -⟩ := s.zonesDelivered_rest
  rw [houtputs]

theorem State.outputsDelivered_onlyOutputs (s : State) : s.zonesDelivered.OnlyOutputs s.outputsDelivered :=
  State.deliverOutputs_onlyOutputs _ _ _ _

/-- The entries of the outputs after an allocation, each for itself. -/
theorem State.allocate_outputs (s : State) (i : Fin 24) : s.allocate.outputs[i] =
    (s.outputs[i].delivered (s.fanFlow s.sharing.shares i) (s.holdMark i) (s.damperTarget s.sharing.shares i)).started
      (s.outputsDelivered.pathProved i) := by
  have houtputs : s.outputsDelivered.queueDrives.outputs = s.outputsDelivered.outputs :=
    s.outputsDelivered.queueDrives_onlyLines.outputs
  have hproved : s.outputsDelivered.queueDrives.pathProved = s.outputsDelivered.pathProved :=
    State.pathProved_fanBlind _ _ (by rw [State.queueDrives_onlyLines]) fun j => by
      unfold State.damper?; rw [houtputs]
  rw [State.allocate_eq, State.pathCheck_eq, State.startAll_outputs State.pathProved_fanBlind, hproved,
    ← State.outputsDelivered_outputs]
  rw [houtputs]

theorem State.allocate_onlyOutputs (s : State) : s.zonesDelivered.OnlyOutputs s.allocate :=
  (s.outputsDelivered_onlyOutputs.trans (State.queueDrives_onlyOutputs _)).trans (State.pathCheck_onlyOutputs _)

/-- An allocation sets no trouble slot. -/
theorem State.allocate_slots (hs : s.MachinesSound) : s.allocate.outputSlots = s.outputSlots := by
  obtain ⟨hpoints, houtputs, hslots, -⟩ := s.zonesDelivered_rest
  have hqueued : s.outputsDelivered.queueDrives.outputSlots = s.outputsDelivered.outputSlots := by
    rw [State.queueDrives_onlyLines]
  rw [State.allocate_eq, State.pathCheck_eq, State.startAll_slots, hqueued, State.outputsDelivered,
    State.deliverOutputs_slots (State.SameMachines.sound ⟨hpoints, houtputs⟩ hs), hslots]

/-- The FIELD queue after an allocation: the DRIVE of every output in its place. -/
theorem State.allocate_placed (s : State) : s.allocate.DrivesPlaced s.field.frames := by
  have hfield : s.outputsDelivered.field = s.field := by
    obtain ⟨-, -, -, hfield, -⟩ := s.zonesDelivered_rest
    rw [← hfield]
    exact foldl_keeps (keeps := fun t : State => t.field = s.zonesDelivered.field) (fun t i ht => by
      rw [State.updateDamper_frame, State.updateFan_frame]; exact ht) _ rfl
  have hqueued := s.outputsDelivered.queueDrives_placed
  rw [hfield] at hqueued
  rw [State.allocate_eq, State.pathCheck_eq]
  exact State.startAll_placed hqueued

end
end Sys2Proof.Machine

namespace Sys2Proof.Machine

/-! ## DRIVE_PERIOD_EXPIRY: the end of the event, and the DRIVE frames (R77, R90, R91) -/

section
variable {s t : State} {i : Fin 24} {f : OutputFields} {x : Frame × Origin}

/-- Two ports that differ at most in their queues. -/
abbrev Port.SameButQueue (p q : Port) : Prop := q.on = p.on ∧ q.recovery = p.recovery ∧ q.counters = p.counters

theorem State.queueDrive_field (s : State) (i : Fin 24) : s.field.SameButQueue (s.queueDrive i).field := by
  have h : (s.queueDrive i).field = { s.field with queue := (s.queueDrive i).field.queue } :=
    congrArg State.field (s.queueDrive_eq i)
  rw [h]
  exact ⟨rfl, rfl, rfl⟩

theorem Port.SameButQueue.trans {p q r : Port} (h : p.SameButQueue q) (k : q.SameButQueue r) : p.SameButQueue r := by
  obtain ⟨hon, hrec, hcount⟩ := h
  obtain ⟨kon, krec, kcount⟩ := k
  exact ⟨kon.trans hon, krec.trans hrec, kcount.trans hcount⟩

theorem State.startWhere_field (ok : State → Fin 24 → Bool) (s : State) (i : Fin 24) :
    s.field.SameButQueue (s.startWhere ok i).field := by
  unfold State.startWhere
  split
  · have h : (s.updateFan i FanDyn.toStarting).field = s.field := by rw [State.updateFan_frame]
    rw [← h]
    exact State.queueDrive_field _ i
  · exact ⟨rfl, rfl, rfl⟩

theorem State.startAll_field (ok : State → Fin 24 → Bool) (s : State) : s.field.SameButQueue (s.startAll ok).field := by
  unfold State.startAll
  exact foldl_keeps (keeps := fun t : State => s.field.SameButQueue t.field)
    (fun t i ht => ht.trans (t.startWhere_field ok i)) (List.finRange 24) ⟨rfl, rfl, rfl⟩

theorem State.outputsDelivered_field (s : State) : s.outputsDelivered.field = s.field := by
  obtain ⟨-, -, -, hfield, -⟩ := s.zonesDelivered_rest
  rw [← hfield]
  exact foldl_keeps (keeps := fun t : State => t.field = s.zonesDelivered.field) (fun t i ht => by
    rw [State.updateDamper_frame, State.updateFan_frame]; exact ht) _ rfl

/-- An allocation touches nothing of the FIELD port but its queue. -/
theorem State.allocate_field (s : State) : s.field.SameButQueue s.allocate.field := by
  have hqueued : s.outputsDelivered.field.SameButQueue s.outputsDelivered.queueDrives.field := by
    unfold State.queueDrives
    exact foldl_keeps (keeps := fun t : State => s.outputsDelivered.field.SameButQueue t.field)
      (fun t i ht => ht.trans (t.queueDrive_field i)) _ ⟨rfl, rfl, rfl⟩
  rw [s.outputsDelivered_field] at hqueued
  rw [State.allocate_eq, State.pathCheck_eq]
  exact hqueued.trans (State.startAll_field _ _)

/-- What an allocation leaves as it was. -/
theorem State.allocate_frame (s : State) : s.allocate = { s with
    driveTimer := s.active.drivePeriod
    zones := s.allocate.zones, zoneSlots := s.allocate.zoneSlots
    outputs := s.allocate.outputs, outputSlots := s.allocate.outputSlots, field := s.allocate.field } := by
  have hzones := s.zonesDelivered_frame
  have houtputs := s.allocate_onlyOutputs
  unfold State.OnlyOutputs at houtputs
  generalize s.zonesDelivered = u at hzones houtputs
  generalize s.allocate = t at houtputs ⊢
  rw [houtputs, hzones]
  rfl

theorem State.allocate_trunk (s : State) : s.allocate.trunk = s.trunk := by rw [s.allocate_frame]

theorem State.allocate_active (s : State) : s.allocate.active = s.active := by rw [s.allocate_frame]

theorem State.allocate_zones (s : State) : s.allocate.zones = s.zonesDelivered.zones := by
  rw [s.allocate_onlyOutputs]

theorem State.allocate_zoneSlots (s : State) : s.allocate.zoneSlots = s.zonesDelivered.zoneSlots := by
  rw [s.allocate_onlyOutputs]

theorem State.OnlyLines.active (h : s.OnlyLines t) : t.active = s.active := by rw [h]

/-- The event of an allocation: the allocation itself, and the end of the event. -/
theorem exec_drivePeriodExpiry_allocates (hw : s.works = true) (hdue : s.restartDue = false) :
    ∃ t, exec .drivePeriodExpiry s = .next t ∧ s.allocate.OnlyLines t ∧ s.allocate.QuietLines t := by
  have hpend : s.allocate.restartPending = s.restartPending := by rw [s.allocate_frame]
  obtain ⟨honly, hquiet⟩ := State.finish_quiet
    ((State.restartDue_congr hpend (by rw [s.allocate_trunk])).trans hdue)
  exact ⟨_, exec_drivePeriodExpiry.trans (onEvent_of hw rfl), honly, hquiet⟩

/-- The DRIVE of every output waits in the queue in which they were placed. -/
theorem State.DrivesPlaced.waits {frames : List (Frame × Origin)} (h : t.DrivesPlaced frames)
    (hx : t.drive? i = some x) :
    ∃ e ∈ t.field.queue, e.isDriveOf i = true ∧ e.frame = x.1 := by
  have hmem : x ∈ t.field.frames := by
    rw [h]
    exact mem_placeDrives hx (State.drive?_isDriveOf hx) frames
  obtain ⟨e, he, rfl⟩ := List.mem_map.1 hmem
  exact ⟨e, he, State.drive?_isDriveOf hx, rfl⟩

/-- Settles O23: the DRIVE frames of the allocation are placed one by one, and a fan that the path check starts has its
run frame take the place of its stop frame. -/
theorem allocationQueuesTheDrives : Obligations.AllocationQueuesTheDrives := by
  unfold Obligations.AllocationQueuesTheDrives
  intro s hw hdue
  obtain ⟨t, ht, honly, ⟨-, hframes, -⟩, -⟩ := exec_drivePeriodExpiry_allocates hw hdue
  have horiginate : t.originate = s.originate := by
    unfold State.originate
    rw [honly.active, s.allocate_active]
  have hplaced : t.DrivesPlaced s.field.frames := by
    unfold State.DrivesPlaced
    rw [honly.drive?, hframes, s.allocate_placed]
  refine ⟨t, ht, fun i f d node hi hnode hst => ?_, fun i f d node hi hnode hst => ?_, ?_⟩
  · have hx := State.drive?_fan hi hst
    rw [hnode, horiginate] at hx
    exact hplaced.waits hx
  · have hx := State.drive?_of hi
    rw [hnode, horiginate, OutputDyn.command_damper, if_neg hst] at hx
    exact hplaced.waits hx
  · dsimp only
    rw [hplaced]
    unfold placeDrives
    congr 1
    funext frames i
    cases hi : t.outputs[i] with
    | vacant | draft f => rw [State.drive?_of_not (by rw [hi]; rfl)]; rfl
    | inService f c =>
      rw [State.drive?_of hi, horiginate]
      dsimp only
      cases hnode : f.node with
      | none => rfl
      | some node =>
        cases c with
        | fan d =>
          rw [OutputDyn.command_fan]
          by_cases hhand : d.state = .hand
          · simp only [if_pos hhand]; rfl
          · by_cases hruns : d.state.Runs <;> simp [hhand, hruns, withDrive_eq]
        | damper d =>
          rw [OutputDyn.command_damper]
          by_cases hhand : d.state = .hand <;> simp [hhand, withDrive_eq, placeDrive]

end
end Sys2Proof.Machine

namespace Sys2Proof.Machine

/-! ## What an allocation delivers (R84 to R90, R100, R101, R109) -/

section
variable {s t : State} {z : Fin 8} {i : Fin 24} {f : OutputFields} {d : FanDyn} {x : DamperDyn} {r : FanResult}
  {proved : Bool}

theorem State.demand_of {g : ZoneFields} {e : ZoneDyn} (h : s.zones[z] = .inService g e) :
    s.demand z = s.demandOf z g e := by
  unfold State.demand
  rw [h]

/-! ### Flows and targets in the words of the claims -/

/-- What a zone draws from a fan in these shares (R85). -/
def State.drawnIn (s : State) (shares : Vector (Vector Nat 4) 8) (i : Fin 24) (z : Fin 8) : Nat :=
  (((s.zoneBranches z).filter fun k => s.branchFan z k == some i).map fun k => shares[z][k]).sum

theorem State.drawnIn_of {shares : Vector (Vector Nat 4) 8} {g : ZoneFields} {e : ZoneDyn}
    (h : s.zones[z] = .inService g e) : s.drawnIn shares i z =
      ((g.branches.filter fun k => g.fans[k] == i).map fun k => shares[z][k]).sum := by
  unfold State.drawnIn State.zoneBranches State.branchFan
  rw [h]
  simp

theorem State.drawnIn_of_not {shares : Vector (Vector Nat 4) 8} (h : s.zones[z].isInService = false) :
    s.drawnIn shares i z = 0 := by
  unfold State.drawnIn State.zoneBranches
  cases hz : s.zones[z] with
  | inService g e => rw [hz] at h; cases h
  | vacant | draft g => rfl

theorem State.drawnBy_eq (hz : t.zones = s.zonesDelivered.zones) (i : Fin 24) (z : Fin 8) :
    t.drawnBy i z = s.drawnIn s.sharing.shares i z := by
  unfold State.drawnBy
  rw [hz]
  cases hzone : s.zones[z] with
  | inService g e => rw [(State.zonesDelivered_zone hzone).1, State.drawnIn_of hzone]; rfl
  | vacant | draft g =>
    have hout : s.zones[z].isInService = false := by rw [hzone]; rfl
    rw [(State.zonesDelivered_out hout).1, hzone, State.drawnIn_of_not hout]

/-- A fan's allocated flow is what the zones of the new state take from it (R85). -/
theorem State.drawnFrom_eq (hz : t.zones = s.zonesDelivered.zones) (i : Fin 24) :
    t.drawnFrom i = s.fanFlow s.sharing.shares i := by
  unfold State.drawnFrom
  rw [show t.drawnBy i = s.drawnIn s.sharing.shares i from funext (State.drawnBy_eq hz i)]
  rfl

/-- A damper is to open when a branch of the new state through it has a share (R89). -/
theorem State.damperTarget_iff (hz : t.zones = s.zonesDelivered.zones) (i : Fin 24) :
    s.damperTarget s.sharing.shares i = .opened ↔ ∃ (z : Fin 8) (g : ZoneFields) (e : ZoneDyn), ∃ k ∈ g.branches,
      t.zones[z] = .inService g e ∧ g.dampers[k] = some i ∧ 0 < e.shares[k] := by
  have hany (p : Bool) : (if p then DamperTarget.opened else .closed) = .opened ↔ p = true := by cases p <;> simp
  rw [State.damperTarget, hany, List.any_eq_true, hz]
  refine exists_congr fun z => ?_
  unfold State.zoneBranches State.branchDamper
  cases hzone : s.zones[z] with
  | inService g e =>
    rw [(State.zonesDelivered_zone hzone).1]
    simp [ZoneDyn.allocated]
  | vacant | draft g =>
    rw [(State.zonesDelivered_out (by rw [hzone]; rfl)).1, hzone]
    simp

/-- A delivery leaves a damper's last report alone. -/
theorem DamperDyn.deliver_position (target : DamperTarget) : (x.deliver f target).position = x.position := by
  unfold DamperDyn.deliver
  split
  · rfl
  · cases x.state <;> rfl

theorem DamperDyn.deliver_target (target : DamperTarget) : (x.deliver f target).target = target := by
  unfold DamperDyn.deliver
  split
  · rename_i h; exact h.symm
  · cases x.state <;> rfl

/-- The dampers that are reported open, before the deliveries and after. -/
theorem Entry.delivered_opened {flow : Nat} {hold : HoldMark} {target : DamperTarget}
    {e : Entry OutputFields OutputDyn} :
    (∃ h y, e.delivered flow hold target = .inService h (.damper y) ∧ y.position = .opened) ↔
      ∃ h y, e = .inService h (.damper y) ∧ y.position = .opened := by
  cases e with
  | vacant | draft f => simp [Entry.delivered]
  | inService f c => cases c <;> simp [Entry.delivered, DamperDyn.deliver_position]

/-- The path check of an allocation, in the new zones and on the reports that stand (R101). -/
theorem State.outputsDelivered_pathProved (hz : t.zones = s.zonesDelivered.zones) (i : Fin 24) :
    s.outputsDelivered.pathProved i = true ↔ ∃ (z : Fin 8) (g : ZoneFields) (e : ZoneDyn), ∃ k ∈ g.branches,
      t.zones[z] = .inService g e ∧ g.fans[k] = i ∧ 0 < e.shares[k]
        ∧ ∀ j ∈ g.dampers[k], ∃ h x, s.outputs[j] = .inService h (.damper x) ∧ x.position = .opened := by
  have hzones : s.outputsDelivered.zones = t.zones := by rw [s.outputsDelivered_onlyOutputs, hz]
  rw [State.pathProved_iff, hzones]
  simp only [State.outputsDelivered_outputs, Entry.delivered_opened]

/-! ### A fan's result (R86) -/

section
variable {flow : Nat} {h : HoldMark}

theorem fanResult_of_flow (hflow : 0 < flow) :
    fanResult f flow h = ⟨flow, max (flow * 4080 / f.rated) (f.minStep * 16), true, h⟩ := if_pos hflow

theorem fanResult_of_held (hflow : flow = 0) (hheld : h = .heldRunning) :
    fanResult f flow h = ⟨0, f.minStep * 16, true, h⟩ := by
  rw [fanResult, if_neg (by omega), if_pos hheld]

theorem fanResult_of_none (hflow : flow = 0) (hheld : h ≠ .heldRunning) : fanResult f flow h = ⟨0, 0, false, h⟩ := by
  rw [fanResult, if_neg (by omega), if_neg hheld]

theorem fanResult_flow_hold : (fanResult f flow h).flow = flow ∧ (fanResult f flow h).hold = h := by
  by_cases hflow : 0 < flow
  · rw [fanResult_of_flow hflow]; exact ⟨rfl, rfl⟩
  · have hzero : flow = 0 := by omega
    by_cases hheld : h = .heldRunning
    · rw [fanResult_of_held hzero hheld]; exact ⟨hzero.symm, rfl⟩
    · rw [fanResult_of_none hzero hheld]; exact ⟨hzero.symm, rfl⟩

end

/-! ### A fan's move (R100, R101) -/

/-- A fan as an allocation leaves it: it takes its delivery, and is started if it then waits for a proved path. -/
def FanDyn.allocated (f : OutputFields) (r : FanResult) (proved : Bool) (d : FanDyn) : FanDyn :=
  if (d.deliver f r).state = .pathWait ∧ proved = true then (d.deliver f r).toStarting f else d.deliver f r

/-- A fan's results, and what it keeps. -/
theorem FanDyn.allocated_results : (d.allocated f r proved).flow = r.flow ∧ (d.allocated f r proved).q = r.q
    ∧ (d.allocated f r proved).run = r.run ∧ (d.allocated f r proved).hold = r.hold
    ∧ (d.allocated f r proved).lastStatus = d.lastStatus ∧ (d.allocated f r proved).retryCount = d.retryCount := by
  have hdeliver : (d.deliver f r).flow = r.flow ∧ (d.deliver f r).q = r.q ∧ (d.deliver f r).run = r.run
      ∧ (d.deliver f r).hold = r.hold ∧ (d.deliver f r).lastStatus = d.lastStatus
      ∧ (d.deliver f r).retryCount = d.retryCount := by
    unfold FanDyn.deliver
    dsimp only
    split <;> exact ⟨rfl, rfl, rfl, rfl, rfl, rfl⟩
  unfold FanDyn.allocated
  split
  · exact hdeliver
  · exact hdeliver

/-- A fan that does not wait for its path after the delivery is not started by the path check. -/
theorem FanDyn.allocated_of_not_waiting (h : (d.deliver f r).state ≠ .pathWait) :
    d.allocated f r proved = d.deliver f r := if_neg fun hwait => h hwait.1

/-- The timers that do not run in a sound fan. -/
theorem FanDyn.Sound.timers_none (h : d.Sound) : (d.state ≠ .pathWait → d.pathTimer = none)
    ∧ (d.state ≠ .starting → d.startTimer = none) ∧ (d.state ≠ .running → d.statusTimer = none)
    ∧ (d.state ≠ .stopping → d.stopTimer = none) ∧ (d.state.isFault = false → d.retryTimer = none) := by
  have hnone {timer : Timer} {p : Bool} (ht : timer.isSome = p) (hp : p = false) : timer = none := by
    rw [hp] at ht
    simpa using ht
  obtain ⟨hpath, hstart, hstatus, hstop, hretry, -⟩ := h
  exact ⟨fun hs => hnone hpath (by simpa using hs), fun hs => hnone hstart (by simpa using hs),
    fun hs => hnone hstatus (by simpa using hs), fun hs => hnone hstop (by simpa using hs), hnone hretry⟩

/-- The NO_PATH mark is clear in a sound fan that has not been started (R102). -/
theorem FanDyn.Sound.noPath_none (h : d.Sound) (hs : d.state = .stopped ∨ d.state = .pathWait) : d.noPath = false := by
  obtain ⟨-, -, -, -, -, -, -, hpath, -⟩ := h
  rcases hs with hs | hs <;> simpa [hs] using hpath

/-- The start of a fan that has taken its delivery. -/
theorem FanDyn.told_toStarting (h : d.Sound) (hs : d.state = .pathWait ∨ d.state = .stopping) :
    (d.told r).toStarting f = { d.told r with
      state := .starting, pathTimer := none, stopTimer := none, startTimer := timerOf f.startTimeout } := by
  obtain ⟨-, -, hstatus, -, hretry⟩ := h.timers_none
  rcases hs with hs | hs <;> rw [hs] at hstatus hretry <;>
    simp [FanDyn.toStarting, FanDyn.stopTimers, FanDyn.told, hstatus, hretry rfl]

theorem FanDyn.allocated_of_stopped (h : d.Sound) (hs : d.state = .stopped) (hr : r.run = true) :
    d.allocated f r proved =
      if proved = true then { d.told r with
        state := .starting, pathTimer := none, stopTimer := none, startTimer := timerOf f.startTimeout, dither := 0 }
      else { d.told r with state := .pathWait, dither := 0, noPath := false, pathTimer := timerOf f.startTimeout } := by
  obtain ⟨-, hstart, hstatus, hstop, hretry⟩ := h.timers_none
  have hno := h.noPath_none (.inl hs)
  rw [hs] at hstart hstatus hstop hretry
  specialize hstart (by decide)
  specialize hstatus (by decide)
  specialize hstop (by decide)
  specialize hretry rfl
  have hwait : d.deliver f r =
      { d.told r with state := .pathWait, dither := 0, noPath := false, pathTimer := timerOf f.startTimeout } := by
    rw [FanDyn.deliver_of_stopped hs, if_pos hr]
    simp [FanDyn.toPathWait, FanDyn.stopTimers, FanDyn.told, hstart, hstatus, hstop, hretry]
  rw [FanDyn.allocated, hwait]
  cases proved with
  | false => rfl
  | true =>
    rw [if_pos ⟨rfl, rfl⟩, if_pos rfl]
    simp [FanDyn.toStarting, FanDyn.stopTimers, FanDyn.told, hno, hstatus, hretry]

theorem FanDyn.allocated_of_pathWait (h : d.Sound) (hs : d.state = .pathWait) (hr : r.run = true) :
    d.allocated f r proved =
      if proved = true then { d.told r with
        state := .starting, pathTimer := none, stopTimer := none, startTimer := timerOf f.startTimeout }
      else d.told r := by
  have hdeliver : d.deliver f r = d.told r := by rw [FanDyn.deliver_of_pathWait hs, if_pos hr]
  rw [FanDyn.allocated, hdeliver, FanDyn.told_toStarting h (.inl hs)]
  exact if_congr (and_iff_right hs) rfl rfl

theorem FanDyn.allocated_of_unwanted (h : d.Sound) (hs : d.state = .pathWait) (hr : r.run = false) :
    d.allocated f r proved = { d.told r with state := .stopped, pathTimer := none } := by
  obtain ⟨-, hstart, hstatus, hstop, hretry⟩ := h.timers_none
  have hno := h.noPath_none (.inr hs)
  rw [hs] at hstart hstatus hstop hretry
  have hdeliver : d.deliver f r = (d.told r).toStopped := by
    rw [FanDyn.deliver_of_pathWait hs, if_neg (by rw [hr]; decide)]
  rw [FanDyn.allocated_of_not_waiting (by rw [hdeliver]; simp [FanDyn.toStopped]), hdeliver]
  simp [FanDyn.toStopped, FanDyn.stopTimers, FanDyn.told, hstart, hstatus, hstop, hretry rfl, hno]

theorem FanDyn.allocated_of_runs (h : d.Sound) (hs : d.state.Runs) : d.allocated f r proved =
    if r.run = true then d.told r
    else { d.told r with
      state := .stopping, below := 0, startTimer := none, statusTimer := none
      stopTimer := timerOf f.startTimeout } := by
  obtain ⟨hpath, -, -, -, hretry⟩ := h.timers_none
  have hstate : (d.told r).state = d.state := rfl
  rw [FanDyn.allocated_of_not_waiting, FanDyn.deliver_of_runs hs]
  · cases r.run with
    | true => rfl
    | false =>
      have hpath' : d.pathTimer = none := hpath (by rcases hs with hs | hs <;> rw [hs] <;> decide)
      have hretry' : d.retryTimer = none := hretry (by rcases hs with hs | hs <;> rw [hs] <;> rfl)
      simp [FanDyn.toStopping, FanDyn.stopTimers, FanDyn.told, hpath', hretry']
  · rw [FanDyn.deliver_of_runs hs]
    cases r.run with
    | true => rcases hs with hs | hs <;> simp [hstate, hs]
    | false => simp [FanDyn.toStopping]

theorem FanDyn.allocated_of_stopping (h : d.Sound) (hs : d.state = .stopping) : d.allocated f r proved =
    if r.run = true then { d.told r with
      state := .starting, pathTimer := none, stopTimer := none, startTimer := timerOf f.startTimeout }
    else d.told r := by
  have hstate : (d.told r).state = d.state := rfl
  rw [FanDyn.allocated_of_not_waiting, FanDyn.deliver_of_stopping hs]
  · rw [FanDyn.told_toStarting h (.inr hs)]
  · rw [FanDyn.deliver_of_stopping hs]
    cases r.run with
    | true => simp [FanDyn.toStarting]
    | false => simp [hstate, hs]

theorem FanDyn.allocated_of_idle (hs : d.state = .stopped) (hr : r.run = false) :
    d.allocated f r proved = d.told r := by
  have hdeliver : d.deliver f r = d.told r := by rw [FanDyn.deliver_of_stopped hs, hr]; rfl
  have hstate : (d.told r).state = d.state := rfl
  rw [FanDyn.allocated_of_not_waiting, hdeliver]
  rw [hdeliver, hstate, hs]
  decide

theorem FanDyn.allocated_of_out (hs : d.state.isFault = true ∨ d.state = .hand) :
    d.allocated f r proved = d.told r := by
  have hstate : (d.told r).state = d.state := rfl
  rw [FanDyn.allocated_of_not_waiting, FanDyn.deliver_of_out hs]
  rw [FanDyn.deliver_of_out hs, hstate]
  intro hwait
  rw [hwait] at hs
  simp [FanState.isFault] at hs

/-! ### The outputs -/

theorem State.allocate_fan (h : s.outputs[i] = .inService f (.fan d)) : s.allocate.outputs[i] =
    .inService f (.fan (d.allocated f (fanResult f (s.fanFlow s.sharing.shares i) (s.holdMark i))
      (s.outputsDelivered.pathProved i))) := by
  rw [State.allocate_outputs, h]
  rfl

theorem State.allocate_damper (h : s.outputs[i] = .inService f (.damper x)) : s.allocate.outputs[i] =
    .inService f (.damper (x.deliver f (s.damperTarget s.sharing.shares i))) := by
  rw [State.allocate_outputs, h]
  rfl

theorem State.allocate_out (h : s.outputs[i].isInService = false) : s.allocate.outputs[i] = s.outputs[i] := by
  rw [State.allocate_outputs]
  cases hi : s.outputs[i] with
  | inService f c => rw [hi] at h; cases h
  | vacant | draft f => rfl

/-! ### The event -/

/-- What DRIVE_PERIOD_EXPIRY leaves as it was (R77, R78). -/
theorem State.OnlyLines.of_allocate (h : s.allocate.OnlyLines t) : t = { s with
    driveTimer := s.active.drivePeriod
    zones := t.zones, zoneSlots := t.zoneSlots, outputs := t.outputs, outputSlots := t.outputSlots
    field := t.field, trunk := t.trunk } := by
  have hframe := s.allocate_frame
  unfold State.OnlyLines at h
  generalize s.allocate = u at h hframe
  rw [h, hframe]

theorem State.OnlyLines.outputSlots (h : s.OnlyLines t) : t.outputSlots = s.outputSlots := by rw [h]

/-- Settles O22: the zones, the fans and the dampers take their deliveries, each for itself, and the path check looks at
the shares of the new state and at the reports that stand. -/
theorem allocationIsDelivered : Obligations.AllocationIsDelivered := by
  unfold Obligations.AllocationIsDelivered
  intro s hw hdue
  obtain ⟨t, ht, honly, ⟨hon, -, hrec, hcount⟩, htrunk⟩ := exec_drivePeriodExpiry_allocates hw hdue
  obtain ⟨hon', hrec', hcount'⟩ := s.allocate_field
  rw [s.allocate_trunk] at htrunk
  have hzones : t.zones = s.zonesDelivered.zones := honly.zones.trans s.allocate_zones
  have hzoneSlots : t.zoneSlots = s.zonesDelivered.zoneSlots := honly.zoneSlots.trans s.allocate_zoneSlots
  have houtputs : t.outputs = s.allocate.outputs := honly.outputs
  refine ⟨t, ht, honly.of_allocate, htrunk, hcount.trans hcount', hon.trans hon', hrec.trans hrec',
    fun hs => honly.outputSlots.trans (State.allocate_slots hs), fun z hz => ?_, fun z f d hz => ?_, fun i hi => ?_,
    fun i f d hi => ?_, fun i f x hi => ?_⟩
  · rw [hzones, hzoneSlots]
    exact State.zonesDelivered_out hz
  · dsimp only
    rw [hzones, hzoneSlots, ← State.demand_of hz]
    exact State.zonesDelivered_zone hz
  · rw [houtputs]
    exact State.allocate_out hi
  · have hflow := State.drawnFrom_eq hzones i
    have hproved := State.outputsDelivered_pathProved hzones i
    have hfan := State.allocate_fan hi
    rw [← hflow] at hfan
    generalize s.outputsDelivered.pathProved i = proved at hproved hfan
    obtain ⟨hrflow, hq, hrun, hhold, hstatus, hretries⟩ := d.allocated_results (f := f)
      (r := fanResult f (t.drawnFrom i) (s.holdMark i)) (proved := proved)
    obtain ⟨hflows, hholds⟩ := fanResult_flow_hold (f := f) (flow := t.drawnFrom i) (h := s.holdMark i)
    refine ⟨_, by rw [houtputs]; exact hfan, hrflow.trans hflows, hhold.trans hholds, hstatus, hretries, fun hpos => ?_,
      fun hzero hheld => ?_, fun hzero hheld => ?_, fun hsound => ?_⟩
    · rw [hrun, hq, fanResult_of_flow hpos]; exact ⟨rfl, rfl⟩
    · rw [hrun, hq, fanResult_of_held hzero hheld]; exact ⟨rfl, rfl⟩
    · rw [hrun, hq, fanResult_of_none hzero hheld]; exact ⟨rfl, rfl⟩
    · dsimp only
      rw [hrflow, hq, hrun, hhold, ← hproved]
      generalize fanResult f (t.drawnFrom i) (s.holdMark i) = r
      refine ⟨fun hs hr => ?_, fun hs hr => ?_, fun hs hr => FanDyn.allocated_of_unwanted hsound hs hr,
        fun hs hr => ?_, fun hs hr => ?_, fun hs hr => ?_, fun hs hr => ?_, FanDyn.allocated_of_out⟩
      · rw [FanDyn.allocated_of_stopped hsound hs hr]
        exact ⟨fun hp => if_pos hp, fun hp => if_neg hp⟩
      · rw [FanDyn.allocated_of_pathWait hsound hs hr]
        exact ⟨fun hp => if_pos hp, fun hp => if_neg hp⟩
      · exact (FanDyn.allocated_of_runs hsound hs).trans (if_neg (by rw [hr]; decide))
      · exact (FanDyn.allocated_of_stopping hsound hs).trans (if_pos hr)
      · rcases hs with hs | hs
        · exact FanDyn.allocated_of_idle hs hr
        · exact (FanDyn.allocated_of_stopping hsound hs).trans (if_neg (by rw [hr]; decide))
      · exact (FanDyn.allocated_of_runs hsound hs).trans (if_pos hr)
  · have htarget := State.damperTarget_iff hzones i
    have hdamper := State.allocate_damper hi
    generalize s.damperTarget s.sharing.shares i = target at htarget hdamper
    refine ⟨_, by rw [houtputs]; exact hdamper, DamperDyn.deliver_position target, ?_⟩
    rw [DamperDyn.deliver_target]
    exact ⟨DamperDyn.deliver_of_same, DamperDyn.deliver_of_moves, DamperDyn.deliver_of_out, htarget⟩

end
end Sys2Proof.Machine

namespace Sys2Proof.Machine

/-! ## The run frames of a path check (R91, R101) -/

/-- The run frame of a fan that a path check starts: it waits for its path, and the path is proved. -/
def State.startDrive (s : State) (proved : Fin 24 → Bool) (j : Fin 24) : Option (Frame × Origin) :=
  match s.outputs[j] with
  | .inService g (.fan e) =>
    if e.state = .pathWait ∧ proved j = true then
      g.node.map fun node => (s.originate 2 kindDrive node [1, byte (ditheredStep e.q e.dither)], .drive j true)
    else none
  | _ => none

section
variable {s t u : State} {i j : Fin 24} {f : OutputFields} {d : FanDyn} {ok : State → Fin 24 → Bool}
  {proved : Fin 24 → Bool}

theorem State.startDrive_of (h : s.outputs[j] = .inService f (.fan d)) (hs : d.state = .pathWait)
    (hp : proved j = true) : s.startDrive proved j =
      f.node.map fun node => (s.originate 2 kindDrive node [1, byte (ditheredStep d.q d.dither)], .drive j true) := by
  unfold State.startDrive
  rw [h]
  exact if_pos ⟨hs, hp⟩

theorem State.startDrive_of_not (h : (s.fanIs j .pathWait && proved j) = false) : s.startDrive proved j = none := by
  unfold State.startDrive
  split
  · rename_i g e he
    rw [State.fanIs_of he] at h
    exact if_neg (by simpa using h)
  · rfl

theorem State.startDrive_congr {test : Fin 24 → Bool} (ho : t.outputs[j] = s.outputs[j]) (ha : t.active = s.active)
    (hp : test j = proved j) : t.startDrive test j = s.startDrive proved j := by
  unfold State.startDrive State.originate
  rw [ho, ha, hp]

theorem State.startDrive_isDriveOf {x : Frame × Origin} (h : s.startDrive proved j = some x) :
    x.2.isDriveOf j = true := by
  unfold State.startDrive at h
  split at h
  · split at h
    · obtain ⟨node, -, rfl⟩ := Option.map_eq_some_iff.1 h
      exact Origin.isDriveOf_drive.2 rfl
    · cases h
  · cases h

/-- One fan's path check puts its run frame in its place. -/
theorem State.startWhere_frames (ok : State → Fin 24 → Bool) (s : State) (i : Fin 24) :
    (s.startWhere ok i).field.frames = placeDrive s.field.frames i (s.startDrive (ok s) i) := by
  cases hstart : s.fanIs i .pathWait && ok s i with
  | false =>
    rw [State.startWhere_of_not hstart, State.startDrive_of_not hstart]
    rfl
  | true =>
    obtain ⟨hfan, hok⟩ := Bool.and_eq_true_iff.1 hstart
    obtain ⟨f, d, hd, hst⟩ := State.fanIs_iff.1 hfan
    have hself := s.updateFan_outputs i i FanDyn.toStarting
    have hfield : (s.updateFan i FanDyn.toStarting).field = s.field := by rw [State.updateFan_frame]
    have hactive : (s.updateFan i FanDyn.toStarting).active = s.active := by rw [State.updateFan_frame]
    rw [if_pos rfl, hd, Entry.mapFan] at hself
    rw [State.startWhere_of hstart, State.startFan]
    generalize s.updateFan i FanDyn.toStarting = v at hself hfield hactive
    have hruns := d.toStarting_runs (f := f)
    rw [State.queueDrive_frames, hfield, State.startDrive_of hd hst hok,
      State.drive?_fan hself (by rcases hruns with h | h <;> rw [h] <;> decide), if_pos hruns, decide_eq_true hruns]
    unfold State.originate
    rw [hactive]
    rfl

/-- A path check puts the run frames of the fans that it starts in their places, in ascending order. -/
theorem State.startAll_frames (hok : FanBlind ok) (s : State) :
    (s.startAll ok).field.frames = placeDrives (s.startDrive (ok s)) s.field.frames := by
  have hrun (l : List (Fin 24)) (hl : l.Nodup) (t : State) (hpaths : s.SamePaths t) (ha : t.active = s.active)
      (ho : ∀ j ∈ l, t.outputs[j] = s.outputs[j]) : (l.foldl (State.startWhere ok) t).field.frames =
        l.foldl (fun frames j => placeDrive frames j (s.startDrive (ok s) j)) t.field.frames := by
    induction l generalizing t with
    | nil => rfl
    | cons a l ih =>
      obtain ⟨hal, hl⟩ := List.nodup_cons.1 hl
      have hactive : (t.startWhere ok a).active = t.active := by rw [t.startWhere_onlyOutputs ok a]
      have hdrive : t.startDrive (ok t) a = s.startDrive (ok s) a :=
        State.startDrive_congr (ho a List.mem_cons_self) ha (by rw [hok s t hpaths.zones hpaths.dampers])
      rw [List.foldl_cons, List.foldl_cons, ih hl _ (hpaths.startWhere a) (hactive.trans ha) fun j hj => ?_,
        State.startWhere_frames, hdrive]
      rw [State.startWhere_outputs, if_neg (by rintro rfl; exact hal hj)]
      exact ho j (List.mem_cons_of_mem a hj)
  exact hrun _ (List.nodup_finRange 24) s ⟨rfl, fun _ => rfl⟩ rfl fun _ _ => rfl

end

/-! ## A damper and its report (R110) -/

section
variable {s t u : State} {i j : Fin 24} {f : OutputFields} {d : DamperDyn} {r : DamperReport}

/-- The damper is where it is to be. -/
abbrev DamperReport.There (r : DamperReport) (d : DamperDyn) : Prop :=
  (r = .opened ∧ d.target = .opened) ∨ (r = .closed ∧ d.target = .closed)

theorem DamperReport.there_iff : r.position.reaches d.target = true ↔ r.There d := by
  cases r <;> cases h : d.target <;> simp [h, DamperReport.There, DamperReport.position, DamperPosition.reaches]

/-- A damper with its report noted. -/
def DamperDyn.seen (d : DamperDyn) (r : DamperReport) : DamperDyn := { d with position := r.position }

/-- A damper's report by its state, with the report noted first. -/
theorem DamperDyn.takeStatus_eq : d.takeStatus f r = match d.state with
    | .travelling => if r = .jammed then (d.seen r).enterFault .jammed
      else if r.position.reaches d.target then (d.seen r).toSettled f else d.seen r
    | .settled => if r = .jammed then (d.seen r).enterFault .jammed
      else if r.position.reaches d.target then (d.seen r).toSettled f else (d.seen r).toTravelling f
    | _ => d.seen r := by
  unfold DamperDyn.takeStatus
  rfl

theorem DamperDyn.takeStatus_of_travelling (hs : d.state = .travelling) : d.takeStatus f r =
    if r = .jammed then (d.seen r).enterFault .jammed else if r.There d then (d.seen r).toSettled f else d.seen r := by
  rw [DamperDyn.takeStatus_eq, hs]
  exact if_congr Iff.rfl rfl (if_congr DamperReport.there_iff rfl rfl)

theorem DamperDyn.takeStatus_of_settled (hs : d.state = .settled) : d.takeStatus f r =
    if r = .jammed then (d.seen r).enterFault .jammed else if r.There d then (d.seen r).toSettled f
    else (d.seen r).toTravelling f := by
  rw [DamperDyn.takeStatus_eq, hs]
  exact if_congr Iff.rfl rfl (if_congr DamperReport.there_iff rfl rfl)

theorem DamperDyn.takeStatus_of_still (hs : ¬(d.state = .travelling ∨ d.state = .settled)) :
    d.takeStatus f r = d.seen r := by
  rw [DamperDyn.takeStatus_eq]
  cases h : d.state with
  | travelling | settled => simp [h] at hs
  | fault _ | hand => rfl

theorem DamperDyn.takeStatus_of_jammed (hs : d.state = .travelling ∨ d.state = .settled) (hr : r = .jammed) :
    d.takeStatus f r = (d.seen r).enterFault .jammed := by
  rcases hs with hs | hs
  · rw [DamperDyn.takeStatus_of_travelling hs, if_pos hr]
  · rw [DamperDyn.takeStatus_of_settled hs, if_pos hr]

theorem DamperDyn.takeStatus_of_there (hs : d.state = .travelling ∨ d.state = .settled) (hr : r.There d) :
    d.takeStatus f r = (d.seen r).toSettled f := by
  have hjam : r ≠ .jammed := by rcases hr with hr | hr <;> rw [hr.1] <;> decide
  rcases hs with hs | hs
  · rw [DamperDyn.takeStatus_of_travelling hs, if_neg hjam, if_pos hr]
  · rw [DamperDyn.takeStatus_of_settled hs, if_neg hjam, if_pos hr]

/-- A report sets the trouble slot on entry to FAULT JAMMED only (R111, R168). -/
theorem DamperDyn.takeStatus_trouble : damperTrouble d.state (d.takeStatus f r).state =
    if (d.takeStatus f r).state.isFault = true ∧ d.state.isFault = false then some (some .jammed) else none := by
  by_cases hs : d.state = .travelling ∨ d.state = .settled
  · have hno : d.state.isFault = false := by rcases hs with hs | hs <;> rw [hs] <;> rfl
    by_cases hr : r = .jammed
    · rw [DamperDyn.takeStatus_of_jammed hs hr, if_pos ⟨rfl, hno⟩]
      exact damperTrouble_fault .jammed hno
    · have hcalm : (d.takeStatus f r).state = .travelling ∨ (d.takeStatus f r).state = .settled := by
        rcases hs with hs | hs
        · rw [DamperDyn.takeStatus_of_travelling hs, if_neg hr]
          split
          · exact .inr rfl
          · exact .inl hs
        · rw [DamperDyn.takeStatus_of_settled hs, if_neg hr]
          split
          · exact .inr rfl
          · exact .inl rfl
      rcases hs with hs | hs <;> rcases hcalm with h | h <;> rw [hs, h] <;> rfl
  · rw [DamperDyn.takeStatus_of_still hs]
    change damperTrouble d.state d.state = if d.state.isFault = true ∧ d.state.isFault = false then _ else _
    rw [if_neg (by simp)]
    cases d.state <;> rfl

/-! ### The report in the machine -/

/-- A damper's report proves the path of a fan: it is OPEN, and the fan serves a branch through the damper (R101). -/
def State.provesPath (s : State) (i : Fin 24) (r : DamperReport) (j : Fin 24) : Bool :=
  Decidable.decide (r = .opened) && s.servedBranch j (· == some i)

theorem State.provesPath_iff : s.provesPath i r j = true ↔
    r = .opened ∧ ∃ (z : Fin 8) (g : ZoneFields) (e : ZoneDyn), ∃ k ∈ g.branches,
      s.zones[z] = .inService g e ∧ g.fans[k] = j ∧ g.dampers[k] = some i ∧ 0 < e.shares[k] := by
  rw [State.provesPath, Bool.and_eq_true, decide_eq_true_iff, State.servedBranch_iff]
  simp only [beq_iff_eq, and_comm (a := 0 < _)]

theorem Entry.started_false (e : Entry OutputFields OutputDyn) : e.started false = e := by
  unfold Entry.started
  split
  · simp
  · rfl

/-- A damper's move leaves the paths that a report proves. -/
theorem State.updateDamper_zones (s : State) (i : Fin 24) (g : OutputFields → DamperDyn → DamperDyn) :
    (s.updateDamper i g).zones = s.zones := by rw [State.updateDamper_frame]

/-- The outputs after a damper's report: the damper moves, and the fans whose path it proves are started. -/
theorem State.takeDamperStatus_outputs (s : State) (i j : Fin 24) (r : DamperReport) :
    (s.takeDamperStatus i r).outputs[j] =
      (s.updateDamper i fun f => DamperDyn.takeStatus f r).outputs[j].started (s.provesPath i r j) := by
  have hserved := State.servedBranch_congr (s.updateDamper_zones i fun f => DamperDyn.takeStatus f r)
  unfold State.takeDamperStatus State.provesPath
  rw [← hserved]
  by_cases hr : r = .opened
  · dsimp only
    rw [if_pos hr, State.pathCheckThrough_eq, State.startAll_outputs (State.servedBranch_fanBlind _), decide_eq_true hr]
    rfl
  · rw [if_neg hr, decide_eq_false hr]
    exact (Entry.started_false _).symm

theorem State.takeDamperStatus_slots (s : State) (i : Fin 24) (r : DamperReport) :
    (s.takeDamperStatus i r).outputSlots = (s.updateDamper i fun f => DamperDyn.takeStatus f r).outputSlots := by
  unfold State.takeDamperStatus
  dsimp only
  split
  · rw [State.pathCheckThrough_eq, State.startAll_slots]
  · rfl

theorem State.takeDamperStatus_field (s : State) (i : Fin 24) (r : DamperReport) :
    s.field.SameButQueue (s.takeDamperStatus i r).field := by
  have hfield : (s.updateDamper i fun f => DamperDyn.takeStatus f r).field = s.field := by rw [State.updateDamper_frame]
  unfold State.takeDamperStatus
  rw [← hfield]
  dsimp only
  split
  · rw [State.pathCheckThrough_eq]
    exact State.startAll_field _ _
  · exact ⟨rfl, rfl, rfl⟩

theorem State.takeDamperStatus_onlyOutputs (s : State) (i : Fin 24) (r : DamperReport) :
    s.OnlyOutputs (s.takeDamperStatus i r) := by
  unfold State.takeDamperStatus
  dsimp only
  split
  · exact (s.updateDamper_onlyOutputs i _).trans (State.pathCheckThrough_onlyOutputs _ i)
  · exact s.updateDamper_onlyOutputs i _

theorem placeDrives_none (frames : List (Frame × Origin)) : placeDrives (fun _ => none) frames = frames := by
  unfold placeDrives
  exact List.foldl_fixed _

/-- The run frames after a damper's report. -/
theorem State.takeDamperStatus_frames (h : s.outputs[i] = .inService f (.damper d)) (r : DamperReport) :
    (s.takeDamperStatus i r).field.frames = placeDrives (s.startDrive (s.provesPath i r)) s.field.frames := by
  have hserved := State.servedBranch_congr (s.updateDamper_zones i fun f => DamperDyn.takeStatus f r)
  have hfield : (s.updateDamper i fun f => DamperDyn.takeStatus f r).field = s.field := by rw [State.updateDamper_frame]
  have hactive : (s.updateDamper i fun f => DamperDyn.takeStatus f r).active = s.active := by
    rw [State.updateDamper_frame]
  have houtputs (j : Fin 24) := s.updateDamper_outputs i j fun f => DamperDyn.takeStatus f r
  unfold State.takeDamperStatus
  dsimp only
  generalize (s.updateDamper i fun f => DamperDyn.takeStatus f r) = v at hserved hfield hactive houtputs
  by_cases hr : r = .opened
  · rw [if_pos hr, State.pathCheckThrough_eq, State.startAll_frames (State.servedBranch_fanBlind _), hfield]
    congr 1
    funext j
    by_cases hj : j = i
    · subst hj
      have hself := houtputs j
      rw [if_pos rfl, h, Entry.mapDamper] at hself
      unfold State.startDrive
      rw [hself, h]
    · refine State.startDrive_congr ((houtputs j).trans (if_neg hj)) hactive ?_
      rw [State.provesPath, decide_eq_true hr, hserved]
      rfl
  · have hnone : s.startDrive (s.provesPath i r) = fun _ => none := by
      funext j
      refine State.startDrive_of_not ?_
      rw [State.provesPath, decide_eq_false hr, Bool.false_and, Bool.and_false]
    rw [if_neg hr, hnone, placeDrives_none, hfield]

/-- The trouble slots after an event at an IN_SERVICE damper. -/
theorem State.updateDamper_slot {g : OutputFields → DamperDyn → DamperDyn}
    (h : s.outputs[i] = .inService f (.damper d)) :
    (s.updateDamper i g).outputSlots[j] = if j = i then
      match damperTrouble d.state (g f d).state with
      | some raised => s.outputSlots[i].mark (s.onOffer (.output i)) raised
      | none => s.outputSlots[i]
    else s.outputSlots[j] := by
  rw [State.updateDamper_of h]
  cases damperTrouble d.state (g f d).state with
  | some raised => exact (vector_set_get _ i j _).trans (if_congr eq_comm rfl rfl)
  | none =>
    dsimp only
    split
    · rename_i hj; rw [hj]; rfl
    · rfl

/-- The trouble slots after a damper's report (R111, R168). -/
theorem State.takeDamperStatus_slot (h : s.outputs[i] = .inService f (.damper d)) (j : Fin 24) :
    (s.takeDamperStatus i r).outputSlots[j] =
      if j = i ∧ (d.takeStatus f r).state.isFault = true ∧ d.state.isFault = false then s.outputMarked i .jammed
      else s.outputSlots[j] := by
  rw [State.takeDamperStatus_slots, State.updateDamper_slot h, DamperDyn.takeStatus_trouble]
  by_cases hj : j = i
  · subst hj
    rw [if_pos rfl]
    by_cases hfault : (d.takeStatus f r).state.isFault = true ∧ d.state.isFault = false
    · rw [if_pos hfault, if_pos ⟨rfl, hfault⟩]; rfl
    · rw [if_neg hfault, if_neg fun hall => hfault hall.2]
  · rw [if_neg hj, if_neg fun hall => hj hall.1]

end
end Sys2Proof.Machine

namespace Sys2Proof.Machine

/-! ## STATUS_DAMPER (R101, R110, R131) -/

section
variable {s t u : State} {i j : Fin 24} {f : OutputFields} {d : DamperDyn} {r : DamperReport} {hd : Header}
  {data : List Byte} {fr : Frame} {c : PortCounters}

theorem exec_statusDamper :
    exec (.statusDamper hd data) s = onFrame .field (State.fieldReceive (hd.frame kindStatus data)) s := rfl

theorem State.fieldReceive_status :
    s.fieldReceive (hd.frame kindStatus data) = s.receiveStatus (hd.frame kindStatus data) := by
  have hreq : (hd.frame kindStatus data).kind ≠ kindMgmtReq := by change kindStatus ≠ kindMgmtReq; decide
  have hsample : (hd.frame kindStatus data).kind ≠ kindSample := by change kindStatus ≠ kindSample; decide
  rw [State.fieldReceive, if_neg hreq, if_neg hsample]
  exact if_pos rfl

@[simp] theorem State.heard_outputs (p : PortId) : (s.heard p).outputs = s.outputs := by cases p <;> rfl
@[simp] theorem State.heard_outputAt (p : PortId) (node : Byte) : (s.heard p).outputAt node = s.outputAt node := by
  cases p <;> rfl

/-- A well-formed STATUS of an IN_SERVICE damper: the damper takes it, and it goes up or stays. -/
theorem State.receiveStatus_damper (ha : s.outputAt fr.src = some i) (hi : s.outputs[i] = .inService f (.damper d))
    (hp : damperPayload? fr.data = some r) : s.receiveStatus fr =
      if damperStatusForwarded d r then (s.takeDamperStatus i r).forwardUp fr else s.takeDamperStatus i r := by
  unfold State.receiveStatus
  rw [ha]
  dsimp only
  rw [hi]
  unfold State.receiveDamperStatus
  dsimp only
  rw [hp]

theorem damperStatusForwarded_iff :
    damperStatusForwarded d r = true ↔ d.state = .hand ∨ r = .jammed ∨ d.position ≠ r.position := by
  simp [damperStatusForwarded, or_assoc]

/-- A frame that goes up touches nothing of the FIELD port but its counters. -/
theorem State.Upward.field (h : s.Upward t fr c) :
    t.field.on = s.field.on ∧ t.field.frames = s.field.frames ∧ t.field.recovery = s.field.recovery := by
  obtain ⟨hhop, hgo⟩ := h
  by_cases hop : fr.hop = 15
  · obtain ⟨-, hon, hframes, hrec, -⟩ := hhop hop
    exact ⟨hon, hframes, hrec⟩
  · obtain ⟨-, hjoins, hdrops⟩ := hgo hop
    by_cases hj : s.trunk.Admits s.trunk.TrunkHasRoom (fun _ => true) fr.prio
    · obtain ⟨hon, hframes, hrec, -⟩ := hjoins hj
      exact ⟨hon, hframes, hrec⟩
    · obtain ⟨hon, hframes, hrec, -⟩ := hdrops hj
      exact ⟨hon, hframes, hrec⟩

/-- The counters of the ports, in the words of R127 and R129, once a frame has gone up. -/
theorem State.Upward.counted (h : u.Upward t fr c) (htrunk : u.trunk = s.trunk) :
    (fr.hop = 15 → s.trunk.SameLine t.trunk ∧ t.field.counters = { c with droppedHop := satInc c.droppedHop })
    ∧ (fr.hop ≠ 15 → s.trunk.MetTrunk t.trunk (onward fr) .forwarded s.trunk.counters
      ∧ (s.trunk.Admits s.trunk.TrunkHasRoom (fun _ => true) fr.prio →
          t.field.counters = { c with forwarded := satInc c.forwarded })
      ∧ (¬s.trunk.Admits s.trunk.TrunkHasRoom (fun _ => true) fr.prio → t.field.counters = c)) := by
  unfold State.Upward Port.HeardOnly at h
  rw [htrunk] at h
  obtain ⟨hhop, hgo⟩ := h
  refine ⟨fun hop => ⟨(hhop hop).1, ?_⟩, fun hop => ?_⟩
  · obtain ⟨-, -, -, -, hcount⟩ := hhop hop
    exact hcount
  · obtain ⟨hmet, hjoins, hdrops⟩ := hgo hop
    refine ⟨hmet, fun hj => ?_, fun hj => ?_⟩
    · obtain ⟨-, -, -, hcount⟩ := hjoins hj
      exact hcount
    · obtain ⟨-, -, -, hcount⟩ := hdrops hj
      exact hcount

/-- The event of a well-formed STATUS of an IN_SERVICE damper. -/
theorem exec_statusDamper_taken (h : s.Hears .field) (hr : s.restartPending = false ∨ s.trunk.TrunkHasRoom)
    (ha : s.outputAt hd.src = some i) (hi : s.outputs[i] = .inService f (.damper d))
    (hp : damperPayload? data = some r) :
    let u := (s.heard .field).takeDamperStatus i r
    ∃ t, exec (.statusDamper hd data) s = .next t ∧ u.OnlyLines t
      ∧ (damperStatusForwarded d r = true → u.Upward t (hd.frame kindStatus data) s.field.counters.heard)
      ∧ (damperStatusForwarded d r = false → u.QuietLines t) := by
  have hreceive := State.receiveStatus_damper (s := s.heard .field) (fr := hd.frame kindStatus data) (i := i) (f := f)
    (d := d) (r := r) (by rw [State.heard_outputAt]; exact ha) (by rw [State.heard_outputs]; exact hi) hp
  obtain ⟨-, -, hcount⟩ := (s.heard .field).takeDamperStatus_field i r
  have honly := (s.heard .field).takeDamperStatus_onlyOutputs i r
  unfold State.OnlyOutputs at honly
  dsimp only
  rw [exec_statusDamper, onFrame_of h.1 h.2.1, State.fieldReceive_status]
  generalize (s.heard .field).takeDamperStatus i r = u at hreceive hcount honly ⊢
  have hpend : u.restartPending = (s.heard .field).restartPending := by rw [honly]
  have htrunk : u.trunk = (s.heard .field).trunk := by rw [honly]
  have hdue : u.restartDue = false := by
    rw [State.restartDue_congr hpend (by rw [htrunk]), State.heard_restartDue]; exact h.2.2
  rw [hreceive]
  cases hup : damperStatusForwarded d r with
  | true =>
    obtain ⟨hupward, hlines⟩ := State.forwardUp_finish (f := hd.frame kindStatus data) hdue
      (by rw [hpend, htrunk]; exact hr)
    rw [hcount] at hupward
    exact ⟨_, rfl, hlines, fun _ => hupward, fun hno => absurd hno (by decide)⟩
  | false =>
    obtain ⟨hlines, hquiet⟩ := State.finish_quiet hdue
    exact ⟨_, rfl, hlines, fun hyes => absurd hyes (by decide), fun _ => hquiet⟩

/-! ### The fans that a report starts -/

/-- A fan is started by a damper's report (R101). -/
def State.startsThrough (s : State) (i : Fin 24) (r : DamperReport) (j : Fin 24) : Bool :=
  s.fanIs j .pathWait && s.provesPath i r j

theorem State.startsThrough_iff : s.startsThrough i r j = true ↔
    r = .opened ∧ s.fanIs j .pathWait = true ∧ ∃ (z : Fin 8) (g : ZoneFields) (e : ZoneDyn), ∃ k ∈ g.branches,
      s.zones[z] = .inService g e ∧ g.fans[k] = j ∧ g.dampers[k] = some i ∧ 0 < e.shares[k] := by
  rw [State.startsThrough, Bool.and_eq_true, State.provesPath_iff, and_left_comm]

/-- The run frame of a started fan joins a queue under the one-per-output rule (R91). -/
def State.joinRunFrame (s : State) (frames : List (Frame × Origin)) (j : Fin 24) : List (Frame × Origin) :=
  match s.outputs[j] with
  | .inService g (.fan e) => match g.node with
    | some node => withDrive frames j true (s.originate 2 kindDrive node [1, byte (ditheredStep e.q e.dither)])
    | none => frames
  | _ => frames

theorem State.placeDrive_startDrive (s : State) (i : Fin 24) (r : DamperReport) (frames : List (Frame × Origin))
    (j : Fin 24) : placeDrive frames j (s.startDrive (s.provesPath i r) j) =
      if s.startsThrough i r j then s.joinRunFrame frames j else frames := by
  cases hstart : s.startsThrough i r j with
  | false => rw [State.startDrive_of_not hstart]; rfl
  | true =>
    obtain ⟨hfan, hproved⟩ := Bool.and_eq_true_iff.1 hstart
    obtain ⟨g, e, he, hst⟩ := State.fanIs_iff.1 hfan
    rw [State.startDrive_of he hst hproved, State.joinRunFrame, he]
    cases hnode : g.node <;> simp [placeDrive, withDrive, hnode]

theorem State.placeDrives_startDrive (s : State) (i : Fin 24) (r : DamperReport) (frames : List (Frame × Origin)) :
    placeDrives (s.startDrive (s.provesPath i r)) frames =
      ((List.finRange 24).filter (s.startsThrough i r)).foldl s.joinRunFrame frames := by
  rw [List.foldl_filter, placeDrives]
  simp only [State.placeDrive_startDrive]

/-- The entry of an output that is no damper of its own report: a fan that the report starts is in STARTING. -/
theorem State.started_of_starts {g : OutputFields} {e : FanDyn} (h : s.startsThrough i r j = true)
    (hj : s.outputs[j] = .inService g (.fan e)) :
    s.outputs[j].started (s.provesPath i r j) = .inService g (.fan (e.toStarting g)) := by
  obtain ⟨hfan, hproved⟩ := Bool.and_eq_true_iff.1 h
  rw [State.fanIs_of hj, beq_iff_eq] at hfan
  rw [hj, Entry.started, if_pos ⟨hfan, hproved⟩]

theorem State.started_of_not (h : s.startsThrough i r j = false) :
    s.outputs[j].started (s.provesPath i r j) = s.outputs[j] := by
  cases hj : s.outputs[j] with
  | vacant | draft g => rfl
  | inService g c =>
    cases c with
    | damper x => rfl
    | fan e =>
      rw [State.startsThrough, State.fanIs_of hj] at h
      rw [Entry.started, if_neg (by simpa using h)]

/-- The run frame of a started fan waits in the queue in which the run frames were placed. -/
theorem State.startDrive_waits {g : OutputFields} {e : FanDyn} {node : Byte} {frames : List (Frame × Origin)}
    (h : s.startsThrough i r j = true) (hj : s.outputs[j] = .inService g (.fan e)) (hnode : g.node = some node)
    (hframes : t.field.frames = placeDrives (s.startDrive (s.provesPath i r)) frames) :
    ∃ x ∈ t.field.queue, x.isDriveOf j = true
      ∧ x.frame = s.originate 2 kindDrive node [1, byte (ditheredStep e.q e.dither)] := by
  obtain ⟨hfan, hproved⟩ := Bool.and_eq_true_iff.1 h
  rw [State.fanIs_of hj, beq_iff_eq] at hfan
  have hdrive := State.startDrive_of hj hfan hproved
  rw [hnode, Option.map_some] at hdrive
  have hmem := mem_placeDrives hdrive (State.startDrive_isDriveOf hdrive) frames
  rw [← hframes] at hmem
  obtain ⟨x, hx, hpair⟩ := List.mem_map.1 hmem
  obtain ⟨hframe, horigin⟩ := Prod.ext_iff.1 hpair
  exact ⟨x, hx, (congrArg (fun o : Origin => o.isDriveOf j) horigin).trans (State.startDrive_isDriveOf hdrive), hframe⟩

/-! ### The report and what it leaves -/

/-- What a damper's report leaves of the outputs, the slots and the FIELD queue. -/
theorem State.heard_takeDamperStatus (hi : s.outputs[i] = .inService f (.damper d)) (r : DamperReport) :
    let u := (s.heard .field).takeDamperStatus i r
    u.outputs[i] = .inService f (.damper (d.takeStatus f r))
      ∧ (∀ j, j ≠ i → u.outputs[j] = s.outputs[j].started (s.provesPath i r j))
      ∧ (∀ j, u.outputSlots[j] =
        if j = i ∧ (d.takeStatus f r).state.isFault = true ∧ d.state.isFault = false then s.outputMarked i .jammed
        else s.outputSlots[j])
      ∧ u.field.frames = placeDrives (s.startDrive (s.provesPath i r)) s.field.frames := by
  have hi' : (s.heard .field).outputs[i] = .inService f (.damper d) := by rw [State.heard_outputs]; exact hi
  have hproves : (s.heard .field).provesPath i r = s.provesPath i r := rfl
  have hdrives : (s.heard .field).startDrive (s.provesPath i r) = s.startDrive (s.provesPath i r) :=
    funext fun j => State.startDrive_congr (by rw [State.heard_outputs]) rfl rfl
  refine ⟨?_, fun j hj => ?_, fun j => State.takeDamperStatus_slot hi' j, ?_⟩
  · rw [State.takeDamperStatus_outputs, State.updateDamper_outputs, if_pos rfl, hi']
    rfl
  · rw [State.takeDamperStatus_outputs, State.updateDamper_outputs, if_neg hj, hproves, State.heard_outputs]
  · rw [State.takeDamperStatus_frames hi', hproves, hdrives]
    rfl

/-- What STATUS_DAMPER leaves as it was. -/
theorem State.OnlyLines.of_takeDamperStatus (h : ((s.heard .field).takeDamperStatus i r).OnlyLines t) :
    t = { s with outputs := t.outputs, outputSlots := t.outputSlots, field := t.field, trunk := t.trunk } := by
  have honly := (s.heard .field).takeDamperStatus_onlyOutputs i r
  unfold State.OnlyLines at h
  unfold State.OnlyOutputs at honly
  generalize (s.heard .field).takeDamperStatus i r = u at h honly
  rw [h, honly]
  rfl

/-- Settles O27: the damper moves by its report, the fans whose path the report proves are started with their run
frames, and the frame goes up or stays. -/
theorem damperStatusMovesItsDamper : Obligations.DamperStatusMovesItsDamper := by
  unfold Obligations.DamperStatusMovesItsDamper
  intro s hd data i f d r h hr ha hi hp
  obtain ⟨t, ht, hlines, hup, hstay⟩ := exec_statusDamper_taken h hr ha hi hp
  obtain ⟨hself, hothers, hslots, hframes⟩ := State.heard_takeDamperStatus hi r
  obtain ⟨hon, hrec, hcount⟩ := (s.heard .field).takeDamperStatus_field i r
  have hframe := hlines.of_takeDamperStatus
  have htrunk : ((s.heard .field).takeDamperStatus i r).trunk = s.trunk := by
    rw [(s.heard .field).takeDamperStatus_onlyOutputs i r]; rfl
  generalize (s.heard .field).takeDamperStatus i r = u
    at hlines hup hstay hself hothers hslots hframes hon hrec hcount htrunk
  have hfield : t.field.on = u.field.on ∧ t.field.frames = u.field.frames ∧ t.field.recovery = u.field.recovery := by
    cases hgo : damperStatusForwarded d r with
    | true => exact (hup hgo).field
    | false =>
      obtain ⟨⟨hon, hframes, hrec, -⟩, -⟩ := hstay hgo
      exact ⟨hon, hframes, hrec⟩
  obtain ⟨hton, htframes, htrec⟩ := hfield
  have hplaced := htframes.trans hframes
  refine ⟨t, d.takeStatus f r, ht, hframe, by rw [hlines.outputs]; exact hself, fun hs => ?_,
    DamperDyn.takeStatus_of_jammed, DamperDyn.takeStatus_of_there, fun hs hjam hthere => ?_, fun hs hjam hthere => ?_, fun j hj => ⟨?_, fun hno => ?_,
      fun g e hyes hfan => ⟨?_, fun node hnode => ?_⟩⟩, ?_, hton.trans hon, htrec.trans hrec,
    ⟨(List.finRange 24).filter (s.startsThrough i r), List.Pairwise.filter _ (List.pairwise_lt_finRange 24),
      fun j => ?_, ?_⟩, ?_⟩
  · exact DamperDyn.takeStatus_of_still fun hmoves => hs hmoves
  · rw [DamperDyn.takeStatus_of_travelling hs, if_neg hjam, if_neg hthere]
    rfl
  · rw [DamperDyn.takeStatus_of_settled hs, if_neg hjam, if_neg hthere]
    rfl
  · rw [hlines.outputSlots, hslots, if_neg fun hall => hj hall.1]
  · have hstill := Bool.eq_false_iff.2 fun k => hno (State.startsThrough_iff.1 k)
    rw [hlines.outputs, hothers j hj, State.started_of_not hstill]
  · rw [hlines.outputs, hothers j hj, State.started_of_starts (State.startsThrough_iff.2 hyes) hfan]
  · exact State.startDrive_waits (State.startsThrough_iff.2 hyes) hfan hnode hplaced
  · rw [hlines.outputSlots, hslots]
    exact if_congr (and_iff_right rfl) rfl rfl
  · rw [List.mem_filter, and_iff_right (List.mem_finRange j), State.startsThrough_iff]
  · rw [hplaced, State.placeDrives_startDrive]
    rfl
  · dsimp only
    rw [← damperStatusForwarded_iff]
    refine ⟨fun hno => ?_, fun hgo => ((hup hgo).counted htrunk).1, fun hgo => ((hup hgo).counted htrunk).2⟩
    obtain ⟨⟨-, -, -, hcounts⟩, hquiet⟩ := hstay (by simpa using hno)
    rw [htrunk] at hquiet
    exact ⟨hquiet, hcounts.trans hcount⟩

end

end Sys2Proof.Machine

namespace Sys2Proof.Machine

/-! ## One zone takes its branches (R83) -/

section
variable {barred : Fin 24 → Bool} {fans : Vector (Fin 24) 4} {v w : Serving} {l l₁ l₂ : List (Fin 4)} {i : Fin 24}
  {j k : Fin 4}

/-- What a zone takes through a branch: nothing from a fan it is barred from, else its need, as far as the fan has
it. -/
def Serving.taken (barred : Fin 24 → Bool) (fans : Vector (Fin 24) 4) (v : Serving) (k : Fin 4) : Nat :=
  if barred fans[k] then 0 else min v.need v.left[fans[k]]

theorem Serving.taken_le : v.taken barred fans k ≤ v.need ∧ v.taken barred fans k ≤ v.left[fans[k]] := by
  unfold Serving.taken
  split
  · exact ⟨Nat.zero_le _, Nat.zero_le _⟩
  · exact ⟨Nat.min_le_left _ _, Nat.min_le_right _ _⟩

theorem Serving.takeBranch_need : (v.takeBranch barred fans k).need + v.taken barred fans k = v.need := by
  have hle := (Serving.taken_le (barred := barred) (fans := fans) (v := v) (k := k)).1
  unfold Serving.takeBranch Serving.taken at *
  split at hle <;> simp_all

theorem Serving.takeBranch_left : (v.takeBranch barred fans k).left[i] +
    (if fans[k] = i then v.taken barred fans k else 0) = v.left[i] := by
  have hle := (Serving.taken_le (barred := barred) (fans := fans) (v := v) (k := k)).2
  unfold Serving.takeBranch Serving.taken at *
  dsimp only
  split
  · simp
  · rename_i hfree
    rw [if_neg hfree] at hle
    dsimp only
    rw [vector_set_get]
    split
    · rename_i hi
      subst hi
      omega
    · rfl

/-- The share of a branch that is taken, where it had none before. -/
theorem Serving.takeBranch_shares_self (h : v.shares[k] = 0) :
    (v.takeBranch barred fans k).shares[k] = v.taken barred fans k := by
  unfold Serving.takeBranch Serving.taken
  dsimp only
  split
  · exact h
  · exact vector_set_self _ _ _

theorem Serving.takeBranch_shares_ne (h : j ≠ k) : (v.takeBranch barred fans k).shares[j] = v.shares[j] := by
  unfold Serving.takeBranch
  dsimp only
  split
  · rfl
  · exact vector_set_ne _ _ h

/-- A zone takes some of its branches, one after another. -/
def Serving.takeAll (barred : Fin 24 → Bool) (fans : Vector (Fin 24) 4) (v : Serving) (l : List (Fin 4)) : Serving :=
  l.foldl (Serving.takeBranch barred fans) v

/-- The shares of these branches. -/
def sharesOf (shares : Vector Nat 4) (l : List (Fin 4)) : Nat := (l.map fun k => shares[k]).sum

/-- The shares of those of these branches that name a fan. -/
def sharesFrom (fans : Vector (Fin 24) 4) (shares : Vector Nat 4) (i : Fin 24) (l : List (Fin 4)) : Nat :=
  sharesOf shares (l.filter fun k => fans[k] == i)

theorem sharesOf_cons {shares : Vector Nat 4} : sharesOf shares (k :: l) = shares[k] + sharesOf shares l := by
  simp [sharesOf]

theorem sharesFrom_cons {shares : Vector Nat 4} : sharesFrom fans shares i (k :: l) =
    (if fans[k] = i then shares[k] else 0) + sharesFrom fans shares i l := by
  unfold sharesFrom
  rw [List.filter_cons]
  by_cases h : fans[k] = i
  · rw [if_pos (beq_iff_eq.2 h), if_pos h, sharesOf_cons]
  · rw [if_neg (mt beq_iff_eq.1 h), if_neg h, Nat.zero_add]

theorem sharesOf_congr {shares shares' : Vector Nat 4} (h : ∀ k ∈ l, shares[k] = shares'[k]) :
    sharesOf shares l = sharesOf shares' l := by
  unfold sharesOf
  rw [List.map_congr_left h]

theorem sharesFrom_congr {shares shares' : Vector Nat 4} (h : ∀ k ∈ l, shares[k] = shares'[k]) :
    sharesFrom fans shares i l = sharesFrom fans shares' i l :=
  sharesOf_congr fun k hk => h k (List.mem_of_mem_filter hk)

theorem Serving.takeAll_shares_other (h : j ∉ l) : (v.takeAll barred fans l).shares[j] = v.shares[j] := by
  induction l generalizing v with
  | nil => rfl
  | cons a l ih =>
    obtain ⟨ha, hl⟩ := not_or.1 (mt List.mem_cons.2 h)
    exact (ih hl).trans (Serving.takeBranch_shares_ne ha)

/-- What a zone takes through its branches, its need and the fans have lost. -/
theorem Serving.takeAll_balance (hl : l.Nodup) (h : ∀ k ∈ l, v.shares[k] = 0) :
    (v.takeAll barred fans l).need + sharesOf (v.takeAll barred fans l).shares l = v.need
      ∧ ∀ i : Fin 24, (v.takeAll barred fans l).left[i]
        + sharesFrom fans (v.takeAll barred fans l).shares i l = v.left[i] := by
  induction l generalizing v with
  | nil => exact ⟨rfl, fun _ => rfl⟩
  | cons a l ih =>
    obtain ⟨ha, hl⟩ := List.nodup_cons.1 hl
    have hzero : v.shares[a] = 0 := h a List.mem_cons_self
    obtain ⟨hneed, hleft⟩ := ih (v := v.takeBranch barred fans a) hl fun k hk => by
      rw [Serving.takeBranch_shares_ne (by rintro rfl; exact ha hk)]
      exact h k (List.mem_cons_of_mem a hk)
    have hself : ((v.takeBranch barred fans a).takeAll barred fans l).shares[a] = v.taken barred fans a :=
      (Serving.takeAll_shares_other ha).trans (Serving.takeBranch_shares_self hzero)
    have hall : v.takeAll barred fans (a :: l) = (v.takeBranch barred fans a).takeAll barred fans l := rfl
    have hneed' := Serving.takeBranch_need (barred := barred) (fans := fans) (v := v) (k := a)
    rw [hall]
    generalize (v.takeBranch barred fans a).takeAll barred fans l = w at hneed hleft hself ⊢
    refine ⟨?_, fun i => ?_⟩
    · rw [sharesOf_cons, hself]
      omega
    · have hleft' := Serving.takeBranch_left (barred := barred) (fans := fans) (v := v) (k := a) (i := i)
      rw [sharesFrom_cons, hself, ← hleft', ← hleft i]
      omega

/-- The share of a branch among those that a zone takes: what the zone still needs after the branches before it, as far
as the fan has it left after those branches (R83). -/
theorem Serving.takeAll_share (hl : l.Nodup) (h : ∀ k ∈ l, v.shares[k] = 0) (hk : l = l₁ ++ k :: l₂)
    (hw : v.takeAll barred fans l = w) : w.shares[k] = if barred fans[k] then 0 else
      min (v.need - sharesOf w.shares l₁) (v.left[fans[k]] - sharesFrom fans w.shares fans[k] l₁) := by
  rw [hk] at hl h hw
  obtain ⟨hl₁, hrest, hdisj⟩ := List.nodup_append.1 hl
  obtain ⟨hkl₂, -⟩ := List.nodup_cons.1 hrest
  have hkl₁ : k ∉ l₁ := fun hmem => hdisj k hmem k List.mem_cons_self rfl
  have hall : w = ((v.takeAll barred fans l₁).takeBranch barred fans k).takeAll barred fans l₂ := by
    rw [← hw, Serving.takeAll, List.foldl_append]
    rfl
  have hself : w.shares[k] = (v.takeAll barred fans l₁).taken barred fans k := by
    rw [hall, Serving.takeAll_shares_other hkl₂, Serving.takeBranch_shares_self]
    rw [Serving.takeAll_shares_other hkl₁]
    exact h k (List.mem_append_right _ List.mem_cons_self)
  have hsame (j : Fin 4) (hj : j ∈ l₁) : (v.takeAll barred fans l₁).shares[j] = w.shares[j] := by
    have hjk : j ≠ k := by rintro rfl; exact hkl₁ hj
    have hjl₂ : j ∉ l₂ := fun hmem => hdisj j hj j (List.mem_cons_of_mem k hmem) rfl
    rw [hall, Serving.takeAll_shares_other hjl₂, Serving.takeBranch_shares_ne hjk]
  obtain ⟨hneed, hleft⟩ := Serving.takeAll_balance (barred := barred) (fans := fans) hl₁ fun j hj =>
    h j (List.mem_append_left _ hj)
  have hleft' := hleft fans[k]
  rw [sharesOf_congr hsame] at hneed
  rw [sharesFrom_congr hsame] at hleft'
  rw [hself, Serving.taken, ← hneed, ← hleft', Nat.add_sub_cancel, Nat.add_sub_cancel]

end

/-! ### The branches of a zone -/

section
variable {f : ZoneFields} {barred : Fin 24 → Bool} {demand : Nat} {left : Vector Nat 24} {i : Fin 24} {k : Fin 4}

/-- The branches before one. -/
abbrev earlierBranches (k : Fin 4) : List (Fin 4) := (List.finRange 4).filter fun j => j < k

theorem ZoneFields.mem_branches : k ∈ f.branches ↔ k.val < f.count := by simp [ZoneFields.branches]

theorem ZoneFields.branches_nodup : f.branches.Nodup := (List.nodup_finRange 4).filter _

/-- A branch that is read stands in the list right after the earlier ones. -/
theorem ZoneFields.branches_split (h : k.val < f.count) : ∃ later, f.branches = earlierBranches k ++ k :: later := by
  have hall : ∀ k : Fin 4, List.finRange 4 = earlierBranches k ++ k :: (List.finRange 4).filter fun j => k < j := by
    decide
  have hearlier : (earlierBranches k).filter (fun j => j.val < f.count) = earlierBranches k :=
    List.filter_eq_self.2 fun j hj => by
      have hjk : j < k := by simpa using (List.mem_filter.1 hj).2
      exact decide_eq_true (lt_trans hjk h)
  refine ⟨((List.finRange 4).filter fun j => k < j).filter fun j => j.val < f.count, ?_⟩
  rw [ZoneFields.branches, hall k, List.filter_append, hearlier, List.filter_cons_of_pos (by simpa using h), ← hall k]

theorem serveZone_eq (barred : Fin 24 → Bool) (f : ZoneFields) (demand : Nat) (left : Vector Nat 24) :
    serveZone barred f demand left =
      Serving.takeAll barred f.fans ⟨demand, left, Vector.replicate 4 0⟩ f.branches := rfl

/-- What a zone takes in all, its demand and the fans lose (R83). -/
theorem serveZone_balance :
    sharesOf (serveZone barred f demand left).shares f.branches ≤ demand
      ∧ ∀ i : Fin 24, (serveZone barred f demand left).left[i]
        + sharesFrom f.fans (serveZone barred f demand left).shares i f.branches = left[i] := by
  obtain ⟨hneed, hleft⟩ := Serving.takeAll_balance (barred := barred) (fans := f.fans)
    (v := ⟨demand, left, Vector.replicate 4 0⟩) f.branches_nodup fun k _ => by simp
  rw [serveZone_eq]
  exact ⟨le_of_le_of_eq (Nat.le_add_left _ _) hneed, hleft⟩

theorem serveZone_share_of_not (h : f.count ≤ k.val) : (serveZone barred f demand left).shares[k] = 0 := by
  rw [serveZone_eq, Serving.takeAll_shares_other fun hk => absurd (ZoneFields.mem_branches.1 hk) (by omega)]
  simp

/-- Each share of a zone, by its earlier ones (R83). -/
theorem serveZone_share (h : k.val < f.count) :
    let shares := (serveZone barred f demand left).shares
    shares[k] = if barred f.fans[k] then 0 else
      min (demand - sharesOf shares (earlierBranches k))
        (left[f.fans[k]] - sharesFrom f.fans shares f.fans[k] (earlierBranches k)) := by
  obtain ⟨later, hsplit⟩ := f.branches_split h
  exact Serving.takeAll_share (v := ⟨demand, left, Vector.replicate 4 0⟩) f.branches_nodup
    (fun k _ => by simp) hsplit rfl

/-- The sums of a function over two lists that share every element at which it is not 0. -/
theorem sum_map_eq_of_support {α : Type} [DecidableEq α] {g : α → Nat} {l l' : List α} (hl : l.Nodup) (hl' : l'.Nodup)
    (h : ∀ a ∈ l, a ∉ l' → g a = 0) (h' : ∀ a ∈ l', a ∉ l → g a = 0) : (l.map g).sum = (l'.map g).sum := by
  rw [← List.sum_toFinset g hl, ← List.sum_toFinset g hl']
  refine Finset.sum_congr_of_eq_on_inter (fun a ha hno => ?_) (fun a ha hno => ?_) fun _ _ _ => rfl
  · exact h a (List.mem_toFinset.1 ha) (mt List.mem_toFinset.2 hno)
  · exact h' a (List.mem_toFinset.1 ha) (mt List.mem_toFinset.2 hno)

/-- All the shares of a zone are those of the branches that are read. -/
theorem sumShares_serveZone : sumShares (serveZone barred f demand left).shares =
    sharesOf (serveZone barred f demand left).shares f.branches :=
  sum_map_eq_of_support (List.nodup_finRange 4) f.branches_nodup
    (fun _ _ hk => serveZone_share_of_not (not_lt.1 (mt ZoneFields.mem_branches.2 hk)))
    fun k _ hno => absurd (List.mem_finRange k) hno

/-- A zone without demand takes nothing. -/
theorem serveZone_share_of_idle (h : demand = 0) (k : Fin 4) : (serveZone barred f demand left).shares[k] = 0 := by
  by_cases hk : k.val < f.count
  · have hshare := serveZone_share (barred := barred) (demand := demand) (left := left) hk
    dsimp only at hshare
    rw [hshare, h, Nat.zero_sub, Nat.zero_min, ite_self]
  · exact serveZone_share_of_not (not_lt.1 hk)

end

/-! ## The zones of the order are served (R79, R83) -/

section
variable {s : State} {a b : Sharing} {y z : Fin 8} {i : Fin 24} {f : ZoneFields} {d : ZoneDyn} {l l₁ l₂ : List (Fin 8)}

theorem Entry.isInService_iff {φ δ : Type} {e : Entry φ δ} : e.isInService = true ↔ ∃ f d, e = .inService f d := by
  cases e <;> simp [Entry.isInService]

theorem State.serve_of (h : s.zones[z] = .inService f d) : s.serve a z =
    ⟨(serveZone (s.barred z) f (s.demand z) a.left).left,
      a.shares.set z (serveZone (s.barred z) f (s.demand z) a.left).shares⟩ := by
  unfold State.serve
  rw [h]

theorem State.serve_shares_ne (h : y ≠ z) : (s.serve a z).shares[y] = a.shares[y] := by
  unfold State.serve
  split
  · exact vector_set_ne _ _ h
  · rfl

theorem State.drawnIn_eq_sharesFrom {shares : Vector (Vector Nat 4) 8} (h : s.zones[z] = .inService f d) :
    s.drawnIn shares i z = sharesFrom f.fans shares[z] i f.branches := State.drawnIn_of h

theorem State.drawnIn_congr {shares shares' : Vector (Vector Nat 4) 8} (h : shares[z] = shares'[z]) :
    s.drawnIn shares i z = s.drawnIn shares' i z := by
  unfold State.drawnIn
  rw [h]

/-- What a zone draws, the fans lose. -/
theorem State.serve_balance (h : s.zones[z] = .inService f d) (i : Fin 24) :
    (s.serve a z).left[i] + s.drawnIn (s.serve a z).shares i z = a.left[i] := by
  rw [State.drawnIn_eq_sharesFrom h, State.serve_of h]
  dsimp only
  rw [vector_set_self]
  exact serveZone_balance.2 i

/-- Some zones are served, one after another. -/
def State.serveAll (s : State) (a : Sharing) (l : List (Fin 8)) : Sharing := l.foldl s.serve a

/-- What these zones draw from a fan. -/
def State.drawnInAll (s : State) (shares : Vector (Vector Nat 4) 8) (i : Fin 24) (l : List (Fin 8)) : Nat :=
  (l.map (s.drawnIn shares i)).sum

theorem State.drawnInAll_congr {shares shares' : Vector (Vector Nat 4) 8} (h : ∀ z ∈ l, shares[z] = shares'[z]) :
    s.drawnInAll shares i l = s.drawnInAll shares' i l := by
  unfold State.drawnInAll
  rw [List.map_congr_left fun z hz => State.drawnIn_congr (h z hz)]

theorem State.serveAll_shares_other (h : y ∉ l) : (s.serveAll a l).shares[y] = a.shares[y] := by
  induction l generalizing a with
  | nil => rfl
  | cons z l ih =>
    obtain ⟨hz, hl⟩ := not_or.1 (mt List.mem_cons.2 h)
    exact (ih hl).trans (State.serve_shares_ne hz)

/-- What the zones that are served draw from a fan, the fan loses. -/
theorem State.serveAll_balance (hl : l.Nodup) (h : ∀ z ∈ l, s.zones[z].isInService = true) (i : Fin 24) :
    (s.serveAll a l).left[i] + s.drawnInAll (s.serveAll a l).shares i l = a.left[i] := by
  induction l generalizing a with
  | nil => rfl
  | cons z l ih =>
    obtain ⟨hz, hl⟩ := List.nodup_cons.1 hl
    obtain ⟨f, d, hzone⟩ := Entry.isInService_iff.1 (h z List.mem_cons_self)
    have hrest := ih (a := s.serve a z) hl fun y hy => h y (List.mem_cons_of_mem z hy)
    have hself : (s.serveAll (s.serve a z) l).shares[z] = (s.serve a z).shares[z] := State.serveAll_shares_other hz
    have hone := State.serve_balance (a := a) hzone i
    have hall : s.serveAll a (z :: l) = s.serveAll (s.serve a z) l := rfl
    rw [← State.drawnIn_congr hself] at hone
    rw [hall, State.drawnInAll, List.map_cons, List.sum_cons]
    change _ + (_ + s.drawnInAll (s.serveAll (s.serve a z) l).shares i l) = _
    omega

/-- The shares of a zone among those that are served: what the fans have left after the zones before it (R83). -/
theorem State.serveAll_share (hl : l.Nodup) (h : ∀ z ∈ l, s.zones[z].isInService = true) (hk : l = l₁ ++ z :: l₂)
    (hb : s.serveAll a l = b) (hz : s.zones[z] = .inService f d) :
    ∃ left : Vector Nat 24, b.shares[z] = (serveZone (s.barred z) f (s.demand z) left).shares
      ∧ ∀ i : Fin 24, left[i] = a.left[i] - s.drawnInAll b.shares i l₁ := by
  rw [hk] at hl h hb
  obtain ⟨hl₁, hrest, hdisj⟩ := List.nodup_append.1 hl
  obtain ⟨hzl₂, -⟩ := List.nodup_cons.1 hrest
  have hall : b = s.serveAll (s.serve (s.serveAll a l₁) z) l₂ := by
    rw [← hb, State.serveAll, List.foldl_append]
    rfl
  have hsame (y : Fin 8) (hy : y ∈ l₁) : (s.serveAll a l₁).shares[y] = b.shares[y] := by
    have hyz : y ≠ z := hdisj y hy z List.mem_cons_self
    have hyl₂ : y ∉ l₂ := fun hmem => hdisj y hy y (List.mem_cons_of_mem z hmem) rfl
    rw [hall, State.serveAll_shares_other hyl₂, State.serve_shares_ne hyz]
  refine ⟨(s.serveAll a l₁).left, ?_, fun i => ?_⟩
  · rw [hall, State.serveAll_shares_other hzl₂, State.serve_of hz]
    exact vector_set_self _ _ _
  · have hbalance := State.serveAll_balance (a := a) hl₁ (fun y hy => h y (List.mem_append_left _ hy)) i
    rw [State.drawnInAll_congr hsame] at hbalance
    omega

/-! ### The order of service (R79) -/

theorem State.mem_order : z ∈ s.order ↔ s.zones[z].isInService = true ∧ 0 < s.demand z := by
  have hlevels : ∀ e : Level, e ∈ ([5, 4, 3, 2, 1, 0] : List Level) := by decide
  simp only [State.order, List.mem_flatMap, List.mem_filter, List.mem_finRange, true_and, Bool.and_eq_true,
    decide_eq_true_iff, beq_iff_eq]
  constructor
  · rintro ⟨e, -, hz, -⟩
    exact hz
  · intro hz
    exact ⟨s.zoneLevel z, hlevels _, hz, rfl⟩

theorem State.order_pairwise (s : State) : s.order.Pairwise s.Precedes := by
  have hmem {e : Level} {y : Fin 8} (hy : y ∈ (List.finRange 8).filter fun z =>
      s.zones[z].isInService && Decidable.decide (0 < s.demand z) && s.zoneLevel z == e) : s.zoneLevel y = e := by
    simpa using (Bool.and_eq_true_iff.1 (List.mem_filter.1 hy).2).2
  refine List.pairwise_flatMap.2 ⟨fun e _ => ?_, ?_⟩
  · refine ((List.pairwise_lt_finRange 8).filter _).imp_of_mem fun hy hz hlt => .inr ⟨?_, hlt⟩
    rw [hmem hy, hmem hz]
  · have hdown : ([5, 4, 3, 2, 1, 0] : List Level).Pairwise (· > ·) := by decide
    exact hdown.imp fun hlt y hy z hz => .inl (by rw [hmem hy, hmem hz]; exact hlt)

theorem State.Precedes.asymm (h : s.Precedes y z) : ¬s.Precedes z y := by
  rcases h with h | ⟨h, hlt⟩
  · rintro (k | ⟨k, -⟩)
    · exact lt_asymm h k
    · exact h.ne k
  · rintro (k | ⟨-, k⟩)
    · exact k.ne h
    · exact lt_asymm hlt k

theorem State.order_nodup (s : State) : s.order.Nodup :=
  s.order_pairwise.imp fun h => by rintro rfl; exact h.asymm h

/-! ### The shares of an allocation -/

/-- The sharing before the first zone is served. -/
def State.unshared (s : State) : Sharing :=
  { left := Vector.ofFn s.capacity, shares := Vector.replicate 8 (Vector.replicate 4 0) }

theorem State.sharing_eq (s : State) : s.sharing = s.serveAll s.unshared s.order := rfl

theorem State.unshared_left (s : State) (i : Fin 24) : s.unshared.left[i] = s.capacity i := vector_ofFn_get _ i

/-- A zone without a place in the order takes nothing. -/
theorem State.sharing_out (h : z ∉ s.order) (k : Fin 4) : s.sharing.shares[z][k] = 0 := by
  have hnone : s.sharing.shares[z] = Vector.replicate 4 0 := by
    rw [State.sharing_eq, State.serveAll_shares_other h]
    simp [State.unshared]
  rw [hnone]
  simp

theorem State.drawnIn_out (h : z ∉ s.order) (i : Fin 24) : s.drawnIn s.sharing.shares i z = 0 := by
  refine List.sum_eq_zero fun n hn => ?_
  obtain ⟨k, -, rfl⟩ := List.mem_map.1 hn
  exact State.sharing_out h k

theorem State.order_inService (hz : z ∈ s.order) : s.zones[z].isInService = true := (State.mem_order.1 hz).1

/-- What the zones take from a fan stays within its capacity (R82, R83). -/
theorem State.fanFlow_le (s : State) (i : Fin 24) : s.fanFlow s.sharing.shares i ≤ s.capacity i := by
  have hbalance := State.serveAll_balance (a := s.unshared) s.order_nodup (fun z hz => State.order_inService hz) i
  rw [← State.sharing_eq, State.unshared_left] at hbalance
  have hflow : s.fanFlow s.sharing.shares i = s.drawnInAll s.sharing.shares i s.order :=
    sum_map_eq_of_support (g := s.drawnIn s.sharing.shares i) (List.nodup_finRange 8) s.order_nodup
      (fun z _ hz => State.drawnIn_out hz i) fun z _ hno => absurd (List.mem_finRange z) hno
  omega

/-- What the zones before one in the order draw from a fan. -/
theorem State.drawnInAll_before (h : s.order = l₁ ++ z :: l₂) (i : Fin 24) :
    s.drawnInAll s.sharing.shares i l₁ =
      s.drawnInAll s.sharing.shares i ((List.finRange 8).filter fun y => s.Precedes y z) := by
  have hpairs := s.order_pairwise
  have hnodup := s.order_nodup
  rw [h] at hpairs hnodup
  obtain ⟨-, hrest, hbefore⟩ := List.pairwise_append.1 hpairs
  obtain ⟨hafter, -⟩ := List.pairwise_cons.1 hrest
  refine sum_map_eq_of_support (List.nodup_append.1 hnodup).1 ((List.nodup_finRange 8).filter _)
    (fun y hy hno => ?_) fun y hy hno => State.drawnIn_out (fun horder => ?_) i
  · have hprec := hbefore y hy z List.mem_cons_self
    exact absurd (List.mem_filter.2 ⟨List.mem_finRange y, decide_eq_true hprec⟩) hno
  · have hprec : s.Precedes y z := of_decide_eq_true (List.mem_filter.1 hy).2
    rw [h] at horder
    rcases List.mem_append.1 horder with hmem | hmem
    · exact hno hmem
    · rcases List.mem_cons.1 hmem with rfl | hmem
      · exact hprec.asymm hprec
      · exact hprec.asymm (hafter y hmem)

/-- The shares of an IN_SERVICE zone: what the fans have left after the zones before it in the order (R79, R83). -/
theorem State.sharing_zone (hz : s.zones[z] = .inService f d) :
    ∃ left : Vector Nat 24, s.sharing.shares[z] = (serveZone (s.barred z) f (s.demand z) left).shares
      ∧ ∀ i : Fin 24, left[i] = s.capacity i -
        s.drawnInAll s.sharing.shares i ((List.finRange 8).filter fun y => s.Precedes y z) := by
  by_cases horder : z ∈ s.order
  · obtain ⟨before, after, hsplit⟩ := List.append_of_mem horder
    obtain ⟨left, hshares, hleft⟩ := State.serveAll_share s.order_nodup (fun y hy => State.order_inService hy) hsplit
      s.sharing_eq.symm hz
    refine ⟨left, hshares, fun i => ?_⟩
    rw [hleft, State.unshared_left, State.drawnInAll_before hsplit]
  · have hidle : s.demand z = 0 := by
      have hno : ¬0 < s.demand z := fun hpos => horder (State.mem_order.2 ⟨by rw [hz]; rfl, hpos⟩)
      omega
    refine ⟨Vector.ofFn fun i => s.capacity i -
      s.drawnInAll s.sharing.shares i ((List.finRange 8).filter fun y => s.Precedes y z), ?_,
      fun i => vector_ofFn_get _ i⟩
    refine Vector.ext fun n hn => ?_
    exact (State.sharing_out horder ⟨n, hn⟩).trans (serveZone_share_of_idle hidle ⟨n, hn⟩).symm

end
end Sys2Proof.Machine

namespace Sys2Proof.Machine

/-! ## Claims, holds and capacities (R80 to R82) -/

section
variable {s t : State} {z : Fin 8} {i : Fin 24} {f : OutputFields} {d : FanDyn}

theorem State.reachesFan_iff : s.reachesFan z i = true ↔
    ∃ g e, s.zones[z] = .inService g e ∧ ∃ k ∈ g.branches, g.fans[k] = i := by
  unfold State.reachesFan ZoneFields.namesFan
  cases s.zones[z] <;> simp

theorem Response.confines_iff {r : Response} {l : Level} : isFire l = true ∧ r.confines l = true ↔
    (l = 4 ∧ r.confine4 = true) ∨ (l = 5 ∧ r.confine5 = true) := by
  have hfire : isFire l = true ↔ l = 4 ∨ l = 5 := by
    revert l
    decide
  rw [hfire]
  constructor
  · rintro ⟨rfl | rfl, h⟩
    · exact .inl ⟨rfl, h⟩
    · exact .inr ⟨rfl, h⟩
  · rintro (⟨rfl, h⟩ | ⟨rfl, h⟩)
    · exact ⟨.inl rfl, h⟩
    · exact ⟨.inr rfl, h⟩

theorem State.claims_iff : s.claims z i = true ↔ ∃ f d, s.zones[z] = .inService f d ∧ (∃ k ∈ f.branches, f.fans[k] = i)
    ∧ ((d.level = 4 ∧ s.response.confine4 = true) ∨ (d.level = 5 ∧ s.response.confine5 = true)) := by
  rw [State.claims, Bool.and_eq_true, Bool.and_eq_true, and_assoc, State.reachesFan_iff, Response.confines_iff]
  constructor
  · rintro ⟨⟨g, e, hz, hk⟩, hlevel⟩
    rw [State.zoneLevel, hz] at hlevel
    exact ⟨g, e, hz, hk, hlevel⟩
  · rintro ⟨g, e, hz, hk, hlevel⟩
    refine ⟨⟨g, e, hz, hk⟩, ?_⟩
    rw [State.zoneLevel, hz]
    exact hlevel

theorem State.claimed_iff : s.claimed i = true ↔ ∃ z, s.claims z i = true := by
  simp [State.claimed]

theorem State.barred_of {y : Fin 8} (hy : s.claims y i = true) (hz : s.claims z i = false) : s.barred z i = true := by
  rw [State.barred, State.claimed_iff.2 ⟨y, hy⟩, hz]
  rfl

theorem State.barred_of_not (h : s.claims z i = true ∨ ∀ y, s.claims y i = false) : s.barred z i = false := by
  unfold State.barred
  rcases h with h | h
  · rw [h, Bool.not_true, Bool.and_false]
  · have hno : s.claimed i = false := by
      refine Bool.eq_false_iff.2 fun hclaimed => ?_
      obtain ⟨y, hy⟩ := State.claimed_iff.1 hclaimed
      rw [h y] at hy
      cases hy
    rw [hno, Bool.false_and]

/-- A fan in reach of a zone at FLAMMABLE and of none in fire is under hold if it is NONEX (R81). -/
theorem State.underHold_iff : s.underHold f i = true ↔ f.nonex = true
    ∧ (∃ z, (∃ g e, s.zones[z] = .inService g e ∧ ∃ k ∈ g.branches, g.fans[k] = i) ∧ s.zoneLevel z = 3)
    ∧ ∀ z, (∃ g e, s.zones[z] = .inService g e ∧ ∃ k ∈ g.branches, g.fans[k] = i) → s.zoneLevel z < 4 := by
  simp only [State.underHold, State.fireInReach, isFire, Bool.and_eq_true, Bool.not_eq_true', List.any_eq_true,
    List.any_eq_false, List.mem_finRange, true_and, true_imp_iff, State.reachesFan_iff, beq_iff_eq,
    decide_eq_true_iff, and_assoc, not_and, not_le]

theorem FanState.holdMark_cases (st : FanState) : (st ∈ [.stopped, .pathWait, .stopping] → st.holdMark = .heldStopped)
    ∧ (st ∈ [.starting, .running] → st.holdMark = .heldRunning)
    ∧ (st.isFault = true ∨ st = .hand → st.holdMark = .none) := by
  cases st <;> simp [FanState.holdMark, FanState.isFault]

theorem State.holdMark_of (h : s.outputs[i] = .inService f (.fan d)) :
    s.holdMark i = if s.underHold f i then d.state.holdMark else .none := by
  unfold State.holdMark
  rw [h]

theorem State.fan?_of (h : s.outputs[i] = .inService f (.fan d)) : s.fan? i = some d := by
  unfold State.fan?
  rw [h]

theorem State.capacity_of (h : s.outputs[i] = .inService f (.fan d)) : s.capacity i =
    if d.state.isFault = true ∨ d.state = .hand ∨ s.holdMark i = .heldStopped then 0 else f.rated := by
  unfold State.capacity usable
  rw [h]
  dsimp only
  by_cases hfault : d.state.isFault = true
  · simp [hfault]
  · by_cases hhand : d.state = .hand
    · simp [hhand]
    · by_cases hheld : s.holdMark i = .heldStopped <;> simp [hfault, hhand, hheld]

theorem State.capacity_of_none (h : s.fan? i = none) : s.capacity i = 0 := by
  unfold State.capacity
  split
  · rename_i f d hi
    rw [State.fan?_of hi] at h
    cases h
  · rfl

/-- An IN_SERVICE zone of the new state has taken its part of the allocation. -/
theorem State.zone_of_allocated {g : ZoneFields} {e : ZoneDyn} (hz : t.zones = s.zonesDelivered.zones)
    (h : t.zones[z] = .inService g e) : ∃ e₀, s.zones[z] = .inService g e₀
      ∧ e = e₀.allocated (s.demand z) s.sharing.shares[z] := by
  rw [hz] at h
  cases hzone : s.zones[z] with
  | inService g₀ e₀ =>
    rw [(State.zonesDelivered_zone hzone).1] at h
    cases h
    exact ⟨e₀, rfl, rfl⟩
  | vacant | draft g₀ =>
    rw [(State.zonesDelivered_out (by rw [hzone]; rfl)).1, hzone] at h
    cases h

/-- What a zone takes in all stays within its demand (R83). -/
theorem State.sumShares_le {g : ZoneFields} {e : ZoneDyn} (hz : s.zones[z] = .inService g e) :
    sumShares s.sharing.shares[z] ≤ s.demand z := by
  obtain ⟨left, hshares, -⟩ := State.sharing_zone hz
  rw [hshares, sumShares_serveZone]
  exact serveZone_balance.1

theorem State.sharing_of_barred {g : ZoneFields} {e : ZoneDyn} {k : Fin 4} (hz : s.zones[z] = .inService g e)
    (hk : k.val < g.count → s.barred z g.fans[k] = true) : s.sharing.shares[z][k] = 0 := by
  obtain ⟨left, hshares, -⟩ := State.sharing_zone hz
  rw [hshares]
  by_cases hcount : k.val < g.count
  · exact (serveZone_share hcount).trans (if_pos (hk hcount))
  · exact serveZone_share_of_not (not_lt.1 hcount)

/-- A share that no claim bars: the need that is left, as far as the fan has it left (R82, R83). -/
theorem State.sharing_of_free {g : ZoneFields} {e : ZoneDyn} {k : Fin 4} (hz : s.zones[z] = .inService g e)
    (hcount : k.val < g.count) (hk : s.barred z g.fans[k] = false) : s.sharing.shares[z][k] =
      min (s.demand z - sharesOf s.sharing.shares[z] (earlierBranches k))
        (s.capacity g.fans[k]
          - s.drawnInAll s.sharing.shares g.fans[k] ((List.finRange 8).filter fun y => s.Precedes y z)
          - sharesFrom g.fans s.sharing.shares[z] g.fans[k] (earlierBranches k)) := by
  obtain ⟨left, hshares, hleft⟩ := State.sharing_zone hz
  have hshare := serveZone_share (barred := s.barred z) (demand := s.demand z) (left := left) hcount
  dsimp only at hshare
  rwa [hk, if_neg (by decide), ← hshares, hleft] at hshare

/-- Settles O24: claims and holds by what they read, and the shares by the sums that the serving of a branch and of a
zone keeps. -/
theorem sharesStayWithinFansAndDemands : Obligations.SharesStayWithinFansAndDemands := by
  unfold Obligations.SharesStayWithinFansAndDemands
  refine ⟨fun s z i => State.claims_iff, fun s i f d hi => ?_, fun s hw hdue => ?_⟩
  · dsimp only
    rw [← State.underHold_iff, State.holdMark_of hi]
    refine ⟨fun hno => if_neg hno, fun hheld => ?_⟩
    rw [if_pos hheld]
    exact d.state.holdMark_cases
  · obtain ⟨t, ht, honly, -⟩ := exec_drivePeriodExpiry_allocates hw hdue
    have hzones : t.zones = s.zonesDelivered.zones := honly.zones.trans s.allocate_zones
    have hdrawn (i : Fin 24) : t.drawnFrom i ≤ s.capacity i := by
      rw [State.drawnFrom_eq hzones]
      exact s.fanFlow_le i
    refine ⟨t, ht, fun i f d hi => ?_, fun i hi => ?_, fun z f d hz => ?_, fun z y k f d hz hy hno => ?_,
      fun z k f d hz => ?_⟩
    · have hle := hdrawn i
      rw [State.capacity_of hi] at hle
      split at hle
      · exact ⟨hle.trans (Nat.zero_le _), fun _ => Nat.le_zero.1 hle⟩
      · rename_i husable
        exact ⟨hle, fun hno => absurd hno husable⟩
    · exact Nat.le_zero.1 ((hdrawn i).trans_eq (State.capacity_of_none hi))
    · obtain ⟨e, hzone, rfl⟩ := State.zone_of_allocated hzones hz
      have hle := State.sumShares_le hzone
      refine ⟨rfl, hle, ?_⟩
      change Decidable.decide (sumShares s.sharing.shares[z] < s.demand z) = false ↔
        sumShares s.sharing.shares[z] = s.demand z
      rw [decide_eq_false_iff_not]
      omega
    · obtain ⟨e, hzone, rfl⟩ := State.zone_of_allocated hzones hz
      exact State.sharing_of_barred hzone fun _ => State.barred_of hy hno
    · obtain ⟨e, hzone, rfl⟩ := State.zone_of_allocated hzones hz
      have hserved : t.drawnBy f.fans[k] = s.drawnIn s.sharing.shares f.fans[k] :=
        funext (State.drawnBy_eq hzones f.fans[k])
      dsimp only
      rw [hserved]
      refine ⟨fun hcount => State.sharing_of_barred hzone fun hlt => absurd hlt (not_lt.2 hcount),
        fun hcount hclaim => ?_⟩
      have hshare := State.sharing_of_free hzone hcount (State.barred_of_not hclaim)
      refine ⟨fun g x hi => ?_, fun hnone => ?_⟩
      · rw [State.capacity_of hi] at hshare
        exact hshare
      · rw [State.capacity_of_none hnone, Nat.zero_sub, Nat.zero_sub, Nat.min_zero] at hshare
        exact hshare

end
end Sys2Proof.Machine

namespace Sys2Proof.Machine

/-! ## An event that leaves an output without trouble (R168) -/

section
variable {s t : State} {i : Fin 24} {f : OutputFields}

/-- A fan that ends neither in FAULT nor with its NO_PATH mark has its slot set when it was in either (R168). -/
theorem fanTrouble_of_untroubled {d d' : FanDyn} (h : (OutputDyn.fan d').troubled = false) :
    fanTrouble d d' = if (OutputDyn.fan d).troubled then some none else none := by
  obtain ⟨hfault, hmark⟩ := Bool.or_eq_false_iff.1 h
  unfold fanTrouble
  cases hnew : d'.state with
  | fault r => rw [hnew] at hfault; cases hfault
  | _ => cases hold : d.state <;> simp [OutputDyn.troubled, FanState.isFault, hold, hmark]

/-- A damper that does not end in FAULT has its slot set when it was in FAULT (R168). -/
theorem damperTrouble_of_untroubled {old new : DamperState} (h : new.isFault = false) :
    damperTrouble old new = if old.isFault then some none else none := by
  cases new with
  | fault r => cases h
  | _ => cases old <;> rfl

/-- The part once an event has taken the machine of an IN_SERVICE output from `d` to `d'`, which is in no trouble: its
slot is set when `d` was in trouble. -/
def State.outputRecovered (s : State) (i : Fin 24) (f : OutputFields) (d d' : OutputDyn) : State :=
  if d.troubled then s.outputMoved i f d' s.outputSlots[i].lastReason else s.setOutput i (.inService f d')

theorem State.updateFan_recovered {g : OutputFields → FanDyn → FanDyn} {d : FanDyn}
    (h : s.outputs[i] = .inService f (.fan d)) (k : (OutputDyn.fan (g f d)).troubled = false) :
    s.updateFan i g = s.outputRecovered i f (.fan d) (.fan (g f d)) := by
  have htrouble := fanTrouble_of_untroubled (d := d) k
  unfold State.outputRecovered
  split
  case isTrue hwas => exact State.updateFan_ended h (htrouble.trans (if_pos hwas))
  case isFalse hwas => exact State.updateFan_unmarked h (htrouble.trans (if_neg hwas))

theorem State.updateDamper_recovered {g : OutputFields → DamperDyn → DamperDyn} {d : DamperDyn}
    (h : s.outputs[i] = .inService f (.damper d)) (k : (g f d).state.isFault = false) :
    s.updateDamper i g = s.outputRecovered i f (.damper d) (.damper (g f d)) := by
  rw [State.updateDamper_of h, damperTrouble_of_untroubled k, State.outputRecovered,
    show (OutputDyn.damper d).troubled = d.state.isFault from rfl]
  cases hwas : d.state.isFault with
  | true => rfl
  | false => rfl

/-- What the claims say of an output that an event has left without trouble. -/
theorem State.outputRecovered_becomes {d d' : OutputDyn} (h : (s.outputRecovered i f d d').OnlyLines t) :
    t = { s with
        outputs := s.outputs.set i (.inService f d'), outputSlots := t.outputSlots, field := t.field, trunk := t.trunk }
      ∧ t.outputSlots =
        if d.troubled then s.outputSlots.set i (s.outputMarked i s.outputSlots[i].lastReason) else s.outputSlots := by
  unfold State.outputRecovered at h
  cases hwas : d.troubled with
  | true =>
    rw [hwas] at h
    exact State.outputMoved_becomes h
  | false =>
    rw [hwas] at h
    have hslots : t.outputSlots = s.outputSlots := by rw [h]; rfl
    exact ⟨by rw [hslots]; exact h, hslots⟩

/-- An event that leaves an output without trouble touches no line, no other table and no mode of the part. -/
theorem State.outputRecovered_onlyOutputs (s : State) (i : Fin 24) (f : OutputFields) (d d' : OutputDyn) :
    s.OnlyOutputs (s.outputRecovered i f d d') ∧ (s.outputRecovered i f d d').field = s.field := by
  unfold State.outputRecovered
  split <;> exact ⟨rfl, rfl⟩

theorem State.heard_outputRecovered (s : State) (i : Fin 24) (f : OutputFields) (d d' : OutputDyn) :
    (s.heard .trunk).outputRecovered i f d d' = (s.outputRecovered i f d d').heard .trunk := by
  unfold State.outputRecovered
  cases d.troubled <;> rfl

/-! ## Output requests (R113 to R116) -/

variable {src tag output : Byte} {q : Request}

/-- A request that is done by an event that leaves one output without trouble, in the words of the claims. -/
theorem outputRequest_done {d d' : OutputDyn} (hr : s.Ready)
    (hdec : (s.heard .trunk).decide q = .done ((s.heard .trunk).outputRecovered i f d d') []) :
    ∃ t, onRequest src tag q s = .next t ∧ s.Answered t src q.code tag 0 []
      ∧ (s.outputRecovered i f d d').OnlyLines t := by
  obtain ⟨honly, hfield⟩ := s.outputRecovered_onlyOutputs i f d d'
  rw [State.heard_outputRecovered] at hdec
  exact onRequest_changes hr hdec (by rw [honly]) hfield (by rw [honly]) (by rw [honly])

/-- The output that a request names, found IN_SERVICE. -/
theorem State.outputNamed_of {d : OutputDyn} (hi : indexOf 24 output = some i) (h : s.outputs[i] = .inService f d) :
    s.outputNamed output = .ok (i, d) := by simp only [State.outputNamed, hi, h]

/-- OUTPUT_HAND with setting 1, at an output that no zone in fire names (R113). -/
theorem State.outputHand_on {d : OutputDyn} (hi : indexOf 24 output = some i) (h : s.outputs[i] = .inService f d)
    (hfree : s.outputLocked i = false) : s.outputHand output 1 = .ok (s.handOn i) := by
  rw [State.outputHand, State.outputNamed_of hi h]
  exact (if_neg (by decide)).trans ((if_pos rfl).trans (if_neg (by rw [hfree]; exact Bool.false_ne_true)))

/-- OUTPUT_HAND with setting 0 (R113). -/
theorem State.outputHand_off {d : OutputDyn} (hi : indexOf 24 output = some i) (h : s.outputs[i] = .inService f d) :
    s.outputHand output 0 = .ok (s.handOff i) := by
  rw [State.outputHand, State.outputNamed_of hi h]
  exact if_pos rfl

theorem State.outputReset_fan {d : FanDyn} (hi : indexOf 24 output = some i) (h : s.outputs[i] = .inService f (.fan d)) :
    s.outputReset output =
      if d.state.isFault then .ok (s.updateFan i fun _ => FanDyn.toStopped) else .error .state := by
  rw [State.outputReset, State.outputNamed_of hi h]

theorem State.outputReset_damper {d : DamperDyn} (hi : indexOf 24 output = some i)
    (h : s.outputs[i] = .inService f (.damper d)) :
    s.outputReset output =
      if d.state = .hand then .error .state else .ok (s.updateDamper i DamperDyn.toTravelling) := by
  rw [State.outputReset, State.outputNamed_of hi h]

/-! ## OUTPUT_RESET (R116) -/

/-- From FAULT a fan goes to STOPPED with its retry timer, the one that ran, stopped (R97, R116). -/
theorem FanDyn.Sound.toStopped_of_fault {d : FanDyn} (h : d.Sound) (hs : d.state.isFault = true) :
    d.toStopped = { d with state := .stopped, retryTimer := none } := by
  obtain ⟨hpath, hstart, hstatus, hstop, hmark⟩ := h.of_fault hs
  rw [FanDyn.toStopped, FanDyn.stopTimers, hpath, hstart, hstatus, hstop, hmark]

theorem outputReset_done {d d' : OutputDyn} (hr : s.Ready)
    (h : (s.heard .trunk).outputReset output = .ok ((s.heard .trunk).outputRecovered i f d d')) :
    s.Done (.outputReset src tag output) src 25 tag [] (s.outputRecovered i f d d') :=
  outputRequest_done (q := .outputReset output) hr (by rw [State.decide, h]; rfl)

theorem outputReset_refused {c : ReplyCode} (hr : s.Ready) (h : (s.heard .trunk).outputReset output = .error c) :
    s.Refuses (.outputReset src tag output) src 25 tag c :=
  onRequest_refused (r := .outputReset output) hr (by rw [State.decide, h]; rfl)

end

/-- Settles O30: a fan by whether it is in FAULT, a damper by whether it is in HAND. -/
theorem outputResetRecovers : Obligations.OutputResetRecovers := by
  unfold Obligations.OutputResetRecovers
  intro s src tag output i f hr hi c
  refine ⟨fun d h hd hs => ?_, fun d h hs => ?_, fun d h hs => ?_, fun d h hs => ?_⟩
  · have hdone := outputReset_done (src := src) (tag := tag) hr
      ((State.outputReset_fan (s := s.heard .trunk) hi h).trans ((if_pos hs).trans
        (congrArg _ (State.updateFan_recovered (s := s.heard .trunk) h rfl))))
    have htroubled : (OutputDyn.fan d).troubled = true := by rw [OutputDyn.troubled, hs]; rfl
    rw [State.outputRecovered, if_pos htroubled, hd.toStopped_of_fault hs] at hdone
    exact hdone
  · exact outputReset_refused hr ((State.outputReset_fan (s := s.heard .trunk) hi h).trans (if_neg (by simp [hs])))
  · have hdone := outputReset_done (src := src) (tag := tag) hr
      ((State.outputReset_damper (s := s.heard .trunk) hi h).trans ((if_neg hs).trans
        (congrArg _ (State.updateDamper_recovered (s := s.heard .trunk) h rfl))))
    refine ⟨fun hcalm => ?_, fun hfault => ?_⟩
    · have huntroubled : ¬(OutputDyn.damper d).troubled = true := Bool.eq_false_iff.1 hcalm
      rw [State.outputRecovered, if_neg huntroubled] at hdone
      exact hdone
    · rw [State.outputRecovered, if_pos (show (OutputDyn.damper d).troubled = true from hfault)] at hdone
      exact hdone
  · exact outputReset_refused hr ((State.outputReset_damper (s := s.heard .trunk) hi h).trans (if_pos hs))

end Sys2Proof.Machine

namespace Sys2Proof.Machine

/-! ## OUTPUT_HAND (R113 to R115) -/

section
variable {s m : State} {i : Fin 24} {f : OutputFields} {src tag output : Byte}

/-- Into HAND, with every timer stopped (R114). -/
theorem FanDyn.toHand_of_not {d : FanDyn} (hs : d.state ≠ .hand) : d.toHand = { d with
    state := .hand, noPath := false, below := 0, pathTimer := none, startTimer := none, statusTimer := none
    stopTimer := none, retryTimer := none, dither := if d.state = .stopped then 0 else d.dither } := if_neg hs

theorem DamperDyn.toHand_of_not {d : DamperDyn} (hs : d.state ≠ .hand) :
    d.toHand = { d with state := .hand, travelTimer := none, statusTimer := none } := if_neg hs

/-- A fan in HAND has no timer running and no NO_PATH mark, so that its return to STOPPED changes its state alone
(R97, R115). -/
theorem FanDyn.Sound.fromHand_of_hand {d : FanDyn} (h : d.Sound) (hs : d.state = .hand) :
    d.fromHand = { d with state := .stopped } := by
  obtain ⟨hpath, hstart, hstatus, hstop, hretry⟩ := h.timers_none
  obtain ⟨-, -, -, -, -, -, -, hmark, -⟩ := h
  rw [hs] at hpath hstart hstatus hstop hretry hmark
  have hclear : d.noPath = false := by simpa using hmark
  rw [FanDyn.fromHand, if_pos hs, FanDyn.toStopped, FanDyn.stopTimers, hpath (by decide), hstart (by decide),
    hstatus (by decide), hstop (by decide), hretry rfl, hclear]

/-- A damper in HAND has no timer running, and goes to TRAVELLING with its travel timer (R98, R115). -/
theorem DamperDyn.Sound.fromHand_of_hand {d : DamperDyn} (h : d.Sound) (hs : d.state = .hand) :
    d.fromHand f = { d with state := .travelling, travelTimer := timerOf f.travelTimeout } := by
  have hstatus : d.statusTimer = none := Option.isNone_iff_eq_none.1 (by rw [← Option.not_isSome, h.2, hs]; rfl)
  rw [DamperDyn.fromHand, if_pos hs, DamperDyn.toTravelling, hstatus]

theorem State.inHand_of {d : OutputDyn} (h : s.outputs[i] = .inService f d) : s.inHand i = d.inHand := by
  rw [State.inHand, h]

/-- A setting that is already so: the output stands as it is (R113). -/
theorem State.handOn_of_hand {d : OutputDyn} (h : s.outputs[i] = .inService f d) (hs : d.inHand = true) :
    s.handOn i = s := if_pos ((State.inHand_of h).trans hs)

/-- Of the events at a fan and at a damper of one output, only that of its kind happens. -/
theorem State.updateFan_updateDamper_of_fan {g : OutputFields → FanDyn → FanDyn}
    {k : OutputFields → DamperDyn → DamperDyn} {d : FanDyn} (h : s.outputs[i] = .inService f (.fan d)) :
    (s.updateFan i g).updateDamper i k = s.updateFan i g := by
  refine State.updateDamper_of_not ?_
  rw [State.damper?, State.updateFan_outputs, if_pos rfl, h]
  rfl

theorem State.updateFan_updateDamper_of_damper {g : OutputFields → FanDyn → FanDyn}
    {k : OutputFields → DamperDyn → DamperDyn} {d : DamperDyn} (h : s.outputs[i] = .inService f (.damper d)) :
    (s.updateFan i g).updateDamper i k = s.updateDamper i k := by
  rw [State.updateFan_of_not (by rw [State.fan?, h])]

/-- An event that leaves a fan as it is leaves the part as it is. -/
theorem State.updateFan_same {g : OutputFields → FanDyn → FanDyn} {d : FanDyn}
    (h : s.outputs[i] = .inService f (.fan d)) (k : g f d = d) : s.updateFan i g = s := by
  have htrouble : fanTrouble d (g f d) = none := by
    rw [k]
    unfold fanTrouble
    cases d.state <;> cases d.noPath <;> rfl
  rw [State.updateFan_unmarked h htrouble, k, State.setOutput, ← h, Fin.getElem_fin, Vector.set_getElem_self]

theorem State.updateDamper_same {g : OutputFields → DamperDyn → DamperDyn} {d : DamperDyn}
    (h : s.outputs[i] = .inService f (.damper d)) (k : g f d = d) : s.updateDamper i g = s := by
  have htrouble : damperTrouble d.state d.state = none := by cases d.state <;> rfl
  rw [State.updateDamper_of h, k, htrouble]
  dsimp only
  rw [State.setOutput, ← h, Fin.getElem_fin, Vector.set_getElem_self]

/-- A fan into HAND: the event at the fan, and its waiting DRIVE withdrawn (R93, R114). -/
theorem State.handOn_fan {d : FanDyn} (h : s.outputs[i] = .inService f (.fan d)) (hs : d.state ≠ .hand) :
    s.handOn i = (s.outputRecovered i f (.fan d) (.fan d.toHand)).withdrawDrive i := by
  have hnot : ¬s.inHand i = true := by rw [State.inHand_of h]; simpa [OutputDyn.inHand] using hs
  rw [State.handOn, if_neg hnot, State.updateFan_updateDamper_of_fan h,
    State.updateFan_recovered h (by rw [FanDyn.toHand_of_not hs]; rfl)]

theorem State.handOn_damper {d : DamperDyn} (h : s.outputs[i] = .inService f (.damper d)) (hs : d.state ≠ .hand) :
    s.handOn i = (s.outputRecovered i f (.damper d) (.damper d.toHand)).withdrawDrive i := by
  have hnot : ¬s.inHand i = true := by rw [State.inHand_of h]; simpa [OutputDyn.inHand] using hs
  rw [State.handOn, if_neg hnot, State.updateFan_updateDamper_of_damper h,
    State.updateDamper_recovered h (by rw [DamperDyn.toHand_of_not hs]; rfl)]

/-- A fan in HAND is given back (R115). -/
theorem State.handOff_fan {d : FanDyn} (h : s.outputs[i] = .inService f (.fan d)) (hs : d.state = .hand) :
    s.handOff i = s.outputRecovered i f (.fan d) (.fan d.fromHand) := by
  rw [State.handOff, State.updateFan_updateDamper_of_fan h,
    State.updateFan_recovered h (by rw [FanDyn.fromHand, if_pos hs]; rfl)]

theorem State.handOff_damper {d : DamperDyn} (h : s.outputs[i] = .inService f (.damper d)) (hs : d.state = .hand) :
    s.handOff i = s.outputRecovered i f (.damper d) (.damper (d.fromHand f)) := by
  rw [State.handOff, State.updateFan_updateDamper_of_damper h,
    State.updateDamper_recovered h (by rw [DamperDyn.fromHand, if_pos hs]; rfl)]

/-- An output that is not in HAND is not given back (R113). -/
theorem State.handOff_of_not_hand {d : OutputDyn} (h : s.outputs[i] = .inService f d) (hs : d.inHand = false) :
    s.handOff i = s := by
  cases d with
  | fan d =>
    rw [State.handOff, State.updateFan_updateDamper_of_fan h]
    exact State.updateFan_same h (if_neg (by simpa [OutputDyn.inHand] using hs))
  | damper d =>
    rw [State.handOff, State.updateFan_updateDamper_of_damper h]
    exact State.updateDamper_same h (if_neg (by simpa [OutputDyn.inHand] using hs))

/-- Setting 1 at an output that goes into HAND, in the words of the claims. -/
theorem outputHandOn_taken {d d' : OutputDyn} (hr : s.Ready) (hi : indexOf 24 output = some i)
    (h : s.outputs[i] = .inService f d) (hfree : s.outputLocked i = false)
    (hon : (s.heard .trunk).handOn i = ((s.heard .trunk).outputRecovered i f d d').withdrawDrive i) :
    ∃ t, exec (.outputHandOn src tag output) s = .next t
      ∧ (s.trunk.Joined t.trunk (s.replyFrame src 24 tag 0 []) .reply s.trunk.counters.heard
        ∧ t.field.frames = (s.field.queue.filter fun e => !e.isDriveOf i).map (fun e => (e.frame, e.origin))
        ∧ t.field.counters = s.field.counters ∧ t.field.on = s.field.on)
      ∧ t.outputSlots = (if d.troubled then s.outputSlots.set i (s.outputMarked i s.outputSlots[i].lastReason)
        else s.outputSlots)
      ∧ t = { s with
        outputs := s.outputs.set i (.inService f d'), outputSlots := t.outputSlots, field := t.field
        trunk := t.trunk } := by
  have hdec : (s.heard .trunk).decide (.outputHand output 1) =
      .done (((s.outputRecovered i f d d').heard .trunk).withdrawDrive i) [] := by
    rw [State.decide, State.outputHand_on (s := s.heard .trunk) hi h hfree, hon, State.heard_outputRecovered]
    rfl
  obtain ⟨hmoved, hfield⟩ := s.outputRecovered_onlyOutputs i f d d'
  have hpend : (s.outputRecovered i f d d').restartPending = s.restartPending := by rw [hmoved]
  have hact : (s.outputRecovered i f d d').active = s.active := by rw [hmoved]
  have htrunk : (s.outputRecovered i f d d').trunk = s.trunk := by rw [hmoved]
  have hheard : (((s.outputRecovered i f d d').heard .trunk).withdrawDrive i).trunk = (s.heard .trunk).trunk :=
    congrArg Port.countReceived htrunk
  obtain ⟨t, ht, hjoined, ⟨hton, hframes, -, hcount⟩, honly⟩ :=
    onRequest_done (src := src) (tag := tag) hr hdec (hpend.trans hr.2.1) hact
      (by rw [hheard]; exact Port.SameLine.refl _)
  have hkept : (s.outputRecovered i f d d').OnlyLines t :=
    State.OnlyLines.trans (t := ((s.outputRecovered i f d d').heard .trunk).withdrawDrive i) rfl honly
  obtain ⟨hbecomes, hslots⟩ := State.outputRecovered_becomes hkept
  have hqueue : (((s.outputRecovered i f d d').heard .trunk).withdrawDrive i).field =
      { s.field with queue := s.field.queue.filter fun e => !e.isDriveOf i } :=
    congrArg (fun p : Port => { p with queue := p.queue.filter fun e => !e.isDriveOf i }) hfield
  rw [hqueue] at hton hframes hcount
  exact ⟨t, ht, ⟨hjoined, hframes, hcount, hton⟩, hslots, hbecomes⟩

/-- Setting 1 at an output that stands as it is. -/
theorem outputHandOn_unchanged {d : OutputDyn} (hr : s.Ready) (hi : indexOf 24 output = some i)
    (h : s.outputs[i] = .inService f d) (hs : d.inHand = true) (hfree : s.outputLocked i = false) :
    s.Done (.outputHandOn src tag output) src 24 tag [] s := by
  refine onRequest_changes (r := .outputHand output 1) hr ?_ rfl rfl rfl rfl
  rw [State.decide, State.outputHand_on (s := s.heard .trunk) hi h hfree, State.handOn_of_hand (s := s.heard .trunk) h hs]
  rfl

theorem outputHandOff_unchanged {d : OutputDyn} (hr : s.Ready) (hi : indexOf 24 output = some i)
    (h : s.outputs[i] = .inService f d) (hs : d.inHand = false) :
    s.Done (.outputHandOff src tag output) src 24 tag [] s := by
  refine onRequest_changes (r := .outputHand output 0) hr ?_ rfl rfl rfl rfl
  rw [State.decide, State.outputHand_off (s := s.heard .trunk) hi h, State.handOff_of_not_hand (s := s.heard .trunk) h hs]
  rfl

/-- Setting 0 at an output in HAND, which leaves no trouble to tell of. -/
theorem outputHandOff_done {d d' : OutputDyn} (hr : s.Ready) (hi : indexOf 24 output = some i)
    (h : s.outputs[i] = .inService f d) (hcalm : d.troubled = false)
    (hoff : (s.heard .trunk).handOff i = (s.heard .trunk).outputRecovered i f d d') :
    s.Done (.outputHandOff src tag output) src 24 tag [] (s.setOutput i (.inService f d')) := by
  have hdec : (s.heard .trunk).decide (.outputHand output 0) = .done ((s.heard .trunk).outputRecovered i f d d') [] := by
    rw [State.decide, State.outputHand_off (s := s.heard .trunk) hi h, hoff]
    rfl
  obtain ⟨t, ht, hanswered, honly⟩ := outputRequest_done (src := src) (tag := tag) hr hdec
  rw [State.outputRecovered, if_neg (by rw [hcalm]; exact Bool.false_ne_true)] at honly
  exact ⟨t, ht, hanswered, honly⟩

/-- A sound fan in HAND is in no trouble (R97, R102). -/
theorem FanDyn.Sound.untroubled_of_hand {d : FanDyn} (h : d.Sound) (hs : d.state = .hand) :
    (OutputDyn.fan d).troubled = false := by
  obtain ⟨-, -, -, -, -, -, -, hmark, -⟩ := h
  have hclear : d.noPath = false := by simpa [hs] using hmark
  rw [OutputDyn.troubled, hs, hclear]
  rfl

end

/-- Settles O29: into HAND by the event that withdraws the DRIVE, back from it, and the settings that are already so. -/
theorem handTakesAndGivesBack : Obligations.HandTakesAndGivesBack := by
  unfold Obligations.HandTakesAndGivesBack
  intro s src tag output i f hr hi becomes withdrawn slot
  refine ⟨fun d h hs hfree => ?_, fun d h hs hfree => ?_, fun d h hs hfree => outputHandOn_unchanged hr hi h hs hfree,
    fun d h hs hd => ?_, fun d h hs hd => ?_, fun d h hs => outputHandOff_unchanged hr hi h hs⟩
  · rw [← FanDyn.toHand_of_not hs]
    exact outputHandOn_taken hr hi h hfree (State.handOn_fan (s := s.heard .trunk) h hs)
  · rw [← DamperDyn.toHand_of_not hs]
    exact outputHandOn_taken hr hi h hfree (State.handOn_damper (s := s.heard .trunk) h hs)
  · rw [← hd.fromHand_of_hand hs]
    exact outputHandOff_done hr hi h (hd.untroubled_of_hand hs) (State.handOff_fan (s := s.heard .trunk) h hs)
  · rw [← hd.fromHand_of_hand hs]
    have hcalm : (OutputDyn.damper d).troubled = false := by rw [OutputDyn.troubled, hs]; rfl
    exact outputHandOff_done hr hi h hcalm (State.handOff_damper (s := s.heard .trunk) h hs)

end Sys2Proof.Machine

namespace Sys2Proof.Machine

/-! ## A fan's STATUS at its fan (R103 to R107) -/

section
variable {f : OutputFields} {d : FanDyn} {st : FanStatus}

/-- A fan with its STATUS recorded. -/
def FanDyn.seen (d : FanDyn) (st : FanStatus) : FanDyn := { d with lastStatus := some st }

/-- A STATUS proves the flow of a fan (R103). -/
abbrev FanDyn.Proves (f : OutputFields) (d : FanDyn) (st : FanStatus) : Prop := d.q / 16 * f.proof / 100 ≤ st.step.toNat

/-- A fan that has lost its proof, from RUNNING (R104, R107). -/
def FanDyn.lost (f : OutputFields) (r : FanFault) (d : FanDyn) : FanDyn :=
  { d with
    state := .fault r, noPath := false, below := 0, statusTimer := none, retryTimer := timerOf f.retryInterval }

/-- From RUNNING, where only the status timer runs, entry to FAULT stops that timer alone (R97, R107). -/
theorem FanDyn.Sound.enterFault_of_running (h : d.Sound) (hs : d.state = .running) (timer : Timer) (r : FanFault) :
    ({ d.seen st with statusTimer := timer } : FanDyn).enterFault f r = (d.seen st).lost f r := by
  obtain ⟨hpath, hstart, -, hstop, -⟩ := h.timers_none
  rw [hs] at hpath hstart hstop
  simp only [FanDyn.enterFault, FanDyn.stopTimers, FanDyn.lost, FanDyn.seen, hpath (by decide), hstart (by decide),
    hstop (by decide)]

/-- A fan's STATUS by its state, with the STATUS recorded first. -/
theorem FanDyn.takeStatus_eq : d.takeStatus f st = match d.state with
    | .starting =>
      if decide (d.Proves f st) && !st.driveFault then
        { (d.seen st).stopTimers with state := .running, below := 0, statusTimer := timerOf f.statusTimeout }
      else d.seen st
    | .running =>
      let e : FanDyn := { d.seen st with statusTimer := timerOf f.statusTimeout }
      if st.driveFault then e.enterFault f .driveFault
      else if decide (d.Proves f st) then { e with below := 0 }
      else if belowLimit ≤ d.below + 1 then e.enterFault f .flowLost
      else { e with below := d.below + 1 }
    | .stopping => if st.step = 0 then (d.seen st).toStopped else d.seen st
    | _ => d.seen st := by
  unfold FanDyn.takeStatus
  rfl

theorem FanDyn.Sound.takeStatus_of_starting (h : d.Sound) (hs : d.state = .starting) :
    d.takeStatus f st = if d.Proves f st ∧ st.driveFault = false then
      { d.seen st with state := .running, below := 0, startTimer := none, statusTimer := timerOf f.statusTimeout }
    else d.seen st := by
  obtain ⟨hpath, -, -, hstop, hretry⟩ := h.timers_none
  rw [hs] at hpath hstop hretry
  rw [FanDyn.takeStatus_eq, hs]
  refine if_congr (by simp) ?_ rfl
  simp only [FanDyn.stopTimers, FanDyn.seen, hpath (by decide), hstop (by decide), hretry rfl]

theorem FanDyn.Sound.takeStatus_of_running (h : d.Sound) (hs : d.state = .running) :
    d.takeStatus f st = if st.driveFault then (d.seen st).lost f .driveFault
      else if d.Proves f st then { d.seen st with below := 0, statusTimer := timerOf f.statusTimeout }
      else if belowLimit ≤ d.below + 1 then (d.seen st).lost f .flowLost
      else { d.seen st with below := d.below + 1, statusTimer := timerOf f.statusTimeout } := by
  rw [FanDyn.takeStatus_eq, hs]
  exact if_congr Iff.rfl (h.enterFault_of_running hs _ _) (if_congr decide_eq_true_iff rfl
    (if_congr Iff.rfl (h.enterFault_of_running hs _ _) rfl))

theorem FanDyn.Sound.takeStatus_of_stopping (h : d.Sound) (hs : d.state = .stopping) :
    d.takeStatus f st = if st.step = 0 then { d.seen st with state := .stopped, noPath := false, stopTimer := none }
      else d.seen st := by
  obtain ⟨hpath, hstart, hstatus, -, hretry⟩ := h.timers_none
  rw [hs] at hpath hstart hstatus hretry
  rw [FanDyn.takeStatus_eq, hs]
  refine if_congr Iff.rfl ?_ rfl
  simp only [FanDyn.toStopped, FanDyn.stopTimers, FanDyn.seen, hpath (by decide), hstart (by decide),
    hstatus (by decide), hretry rfl]

/-- In every other state a STATUS is only recorded (R106). -/
theorem FanDyn.takeStatus_of_still (hstart : d.state ≠ .starting) (hrun : d.state ≠ .running)
    (hstop : d.state ≠ .stopping) : d.takeStatus f st = d.seen st := by
  rw [FanDyn.takeStatus_eq]
  cases hs : d.state with
  | starting => exact absurd hs hstart
  | running => exact absurd hs hrun
  | stopping => exact absurd hs hstop
  | stopped | pathWait | fault _ | hand => rfl

/-- A STATUS that leaves a fan in STOPPED leaves it without trouble (R102, R105). -/
theorem FanDyn.Sound.takeStatus_untroubled (h : d.Sound) (hs : (d.takeStatus f st).state = .stopped) :
    (OutputDyn.fan (d.takeStatus f st)).troubled = false := by
  rw [OutputDyn.troubled, (FanDyn.takeStatus_sound h st).noPath_none (.inl hs), hs]
  rfl

/-! ### Its trouble slot (R168) -/

/-- An event that takes a fan to FAULT raises its trouble. -/
theorem fanTrouble_of_fault {d' : FanDyn} {r : FanFault} (h : d.state.isFault = false) (h' : d'.state = .fault r) :
    fanTrouble d d' = some (some r.reason) := by
  unfold fanTrouble
  rw [h']
  cases hs : d.state with
  | fault q => rw [hs] at h; cases h
  | _ => rfl

/-- An event that neither enters nor leaves FAULT, and leaves the NO_PATH mark, is none of R168. -/
theorem fanTrouble_of_same {d' : FanDyn} (h : d'.state.isFault = d.state.isFault) (hmark : d'.noPath = d.noPath) :
    fanTrouble d d' = none := by
  unfold fanTrouble
  rw [hmark, Bool.and_not_self]
  cases hnew : d'.state with
  | fault q =>
    cases hold : d.state with
    | fault p => rfl
    | _ => rw [hnew, hold] at h; cases h
  | _ =>
    cases hold : d.state with
    | fault p => rw [hnew, hold] at h; cases h
    | _ => rfl

end

section
variable {s t u : State} {i j : Fin 24} {f : OutputFields} {d : FanDyn} {st : FanStatus} {hd : Header}
  {data : List Byte} {fr : Frame} {g : OutputFields → FanDyn → FanDyn}

/-- The trouble slot of an output after an event that sets it or not (R168). -/
def State.outputSlotAfter (s : State) (i : Fin 24) : Option (Option Reason) → TroubleSlot
  | some raised => s.outputSlots[i].mark (s.onOffer (.output i)) raised
  | none => s.outputSlots[i]

/-- The trouble slots after an event at an IN_SERVICE fan. -/
theorem State.updateFan_slot (h : s.outputs[i] = .inService f (.fan d)) :
    (s.updateFan i g).outputSlots[j] =
      if j = i then s.outputSlotAfter i (fanTrouble d (g f d)) else s.outputSlots[j] := by
  rw [State.updateFan_of h]
  cases fanTrouble d (g f d) with
  | some raised => exact (vector_set_get _ i j _).trans (if_congr eq_comm rfl rfl)
  | none =>
    dsimp only
    split
    · rename_i hj; rw [hj]; rfl
    · rfl

/-- An event at an IN_SERVICE fan changes its entry and the trouble slots. -/
theorem State.updateFan_becomes (h : s.outputs[i] = .inService f (.fan d)) : s.updateFan i g = { s with
    outputs := s.outputs.set i (.inService f (.fan (g f d))), outputSlots := (s.updateFan i g).outputSlots } := by
  rw [State.updateFan_of h]
  cases fanTrouble d (g f d) <;> rfl

/-! ## STATUS_FAN (R131) -/

theorem exec_statusFan :
    exec (.statusFan hd data) s = onFrame .field (State.fieldReceive (hd.frame kindStatus data)) s := rfl

theorem fanStatusForwarded_iff :
    fanStatusForwarded d st = true ↔ d.state = .hand ∨ d.lastStatus ≠ some st := by
  simp [fanStatusForwarded]

/-- A well-formed STATUS of an IN_SERVICE fan: the fan takes it, and it goes up or stays. -/
theorem State.receiveStatus_fan (ha : s.outputAt fr.src = some i) (hi : s.outputs[i] = .inService f (.fan d))
    (hp : fanPayload? fr.data = some st) : s.receiveStatus fr =
      if fanStatusForwarded d st then (s.updateFan i fun g => FanDyn.takeStatus g st).forwardUp fr
      else s.updateFan i fun g => FanDyn.takeStatus g st := by
  unfold State.receiveStatus
  rw [ha]
  dsimp only
  rw [hi]
  unfold State.receiveFanStatus
  dsimp only
  rw [hp]

/-- The end of an event that has counted a frame of the FIELD port, left the lines alone otherwise, and sends the frame up
or not. -/
theorem State.finish_goesUp {up : Bool} (h : s.Hears .field) (hr : s.restartPending = false ∨ s.trunk.TrunkHasRoom)
    (hpend : u.restartPending = s.restartPending) (htrunk : u.trunk = s.trunk)
    (hfield : u.field = (s.heard .field).field) :
    let v := if up then u.forwardUp fr else u
    u.OnlyLines v.finish ∧ (up = true → s.Upward v.finish fr s.field.counters.heard)
      ∧ (up = false → s.StayedBelow v.finish) := by
  have hdue : u.restartDue = false := by rw [State.restartDue_congr hpend (by rw [htrunk])]; exact h.2.2
  have hheard : s.field.HeardOnly u.field s.field.counters.heard := by rw [hfield]; exact s.heard_field_heardOnly
  cases up with
  | true =>
    obtain ⟨hup, honly⟩ := State.forwardUp_finish (f := fr) hdue (by rw [hpend, htrunk]; exact hr)
    have hcount : u.field.counters = s.field.counters.heard := by rw [hfield]; rfl
    rw [hcount] at hup
    exact ⟨honly, fun _ => hup.of_heard htrunk (by rw [hcount]; exact hheard), nofun⟩
  | false =>
    obtain ⟨honly, hquiet, htrunk'⟩ := State.finish_quiet hdue
    rw [htrunk] at htrunk'
    exact ⟨honly, nofun, fun _ => ⟨htrunk', hheard.sameLine hquiet⟩⟩

/-- The event of a well-formed STATUS of an IN_SERVICE fan. -/
theorem exec_statusFan_taken (h : s.Hears .field) (hr : s.restartPending = false ∨ s.trunk.TrunkHasRoom)
    (ha : s.outputAt hd.src = some i) (hi : s.outputs[i] = .inService f (.fan d)) (hp : fanPayload? data = some st) :
    ∃ t, exec (.statusFan hd data) s = .next t
      ∧ ((s.heard .field).updateFan i fun g => FanDyn.takeStatus g st).OnlyLines t
      ∧ (fanStatusForwarded d st = true → s.Upward t (hd.frame kindStatus data) s.field.counters.heard)
      ∧ (fanStatusForwarded d st = false → s.StayedBelow t) := by
  have hreceive := State.receiveStatus_fan (s := s.heard .field) (fr := hd.frame kindStatus data) (i := i) (f := f)
    (d := d) (st := st) (by rw [State.heard_outputAt]; exact ha) (by rw [State.heard_outputs]; exact hi) hp
  rw [exec_statusFan, onFrame_of h.1 h.2.1, State.fieldReceive_status, hreceive]
  have hframe := (s.heard .field).updateFan_frame i fun g => FanDyn.takeStatus g st
  exact ⟨_, rfl, State.finish_goesUp h hr (by rw [hframe]; rfl) (by rw [hframe]; rfl) (by rw [hframe])⟩

/-- What STATUS_FAN leaves of the part: the fan, the trouble slots and the lines apart, what it was. -/
theorem State.OnlyLines.of_fanStatus (hi : s.outputs[i] = .inService f (.fan d))
    (h : ((s.heard .field).updateFan i fun g => FanDyn.takeStatus g st).OnlyLines t) :
    t = { s with
        outputs := s.outputs.set i (.inService f (.fan (d.takeStatus f st))), outputSlots := t.outputSlots
        field := t.field, trunk := t.trunk }
      ∧ ∀ j : Fin 24, t.outputSlots[j] =
        if j = i then s.outputSlotAfter i (fanTrouble d (d.takeStatus f st)) else s.outputSlots[j] := by
  have hi' : (s.heard .field).outputs[i] = .inService f (.fan d) := by rw [State.heard_outputs]; exact hi
  have hbecomes := State.updateFan_becomes (g := fun g => FanDyn.takeStatus g st) hi'
  refine ⟨?_, fun j => ?_⟩
  · rw [h.outputSlots]
    unfold State.OnlyLines at h
    rw [h, hbecomes]
    rfl
  · rw [h.outputSlots, State.updateFan_slot hi']
    rfl

/-- Settles O26: the fan moves by its state, its trouble slot by how it has moved, and the frame goes up or stays. -/
theorem fanStatusMovesItsFan : Obligations.FanStatusMovesItsFan := by
  unfold Obligations.FanStatusMovesItsFan
  intro s hd data i f d st h hr ha hi hp hsound proved seen lost
  obtain ⟨t, ht, hlines, hup, hstay⟩ := exec_statusFan_taken h hr ha hi hp
  obtain ⟨hframe, hslots⟩ := hlines.of_fanStatus hi
  have hself := hslots i
  rw [if_pos rfl] at hself
  refine ⟨t, d.takeStatus f st, ht, hframe, fun hs hproved hcalm => ?_, fun hs hnot => ?_, fun hs hfault => ?_,
    fun hs hcalm hproved => ?_, fun hs hcalm hnot hfew => ?_, fun hs hcalm hnot hthird => ?_, fun hs hstep => ?_,
    fun hs hstep => ?_, FanDyn.takeStatus_of_still, fun j hj => ?_, fun r hlost hs => ?_, fun hmark hstopped => ?_,
    fun hfault hmark => ?_, fun hnews => hup (fanStatusForwarded_iff.2 hnews), fun hhand hsame => hstay ?_⟩
  · rw [hsound.takeStatus_of_starting hs, if_pos ⟨hproved, hcalm⟩]; rfl
  · rw [hsound.takeStatus_of_starting hs, if_neg ?_]; rfl
    rintro ⟨hproved, hcalm⟩
    rcases hnot with hnot | hfault
    · exact hnot hproved
    · rw [hcalm] at hfault; cases hfault
  · rw [hsound.takeStatus_of_running hs, if_pos hfault]; rfl
  · rw [hsound.takeStatus_of_running hs, hcalm, if_neg Bool.false_ne_true, if_pos hproved]; rfl
  · rw [hsound.takeStatus_of_running hs, hcalm, if_neg Bool.false_ne_true, if_neg hnot,
      if_neg (show ¬belowLimit ≤ d.below + 1 from Nat.not_le.2 hfew)]; rfl
  · rw [hsound.takeStatus_of_running hs, hcalm, if_neg Bool.false_ne_true, if_neg hnot,
      if_pos (show belowLimit ≤ d.below + 1 from hthird.ge)]; rfl
  · rw [hsound.takeStatus_of_stopping hs, if_pos hstep]; rfl
  · rw [hsound.takeStatus_of_stopping hs, if_neg hstep]; rfl
  · rw [hslots j, if_neg hj]
  · rw [hself, fanTrouble_of_fault (by rw [hs]; rfl) hlost]
    rfl
  · have hwas : (OutputDyn.fan d).troubled = true := by rw [OutputDyn.troubled, hmark, Bool.or_true]
    rw [hself, fanTrouble_of_untroubled (hsound.takeStatus_untroubled hstopped), if_pos hwas]
    rfl
  · rw [hself, fanTrouble_of_same hfault hmark]
    rfl
  · exact Bool.eq_false_iff.2 fun hnews => (fanStatusForwarded_iff.1 hnews).elim hhand fun hother => hother hsame

end

end Sys2Proof.Machine

namespace Sys2Proof.Machine

/-! ## A frame that is counted and goes no further (R120, R121) -/

section
variable {s t u : State} {p : PortId} {g : State → State} {c : PortCounters}

theorem State.QuietLines.port (h : s.QuietLines t) : ∀ p, (s.port p).SameLine (t.port p)
  | .field => h.1
  | .trunk => h.2

/-- A frame whose effect on the lines is on the counters of its own port alone, in the words of the claims. -/
theorem onFrame_counted (h : s.Hears p) (hg : g (s.heard p) = u) (hpend : u.restartPending = s.restartPending)
    (hport : u.port p = { s.port p with counters := c }) (hothers : ∀ q, q ≠ p → u.port q = s.port q) :
    ∃ t, onFrame p g s = .next t ∧ u.OnlyLines t ∧ (s.port p).HeardOnly (t.port p) c
      ∧ ∀ q, q ≠ p → (s.port q).SameLine (t.port q) := by
  obtain ⟨hworks, hon, hdue⟩ := h
  have hqueue : u.trunk.queue = s.trunk.queue := by
    cases p with
    | field => exact congrArg Port.queue (hothers .trunk nofun)
    | trunk => exact (congrArg Port.queue hport :)
  obtain ⟨honly, hquiet⟩ := State.finish_quiet ((State.restartDue_congr hpend hqueue).trans hdue)
  refine ⟨u.finish, by rw [onFrame_of hworks hon, hg], honly, ?_, fun q hq => ?_⟩
  · have hheard : (s.port p).HeardOnly (u.port p) c := by rw [hport]; exact ⟨rfl, rfl, rfl, rfl⟩
    exact hheard.sameLine (State.QuietLines.port hquiet p)
  · rw [← hothers q hq]
    exact State.QuietLines.port hquiet q

/-- A frame of the FIELD port that is counted and does not go up. -/
theorem onFrame_field_counted (h : s.Hears .field) (hg : g (s.heard .field) = u)
    (hpend : u.restartPending = s.restartPending) (hfield : u.field = { s.field with counters := c })
    (htrunk : u.trunk = s.trunk) :
    ∃ t, onFrame .field g s = .next t ∧ u.OnlyLines t ∧ s.trunk.SameLine t.trunk ∧ s.field.HeardOnly t.field c := by
  obtain ⟨t, ht, honly, hheard, hothers⟩ := onFrame_counted h hg hpend hfield fun
    | .field, hq => absurd rfl hq
    | .trunk, _ => htrunk
  exact ⟨t, ht, honly, hothers .trunk nofun, hheard⟩

/-- A frame of the TRUNK port that is counted and does not go down. -/
theorem onFrame_trunk_counted (h : s.Hears .trunk) (hg : g (s.heard .trunk) = u)
    (hpend : u.restartPending = s.restartPending) (htrunk : u.trunk = { s.trunk with counters := c })
    (hfield : u.field = s.field) :
    ∃ t, onFrame .trunk g s = .next t ∧ u.OnlyLines t ∧ s.field.SameLine t.field ∧ s.trunk.HeardOnly t.trunk c := by
  obtain ⟨t, ht, honly, hheard, hothers⟩ := onFrame_counted h hg hpend htrunk fun
    | .trunk, hq => absurd rfl hq
    | .field, _ => hfield
  exact ⟨t, ht, honly, hothers .field nofun, hheard⟩

end

/-! ## PANEL frames that no zone takes (R133, R182) -/

section
variable {s : State} {f : Frame} {hd : Header} {data rest : List Byte}

/-- A frame to the part itself whose kind is PANEL is judged as one (R133). -/
theorem State.trunkReceive_of_panel (hdst : f.dst = s.active.node) (hkind : f.kind = kindPanel) :
    s.trunkReceive f = s.receivePanel f := by
  rw [State.trunkReceive, if_pos hdst, hkind, if_neg (by decide : ¬kindPanel = kindMgmtReq), if_pos rfl]

/-- A PANEL is malformed unless it has two bytes (R182). -/
theorem panelPayload?_eq_none_iff : panelPayload? data = none ↔ data.length ≠ 2 := by
  unfold panelPayload?
  split
  · simp
  · rename_i h
    refine iff_of_true rfl fun k => ?_
    obtain ⟨action, mask, rfl⟩ := List.length_eq_two.1 k
    exact h action mask rfl

/-- A PANEL from another node than the panel's is ignored whatever its length (R133). -/
theorem State.receivePanel_of_stranger (hnode : s.active.panelNode ≠ 0) (hsrc : f.src ≠ s.active.panelNode) :
    s.receivePanel f = s.countIgnoredPanel :=
  if_neg (not_or.2 ⟨hnode, hsrc⟩)

theorem State.receivePanel_of_malformed (hsrc : s.active.panelNode = 0 ∨ f.src = s.active.panelNode)
    (hlength : f.data.length ≠ 2) : s.receivePanel f = s.countMalformed .trunk := by
  rw [State.receivePanel, if_pos hsrc, panelPayload?_eq_none_iff.2 hlength]

theorem State.receivePanel_of_unknown {action mask : Byte}
    (hsrc : s.active.panelNode = 0 ∨ f.src = s.active.panelNode) (hdata : f.data = [action, mask])
    (hno : action ≠ 1 ∧ action ≠ 2) : s.receivePanel f = s.countIgnoredPanel := by
  rw [State.receivePanel, if_pos hsrc, hdata]
  exact (if_neg hno.1).trans (if_neg hno.2)

/-- A frame that the part counts as an ignored PANEL, and does nothing else with. -/
theorem onFrame_ignoredPanel (h : s.Hears .trunk)
    (hreceive : (s.heard .trunk).trunkReceive f = (s.heard .trunk).countIgnoredPanel) :
    ∃ t, onFrame .trunk (State.trunkReceive f) s = .next t ∧ s.StayedAbove t
      ∧ (s.setCounters { s.counters with ignoredPanel := satInc s.counters.ignoredPanel }).OnlyLines t := by
  obtain ⟨t, ht, honly, hlines⟩ :=
    onFrame_trunk_counted (c := s.trunk.counters.heard) h hreceive rfl rfl rfl
  exact ⟨t, ht, hlines, State.OnlyLines.trans (t := (s.heard .trunk).countIgnoredPanel) rfl honly⟩

/-- A frame that the TRUNK port counts as malformed, and that the part does nothing else with (R120). -/
theorem onFrame_trunk_malformed {g : State → State} (h : s.Hears .trunk)
    (hreceive : g (s.heard .trunk) = (s.heard .trunk).countMalformed .trunk) :
    ∃ t, onFrame .trunk g s = .next t ∧ s.OnlyLines t ∧ s.field.SameLine t.field
      ∧ s.trunk.HeardOnly t.trunk { s.trunk.counters.heard with malformed := satInc s.trunk.counters.malformed } := by
  obtain ⟨t, ht, honly, hlines⟩ := onFrame_trunk_counted
    (c := { s.trunk.counters.heard with malformed := satInc s.trunk.counters.malformed }) h hreceive rfl rfl rfl
  exact ⟨t, ht, State.OnlyLines.trans (t := (s.heard .trunk).countMalformed .trunk) rfl honly, hlines⟩

/-- Both rows of a PANEL frame are one whose bytes are its action and the rest. -/
theorem exec_panel {c : Instr} (hc : c ∈ [Instr.panelAlarm hd rest, .panelNormal hd rest]) :
    ∃ action, exec c s = onFrame .trunk (State.trunkReceive (hd.frame kindPanel (action :: rest))) s := by
  rcases List.mem_pair.1 hc with rfl | rfl
  · exact ⟨1, rfl⟩
  · exact ⟨2, rfl⟩

end

/-- Settles O14: the source is judged first, then the length, then the action. -/
theorem panelIgnoredOrMalformed : Obligations.PanelIgnoredOrMalformed := by
  unfold Obligations.PanelIgnoredOrMalformed
  refine ⟨?_, fun s hd rest c h hdst hc => ?_⟩
  · intro s ident action mask f h hkind hdst hsrc hnoAlarm hnoNormal
    exact onFrame_ignoredPanel h ((State.trunkReceive_of_panel (s := s.heard .trunk) hdst hkind).trans
      (State.receivePanel_of_unknown (s := s.heard .trunk) hsrc rfl ⟨hnoAlarm, hnoNormal⟩))
  · obtain ⟨action, hexec⟩ := exec_panel (s := s) hc
    have hpanel := State.trunkReceive_panel (s := s.heard .trunk) (data := action :: rest) hdst
    rw [hexec]
    refine ⟨fun hnode hsrc => ?_, fun hsrc hlength => ?_⟩
    · exact onFrame_ignoredPanel h (hpanel.trans (State.receivePanel_of_stranger (s := s.heard .trunk) hnode hsrc))
    · exact onFrame_trunk_malformed h (hpanel.trans (State.receivePanel_of_malformed (s := s.heard .trunk) hsrc
        fun hlen => hlength (Nat.succ.inj hlen)))

end Sys2Proof.Machine


namespace Sys2Proof.Machine

/-! ## FIELD_FRAME, FIELD_MGMT_REQ and STANDARD_OR_REMOTE_FRAME (R131, R132, R181) -/

section
variable {s t : State} {f : Frame} {i : Fin 24} {g : OutputFields} {d : OutputDyn} {c : PortCounters}

/-- A frame from the field of a kind that no block judges goes up (R132). -/
theorem State.fieldReceive_of_unjudged (h : f.kind ∉ [kindSample, kindStatus, kindMgmtReq]) :
    s.fieldReceive f = s.forwardUp f := by
  simp only [List.mem_cons, List.not_mem_nil, or_false, not_or] at h
  obtain ⟨hsample, hstatus, hreq⟩ := h
  rw [State.fieldReceive, if_neg hreq, if_neg hsample, if_neg hstatus]

theorem State.fieldReceive_of_status (h : f.kind = kindStatus) : s.fieldReceive f = s.receiveStatus f := by
  rw [State.fieldReceive, h, if_neg (by decide : ¬kindStatus = kindMgmtReq),
    if_neg (by decide : ¬kindStatus = kindSample), if_pos rfl]

theorem State.fieldReceive_of_mgmtReq (h : f.kind = kindMgmtReq) : s.fieldReceive f = s.countMgmtDropped := if_pos h

/-- A STATUS of a node that is no IN_SERVICE output goes up (R131). -/
theorem State.receiveStatus_of_stranger (h : s.outputAt f.src = none) : s.receiveStatus f = s.forwardUp f := by
  rw [State.receiveStatus, h]

/-- A STATUS that its output cannot read, by the output's kind (R182). -/
abbrev OutputDyn.Malformed (d : OutputDyn) (data : List Byte) : Prop :=
  match d with
  | .fan _ => fanPayload? data = none
  | .damper _ => damperPayload? data = none

/-- A malformed STATUS is counted and goes up (R131, R182). -/
theorem State.receiveStatus_of_malformed (ha : s.outputAt f.src = some i) (hi : s.outputs[i] = .inService g d)
    (hm : d.Malformed f.data) : s.receiveStatus f = (s.countMalformed .field).forwardUp f := by
  unfold State.receiveStatus
  rw [ha]
  dsimp only
  rw [hi]
  cases d with
  | fan d =>
    change s.receiveFanStatus i d f = _
    rw [State.receiveFanStatus, hm]
  | damper d =>
    change s.receiveDamperStatus i d f = _
    rw [State.receiveDamperStatus, hm]

/-- A frame of the FIELD port that goes up once it is counted, in the words of the claims. -/
theorem onFrame_goesUp (h : s.Hears .field) (hr : s.restartPending = false ∨ s.trunk.TrunkHasRoom)
    (hreceive : (s.heard .field).fieldReceive f = t.forwardUp f) (hline : s.OnlyLines t) (htrunk : t.trunk = s.trunk)
    (hfield : s.field.HeardOnly t.field c) :
    ∃ t, onFrame .field (State.fieldReceive f) s = .next t ∧ s.OnlyLines t ∧ s.Upward t f c := by
  rw [onFrame_of h.1 h.2.1, hreceive]
  exact ⟨_, rfl, forwarded_onlyLines h hr hline htrunk hfield⟩

/-- A frame of no judged kind, or a stranger's STATUS, goes up (R131, R132). -/
theorem onFrame_unjudged (h : s.Hears .field) (hr : s.restartPending = false ∨ s.trunk.TrunkHasRoom)
    (hkind : f.kind ∉ [kindSample, kindStatus, kindMgmtReq] ∨ (f.kind = kindStatus ∧ s.outputAt f.src = none)) :
    ∃ t, onFrame .field (State.fieldReceive f) s = .next t ∧ s.OnlyLines t ∧ s.Upward t f s.field.counters.heard := by
  have hreceive : (s.heard .field).fieldReceive f = (s.heard .field).forwardUp f := by
    rcases hkind with hkind | ⟨hkind, hnode⟩
    · exact State.fieldReceive_of_unjudged hkind
    · rw [State.fieldReceive_of_status hkind, State.receiveStatus_of_stranger (by rw [State.heard_outputAt, hnode])]
  exact onFrame_goesUp h hr hreceive rfl rfl s.heard_field_heardOnly

end

/-- Settles O31: each frame by what its kind and its sender make of it. -/
theorem fieldFramesGoUp : Obligations.FieldFramesGoUp := by
  unfold Obligations.FieldFramesGoUp
  intro s ident data f heard
  refine ⟨fun h hr => ⟨fun hkind => onFrame_unjudged h hr hkind, fun i g d hkind ha hi hm => ?_⟩, fun hd h => ?_,
    fun h => ?_, fun h => ?_⟩
  · have hreceive : (s.heard .field).fieldReceive f = ((s.heard .field).countMalformed .field).forwardUp f := by
      rw [State.fieldReceive_of_status hkind, State.receiveStatus_of_malformed (by rw [State.heard_outputAt, ha])
        (by rw [State.heard_outputs, hi]) hm]
    exact onFrame_goesUp h hr hreceive rfl rfl ⟨rfl, rfl, rfl, rfl⟩
  · obtain ⟨t, ht, honly, hlines⟩ := onFrame_field_counted (c := s.field.counters.heard) h
      (State.fieldReceive_of_mgmtReq (f := hd.frame kindMgmtReq data) rfl) rfl rfl rfl
    exact ⟨t, ht, hlines, State.OnlyLines.trans (t := (s.heard .field).countMgmtDropped) rfl honly⟩
  · obtain ⟨t, ht, honly, hlines⟩ := onFrame_field_counted
      (c := { s.field.counters.heard with malformed := satInc s.field.counters.malformed })
      (g := (State.countMalformed · .field)) h rfl rfl rfl rfl
    exact ⟨t, ht, State.OnlyLines.trans (t := (s.heard .field).countMalformed .field) rfl honly, hlines⟩
  · exact onFrame_trunk_malformed (g := (State.countMalformed · .trunk)) h rfl

end Sys2Proof.Machine

namespace Sys2Proof.Machine

/-! ## TRUNK_FRAME (R120, R133 to R135) -/

section
variable {s : State} {f : Frame}

@[simp] theorem State.heard_isKnownNode (p : PortId) (node : Byte) :
    (s.heard p).isKnownNode node = s.isKnownNode node := by cases p <;> rfl

@[simp] theorem State.heard_blocked (p : PortId) (f : Frame) : (s.heard p).blocked f = s.blocked f := by cases p <;> rfl

/-- A DRIVE that may not go down: a broadcast, or one to an output that the part is driving (R134, R135). -/
theorem State.blocked_iff : s.blocked f = true ↔
    f.kind = kindDrive ∧ (f.dst = 255 ∨ ∃ i : Fin 24, s.outputAt f.dst = some i ∧ s.inHand i = false) := by
  have hdrives : s.drives f.dst = true ↔ ∃ i : Fin 24, s.outputAt f.dst = some i ∧ s.inHand i = false := by
    unfold State.drives
    cases s.outputAt f.dst <;> simp
  simp only [State.blocked, Bool.and_eq_true, Bool.or_eq_true, beq_iff_eq, hdrives]

/-- A frame that is no TIME, to another node, is passed by its destination (R134, R135). -/
theorem State.trunkReceive_of_other (hkind : f.kind ≠ kindTime) (hdst : f.dst ≠ s.active.node) :
    s.trunkReceive f = s.passDown f := by
  rw [State.trunkReceive, if_neg hdst, if_neg hkind]

/-- A frame to the part of a kind that it does not take (R133). -/
theorem State.trunkReceive_of_untaken (hdst : f.dst = s.active.node)
    (hkind : f.kind ∉ [kindMgmtReq, kindPanel, kindTime]) : s.trunkReceive f = s := by
  simp only [List.mem_cons, List.not_mem_nil, or_false, not_or] at hkind
  obtain ⟨hreq, hpanel, htime⟩ := hkind
  rw [State.trunkReceive, if_pos hdst, if_neg hreq, if_neg hpanel, if_neg htime]

theorem State.trunkReceive_of_mgmtReq (hdst : f.dst = s.active.node) (hkind : f.kind = kindMgmtReq) :
    s.trunkReceive f = s.receiveRequest f := by
  rw [State.trunkReceive, if_pos hdst, if_pos hkind]

/-- A MGMT_REQ without its code and tag is malformed (R120, R182). -/
theorem State.receiveRequest_of_short (h : f.data.length < 2) : s.receiveRequest f = s.countMalformed .trunk := by
  have hpayload : requestPayload? f.data = none := by
    unfold requestPayload?
    split
    · rename_i hdata; simp [hdata] at h
    · rfl
  rw [State.receiveRequest, hpayload]

theorem State.passDown_of_unknown (h : ¬(f.dst = 255 ∨ s.isKnownNode f.dst = true)) : s.passDown f = s := if_neg h

theorem State.passDown_of_blocked (hknown : f.dst = 255 ∨ s.isKnownNode f.dst = true) (h : s.blocked f = true) :
    s.passDown f = s.countBlockedDrive := (if_pos hknown).trans (if_pos h)

theorem State.passDown_of_known (hknown : f.dst = 255 ∨ s.isKnownNode f.dst = true) (h : ¬s.blocked f = true) :
    s.passDown f = s.forwardDown f := (if_pos hknown).trans (if_neg h)

/-- What holds of a state that a command can answer holds of the one that it answers. -/
theorem next_elim {r : Result} {t : State} {P : State → Prop} (ht : r = .next t) (h : ∃ t, r = .next t ∧ P t) :
    P t := by
  obtain ⟨u, hu, hP⟩ := h
  cases ht.symm.trans hu
  exact hP

/-- A frame of the TRUNK port that does nothing but be counted as received. -/
theorem onFrame_trunk_untaken (h : s.Hears .trunk) (hreceive : (s.heard .trunk).trunkReceive f = s.heard .trunk) :
    ∃ t, onFrame .trunk (State.trunkReceive f) s = .next t ∧ s.OnlyLines t ∧ s.StayedAbove t := by
  obtain ⟨t, ht, honly, hlines⟩ := onFrame_trunk_counted (c := s.trunk.counters.heard) h hreceive rfl rfl rfl
  exact ⟨t, ht, State.OnlyLines.trans (t := s.heard .trunk) rfl honly, hlines⟩

/-- A DRIVE from the trunk that is counted as blocked, and does nothing else (R135). -/
theorem onFrame_trunk_blocked (h : s.Hears .trunk)
    (hreceive : (s.heard .trunk).trunkReceive f = (s.heard .trunk).countBlockedDrive) :
    ∃ t, onFrame .trunk (State.trunkReceive f) s = .next t ∧ s.StayedAbove t
      ∧ (s.setCounters { s.counters with blockedDrive := satInc s.counters.blockedDrive }).OnlyLines t := by
  obtain ⟨t, ht, honly, hlines⟩ := onFrame_trunk_counted (c := s.trunk.counters.heard) h hreceive rfl rfl rfl
  exact ⟨t, ht, hlines, State.OnlyLines.trans (t := (s.heard .trunk).countBlockedDrive) rfl honly⟩

/-- A frame of the TRUNK port that goes down once it is counted, in the words of the claims. -/
theorem onFrame_goesDown (h : s.Hears .trunk)
    (hreceive : (s.heard .trunk).trunkReceive f = (s.heard .trunk).forwardDown f) :
    ∃ t, onFrame .trunk (State.trunkReceive f) s = .next t ∧ s.OnlyLines t ∧ s.Downward t f s.trunk.counters.heard := by
  obtain ⟨hworks, hon, hdue⟩ := h
  obtain ⟨hdown, honly⟩ := State.forwardDown_finish (u := s.heard .trunk) (f := f) (State.heard_restartDue.trans hdue)
  rw [onFrame_of hworks hon, hreceive]
  exact ⟨_, rfl, State.OnlyLines.trans (t := s.heard .trunk) rfl honly, hdown.of_heard rfl ⟨rfl, rfl, rfl, rfl⟩⟩

/-- A frame to a known node or to all, other than a blocked DRIVE, goes down (R134, R135). -/
theorem onFrame_passedDown (h : s.Hears .trunk) (hkind : f.kind ≠ kindTime) (hdst : f.dst ≠ s.active.node)
    (hknown : f.dst = 255 ∨ s.isKnownNode f.dst = true) (hblocked : ¬s.blocked f = true) :
    ∃ t, onFrame .trunk (State.trunkReceive f) s = .next t ∧ s.OnlyLines t ∧ s.Downward t f s.trunk.counters.heard := by
  refine onFrame_goesDown h ((State.trunkReceive_of_other (s := s.heard .trunk) hkind hdst).trans ?_)
  exact State.passDown_of_known (by rwa [State.heard_isKnownNode]) (by rwa [State.heard_blocked])

end

/-- Settles O32: the frame by its destination, its kind, and whether it is a DRIVE that is blocked. -/
theorem trunkFramesGoDown : Obligations.TrunkFramesGoDown := by
  unfold Obligations.TrunkFramesGoDown
  intro s ident data f known driven h hkind
  obtain ⟨t, ht⟩ : ∃ t, onFrame .trunk (State.trunkReceive f) s = .next t := onEvent_total
  have hpass := State.trunkReceive_of_other (s := s.heard .trunk) hkind
  have hdriven : s.blocked f = true ↔ driven := State.blocked_iff
  refine ⟨t, ht, fun hdst hunknown => ?_, fun hdst hknown hdrive => ?_, fun hdst hknown hdrive => ?_,
    fun hdst hother => ?_, fun hdst hreq hshort => ?_⟩
  · exact next_elim ht (onFrame_trunk_untaken h ((hpass hdst).trans (State.passDown_of_unknown hunknown)))
  · exact next_elim ht (onFrame_trunk_blocked h ((hpass hdst).trans
      (State.passDown_of_blocked hknown ((State.heard_blocked _ _).trans (hdriven.2 hdrive)))))
  · exact next_elim ht (onFrame_passedDown h hkind hdst hknown fun k => hdrive (hdriven.1 k))
  · refine next_elim ht (onFrame_trunk_untaken h (State.trunkReceive_of_untaken (s := s.heard .trunk) hdst ?_))
    simp only [List.mem_cons, List.not_mem_nil, or_false, not_or] at hother ⊢
    exact ⟨hother.1, hother.2, hkind⟩
  · exact next_elim ht (onFrame_trunk_malformed h
      ((State.trunkReceive_of_mgmtReq (s := s.heard .trunk) hdst hreq).trans (State.receiveRequest_of_short hshort)))

end Sys2Proof.Machine


namespace Sys2Proof.Machine

/-! ## The active device record through a request (R148) -/

section
variable {s t : State} {table index field : Byte}

theorem State.OnlyOutputs.active (h : s.OnlyOutputs t) : t.active = s.active := by
  unfold State.OnlyOutputs at h; rw [h]

@[simp] theorem State.updateZone_active (s : State) (z : Fin 8) (g : ZoneDyn → ZoneDyn) :
    (s.updateZone z g).active = s.active := by rw [s.updateZone_frame z g]

@[simp] theorem State.updateFan_active (s : State) (i : Fin 24) (g : OutputFields → FanDyn → FanDyn) :
    (s.updateFan i g).active = s.active := (s.updateFan_onlyOutputs i g).active

@[simp] theorem State.updateDamper_active (s : State) (i : Fin 24) (g : OutputFields → DamperDyn → DamperDyn) :
    (s.updateDamper i g).active = s.active := (s.updateDamper_onlyOutputs i g).active

theorem State.openEntry_active (s : State) (r : EntryRef) : (s.openEntry r).active = s.active := by cases r <;> rfl

theorem State.clearEntry_active (s : State) (r : EntryRef) : (s.clearEntry r).active = s.active := by cases r <;> rfl

theorem State.entryTune_active {value : BitVec 16} (h : s.entryTune table index field value = .ok t) :
    t.active = s.active := by
  unfold State.entryTune at h
  split at h
  · cases h
  · split at h
    · cases h
    · split at h
      · obtain ⟨e, rfl⟩ := State.tuneZone_ok h; rfl
      · obtain ⟨c, rfl⟩ := State.tunePeriod_ok h; rfl
      · cases h

/-- What is written of the device record is its pending copy (R148). -/
theorem State.entrySet_active {value : BitVec 16} {presence : Byte}
    (h : s.entrySet table index field value presence = .ok t) : t.active = s.active := by
  unfold State.entrySet at h
  split at h
  · cases h
  · split at h
    · cases h
    · split at h
      · obtain ⟨f, rfl⟩ := State.setPointField_ok h; rfl
      · obtain ⟨f, rfl⟩ := State.setZoneField_ok h; rfl
      · obtain ⟨f, rfl⟩ := State.setOutputField_ok h; rfl
      · obtain ⟨f, rfl⟩ := State.setWindowField_ok h; rfl
      · obtain ⟨r, rfl⟩ := State.setResponseField_ok h; rfl
      · obtain ⟨c, rfl⟩ := State.tunePeriod_ok (presenceChecked_ok h); rfl
      · obtain ⟨r, rfl⟩ := State.setDeviceField_ok h; rfl

theorem State.entryCommission_active (h : s.entryCommission table index = .ok t) : t.active = s.active := by
  obtain ⟨r, h⟩ := State.entryCommission_ok h
  rcases State.commissionEntry_ok h with ⟨i, f, -, rfl⟩ | ⟨z, f, -, rfl⟩ | ⟨i, f, -, rfl⟩ | ⟨w, f, -, rfl⟩
  · exact State.updateZone_active _ _ _
  · rfl
  · rfl
  · rfl

theorem State.entryRetire_active (h : s.entryRetire table index = .ok t) : t.active = s.active := by
  obtain ⟨r, h⟩ := State.entryRetire_ok h
  rcases State.retireEntry_ok h with ⟨i, f, d, -, rfl⟩ | ⟨z, f, d, -, rfl⟩ | ⟨i, f, d, -, rfl⟩ | ⟨w, f, -, rfl⟩
  · rw [State.retirePoint_frame]
  · exact (State.detachReport_onlyLines _ z).active
  · rw [State.retireOutput_eq]
  · rfl

theorem State.outputHand_active {output setting : Byte} (h : s.outputHand output setting = .ok t) :
    t.active = s.active := by
  obtain ⟨i, rfl | rfl⟩ := State.outputHand_ok h
  · exact (State.updateDamper_active _ i _).trans (State.updateFan_active s i _)
  · unfold State.handOn
    split
    · rfl
    · exact (State.updateDamper_active _ i _).trans (State.updateFan_active s i _)

theorem State.outputReset_active {output : Byte} (h : s.outputReset output = .ok t) : t.active = s.active := by
  unfold State.outputReset at h
  split at h
  · cases h
  · split at h
    · cases h; exact s.updateFan_active _ _
    · cases h
  · split at h
    · cases h
    · cases h; exact s.updateDamper_active _ _

/-- No request writes the active copy of the device record (R148). -/
theorem State.decide_active {r : Request} (h : (s.decide r).state? = some t) : t.active = s.active := by
  cases r with
  | entryOpen table index =>
    obtain ⟨r, rfl⟩ := State.entryOpen_ok (Decision.ofChange_state? h); exact s.openEntry_active r
  | entrySet table index field value presence => exact State.entrySet_active (Decision.ofChange_state? h)
  | entryCommission table index => exact State.entryCommission_active (Decision.ofChange_state? h)
  | entryRetire table index => exact State.entryRetire_active (Decision.ofChange_state? h)
  | entryClear table index =>
    obtain ⟨r, rfl⟩ := State.entryClear_ok (Decision.ofChange_state? h); exact s.clearEntry_active r
  | entryTune table index field value => exact State.entryTune_active (Decision.ofChange_state? h)
  | zoneRelease zone level =>
    obtain ⟨z, g, rfl⟩ := State.zoneRelease_ok (Decision.ofChange_state? h); exact s.updateZone_active z g
  | zoneSuppress zone setting =>
    obtain ⟨z, g, rfl⟩ := State.zoneSuppress_ok (Decision.ofChange_state? h); exact s.updateZone_active z g
  | zoneForce zone level =>
    obtain ⟨z, g, rfl⟩ := State.zoneForce_ok (Decision.ofChange_state? h); exact s.updateZone_active z g
  | outputHand output setting => exact State.outputHand_active (Decision.ofChange_state? h)
  | outputReset output => exact State.outputReset_active (Decision.ofChange_state? h)
  | entryGet | readZone | readPoint | readOutput | readCounter | readDevice => rw [Decision.ofRead_state? h]
  | countersClear => cases h; unfold State.countersClear; rfl
  | save =>
    simp only [State.decide] at h
    split at h <;> cases h
    rfl
  | restart =>
    simp only [State.decide] at h
    split at h
    · cases h
    · split at h <;> cases h
      rfl

end

end Sys2Proof.Machine

namespace Sys2Proof.Machine

/-! ## A reply that meets the TRUNK queue (R125, R127, R153) -/

section
variable {s t u : State} {src code tag : Byte} {n : Nat} {data : List Byte} {r : Request}

/-- A reply meets the TRUNK queue, with room or without. -/
theorem State.queueReply_met (u : State) (o : Origin) (dst code tag : Byte) (n : Nat) (data : List Byte) :
    u.trunk.MetTrunk (u.queueReply o dst code tag n data).trunk (u.replyFrame dst code tag n data) o u.trunk.counters :=
  Port.joinTrunk_met

/-- A reply that meets the TRUNK queue makes no RESTART due, when none is pending or the queue has room. -/
theorem State.queueReply_restartDue (hdue : u.restartDue = false)
    (hr : u.restartPending = false ∨ u.trunk.TrunkHasRoom) :
    (u.queueReply .reply src code tag n data).restartDue = false := by
  rcases hr with hr | hr
  · exact State.restartDue_of_not_pending hr
  · rw [State.queueReply_of_room hr]
    simp only [State.restartDue, Port.holdsRestartReply, Bool.and_eq_false_iff, Bool.not_eq_false'] at hdue ⊢
    refine hdue.imp_right fun h => ?_
    rw [State.setTrunk_trunk, List.any_append, h, Bool.true_or]

/-- An event whose effect is a reply, in the words of the claims. -/
theorem State.queueReply_finish_met (hdue : u.restartDue = false)
    (hr : u.restartPending = false ∨ u.trunk.TrunkHasRoom) :
    u.OnlyLines (u.queueReply .reply src code tag n data).finish
      ∧ u.field.SameLine (u.queueReply .reply src code tag n data).finish.field
      ∧ u.trunk.MetTrunk (u.queueReply .reply src code tag n data).finish.trunk (u.replyFrame src code tag n data)
        .reply u.trunk.counters := by
  obtain ⟨hfin, hfield, htrunk⟩ := State.finish_quiet (State.queueReply_restartDue hdue hr)
  exact ⟨(u.queueReply_onlyLines .reply src code tag n data).trans hfin, hfield,
    (u.queueReply_met .reply src code tag n data).sameLine htrunk⟩

theorem State.replyFrame_congr (h : u.active = s.active) :
    u.replyFrame src code tag n data = s.replyFrame src code tag n data := by
  simp only [State.replyFrame, State.originate, h]

/-- A frame of the TRUNK port whose effect ends with a reply while no RESTART is pending. -/
theorem onFrame_replied {g : State → State} (hworks : s.works = true) (hon : (s.port .trunk).on = true)
    (hpend : u.restartPending = false) (hact : u.active = s.active)
    (hg : g (s.heard .trunk) = u.queueReply .reply src code tag n data) :
    ∃ t, onFrame .trunk g s = .next t ∧ u.OnlyLines t ∧ u.field.SameLine t.field
      ∧ u.trunk.MetTrunk t.trunk (s.replyFrame src code tag n data) .reply u.trunk.counters := by
  rw [onFrame_of hworks hon, hg, ← State.replyFrame_congr hact]
  exact ⟨_, rfl, State.queueReply_finish_met (State.restartDue_of_not_pending hpend) (.inl hpend)⟩

/-- A refused request, or one that cannot be decoded, meets the TRUNK queue with its reply (R154, R155). -/
theorem onFrame_refused {g : State → State} (h : s.Hears .trunk) (hpend : s.restartPending = false)
    (hg : g (s.heard .trunk) = (s.heard .trunk).queueReply .reply src code tag n data) :
    ∃ t, onFrame .trunk g s = .next t ∧ s.OnlyLines t ∧ (s.heard .trunk).field.SameLine t.field
      ∧ (s.heard .trunk).trunk.MetTrunk t.trunk (s.replyFrame src code tag n data) .reply
        (s.heard .trunk).trunk.counters := by
  obtain ⟨t, ht, honly, hlines⟩ :=
    onFrame_replied (u := s.heard .trunk) h.1 h.2.1 (State.heard_restartPending.trans hpend) rfl hg
  exact ⟨t, ht, State.OnlyLines.trans (t := s.heard .trunk) rfl honly, hlines⟩

/-- A request that cannot be decoded is answered BAD_REQUEST (R154). -/
theorem badRequest_replied {args : List Byte} (h : s.Hears .trunk) (hpend : s.restartPending = false)
    (hargs : decodeRequest code args = none) :
    ∃ t, exec (.badRequest src code tag args) s = .next t ∧ s.OnlyLines t
      ∧ (s.heard .trunk).field.SameLine t.field
      ∧ (s.heard .trunk).trunk.MetTrunk t.trunk (s.replyFrame src code tag 1 []) .reply
        (s.heard .trunk).trunk.counters := by
  refine onFrame_refused (g := State.takeEncoded src code tag args) h hpend ?_
  rw [State.takeEncoded, hargs]
  rfl

/-- A decoded request that is done or refused meets the TRUNK queue with its reply, and its effect stands (R127,
R153). -/
theorem request_replied {c : Instr} (h : s.Hears .trunk) (hpend : s.restartPending = false)
    (hc : Request.instr src tag r = some c) :
    (∀ u data, (s.heard .trunk).decide r = .done u data →
      ∃ t, exec c s = .next t ∧ u.OnlyLines t ∧ u.field.SameLine t.field
        ∧ u.trunk.MetTrunk t.trunk (s.replyFrame src r.code tag 0 data) .reply u.trunk.counters)
    ∧ ∀ rc, (s.heard .trunk).decide r = .refused rc →
      ∃ t, exec c s = .next t ∧ s.OnlyLines t ∧ (s.heard .trunk).field.SameLine t.field
        ∧ (s.heard .trunk).trunk.MetTrunk t.trunk (s.replyFrame src r.code tag rc.code rc.data) .reply
          (s.heard .trunk).trunk.counters := by
  have hpend' : (s.heard .trunk).restartPending = false := State.heard_restartPending.trans hpend
  rw [exec_of_request hc, onRequest]
  refine ⟨fun u data hdone => ?_, fun rc hrefused => ?_⟩
  · have hstate : ((s.heard .trunk).decide r).state? = some u := by rw [hdone]; rfl
    exact onFrame_replied h.1 h.2.1 ((State.decide_eases hstate).pending.trans hpend')
      (State.decide_active (s := s.heard .trunk) hstate) (State.takeRequest_done hpend' hdone)
  · exact onFrame_refused h hpend (State.takeRequest_refused hpend' hrefused)

end

/-! ## SAVE and its completion (R164, R174, R175) -/

section
variable {s : State} {v : SaveInFlight} {matched : Bool}

/-- The part once the store has reported the end of a SAVE, before the reply (R170, R175). -/
def State.saveStored (s : State) (v : SaveInFlight) (matched : Bool) : State :=
  let new : StoreState := if matched then .valid else .invalid
  { s with
    save := none, storeState := new
    store := if matched then .image v.image (checkWord v.image) else .broken
    deviceSlot := if s.storeState = new then s.deviceSlot else s.deviceSlot.mark (s.onOffer .device) }

/-- The completion of a SAVE is what the store reports, and then the reply to the kept requester. -/
theorem State.saveCompleted_eq (h : s.save = some v) : s.saveCompleted matched =
    (s.saveStored v matched).queueReply .reply v.requester 49 v.tag (if matched then 0 else 13) [] := by
  have hmark (new : StoreState) (u : State) : (if s.storeState = new then u else u.markDevice) = { u with
      deviceSlot := if s.storeState = new then u.deviceSlot else u.deviceSlot.mark (u.onOffer .device) } := by
    split <;> rfl
  unfold State.saveCompleted
  rw [h]
  dsimp only
  rw [hmark]
  cases matched <;> rfl

/-- SAVE_COMPLETE of a SAVE in flight: what the store reports, and the reply by the full-queue rule (R127). -/
theorem exec_saveComplete_replies (hworks : s.works = true) (hdue : s.restartDue = false)
    (hr : s.restartPending = false ∨ s.trunk.TrunkHasRoom) (hv : s.save = some v) :
    ∃ t, exec (.saveComplete matched) s = .next t ∧ (s.saveStored v matched).OnlyLines t ∧ s.field.SameLine t.field
      ∧ s.trunk.MetTrunk t.trunk (s.replyFrame v.requester 49 v.tag (if matched then 0 else 13) []) .reply
        s.trunk.counters := by
  have hsaving : s.saving = true := by rw [State.saving, hv]; rfl
  rw [exec_saveComplete, onEvent_of hworks hsaving, State.saveCompleted_eq hv]
  exact ⟨_, rfl, State.queueReply_finish_met (u := s.saveStored v matched) hdue hr⟩

/-- An accepted SAVE builds no reply (R164). -/
theorem exec_save_accepted {src tag : Byte} (h : s.Hears .trunk) (hpend : s.restartPending = false)
    (hs : s.saving = false) :
    ∃ t, exec (.save src tag) s = .next t ∧ (s.acceptSave src tag).OnlyLines t ∧ s.StayedAbove t := by
  have hdecide : (s.heard .trunk).decide .save = .saving (s.heard .trunk) :=
    if_neg (by rw [State.heard_saving, hs]; exact Bool.false_ne_true)
  obtain ⟨t, ht, honly, hlines⟩ := onFrame_trunk_counted (c := s.trunk.counters.heard) h
    (State.takeRequest_saving (State.heard_restartPending.trans hpend) hdecide) rfl rfl rfl
  exact ⟨t, ht, State.OnlyLines.trans (t := (s.heard .trunk).acceptSave src tag) rfl honly, hlines⟩

/-- An entry of the image is seen as the entry it was taken from (R174). -/
theorem savedEntry_seen {φ δ : Type} (e : Entry φ δ) : (savedEntry e).seen = e.seen := by cases e <;> rfl

theorem savedZone_seen {e : Entry ZoneFields ZoneDyn} (h : e.isInService = false) : (savedZone e).seen = e.seen := by
  cases e with
  | vacant | draft f => rfl
  | inService f d => cases h

theorem State.image_points (s : State) (i : Fin 64) : s.image.points[i] = savedEntry s.points[i] :=
  vector_ofFn_get (fun i : Fin 64 => savedEntry s.points[i]) i

theorem State.image_zones (s : State) (z : Fin 8) : s.image.zones[z] = savedZone s.zones[z] :=
  vector_ofFn_get (fun z : Fin 8 => savedZone s.zones[z]) z

theorem State.image_outputs (s : State) (i : Fin 24) : s.image.outputs[i] = savedEntry s.outputs[i] :=
  vector_ofFn_get (fun i : Fin 24 => savedEntry s.outputs[i]) i

theorem State.image_periods (s : State) (j : Fin 2) :
    s.image.periods[j] = s.clocks[j].staged.getD s.clocks[j].period :=
  vector_ofFn_get (fun j : Fin 2 => s.clocks[j].staged.getD s.clocks[j].period) j

end

/-- Settles O50: the image at acceptance, and at completion the store, the device slot and the reply. -/
theorem saveWritesTheImage : Obligations.SaveWritesTheImage := by
  unfold Obligations.SaveWritesTheImage
  refine ⟨fun s src tag hr hs => ?_, fun s v matched hworks hdue hroom hv => ?_⟩
  · obtain ⟨hhears, hpend, -⟩ := hr
    obtain ⟨t, ht, honly, hlines⟩ := exec_save_accepted (src := src) (tag := tag) hhears hpend hs
    refine ⟨t, s.image, ht, hlines, honly, rfl, rfl, rfl, s.image_periods, fun i => ?_, fun i => ?_, fun z hz => ?_,
      fun z f d hz => ?_⟩
    · rw [s.image_points, savedEntry_seen]
    · rw [s.image_outputs, savedEntry_seen]
    · rw [s.image_zones, savedZone_seen hz]
    · rw [s.image_zones, hz]; rfl
  · obtain ⟨t, ht, honly, hfield, htrunk⟩ := exec_saveComplete_replies (matched := matched) hworks hdue hroom hv
    exact ⟨t, ht, hfield, htrunk, honly⟩

/-- Settles O33: the frame up, the frame down, the replies of a request, and the reply of a SAVE. -/
theorem fullQueueEvictsTheLeastUrgent : Obligations.FullQueueEvictsTheLeastUrgent := by
  unfold Obligations.FullQueueEvictsTheLeastUrgent
  refine ⟨⟨rfl, rfl⟩, ?_, ?_, fun s v matched hworks hpend _ hv => ?_⟩
  · intro s ident data hpend f _
    refine ⟨fun h _ hkind => onFrame_unjudged h (.inl hpend) (.inl hkind),
      fun h _ hdst hknown hkind hdrive => onFrame_passedDown h hkind hdst hknown fun hblocked => ?_⟩
    obtain ⟨hk, hall | ⟨i, hi, hhand⟩⟩ := State.blocked_iff.1 hblocked
    · exact (hdrive hk).1 hall
    · rw [(hdrive hk).2 i hi] at hhand; cases hhand
  · intro s src code tag h hpend _ replied
    refine ⟨fun args hargs => badRequest_replied h hpend hargs, fun r c hc hcode => ?_⟩
    subst hcode
    exact request_replied h hpend hc
  · obtain ⟨t, ht, honly, hlines⟩ := exec_saveComplete_replies (matched := matched) hworks
      (State.restartDue_of_not_pending hpend) (.inl hpend) hv
    exact ⟨t, ht, by rw [honly]; rfl, hlines⟩

end Sys2Proof.Machine


namespace Sys2Proof.Machine

/-! ## The frame on offer (R122) -/

section
variable {p : Port} {r : ReportOffer} {e : QEntry} {pre post : List QEntry}

/-- A transmitter is free when its port is ON and none of its frames is on offer. -/
theorem Port.free_iff_offers : p.free = true ↔ p.on = true ∧ p.offers = 0 := by
  have hqueue : (∀ e ∈ p.queue, e.onOffer = false) ↔ (p.queue.filter QEntry.onOffer).length = 0 := by
    simp [List.length_eq_zero_iff, List.filter_eq_nil_iff]
  have hreport : p.report = none ↔ p.report.isSome.toNat = 0 := by cases p.report <;> simp
  rw [Port.free_iff, hqueue, hreport, Port.offers]
  exact and_congr_right fun _ => by omega

theorem Port.not_free_of_offers (h : p.offers = 1) : p.free = false :=
  Bool.eq_false_iff.2 fun k => by have := (Port.free_iff_offers.1 k).2; omega

theorem Port.offering_iff_offers : p.offering = true ↔ p.offers ≠ 0 := by
  have hqueue : p.queue.any QEntry.onOffer = true ↔ (p.queue.filter QEntry.onOffer).length ≠ 0 := by
    simp [List.length_eq_zero_iff, List.filter_eq_nil_iff]
  have hreport : p.report.isSome = true ↔ p.report.isSome.toNat ≠ 0 := by cases p.report <;> simp
  rw [Port.offering, Bool.or_eq_true, hqueue, hreport, Port.offers]
  omega

theorem Port.attempting_of_offers (hon : p.on = true) (h : p.offers = 1) : p.attempting = true := by
  rw [Port.attempting, hon, Port.offering_iff_offers.2 (by omega)]; rfl

/-- With a report on offer no queued frame is. -/
theorem Port.queued_of_report (hone : p.offers ≤ 1) (hr : p.report = some r) : ∀ e ∈ p.queue, e.onOffer = false := by
  rw [Port.offers, hr] at hone
  have hnone : p.queue.filter QEntry.onOffer = [] :=
    List.length_eq_zero_iff.1 (Nat.le_zero.1 (Nat.le_of_succ_le_succ hone))
  exact fun e he => Bool.eq_false_iff.2 (List.filter_eq_nil_iff.1 hnone e he)

/-- With a queued frame on offer no report and no other queued frame is. -/
theorem Port.others_of_queued (hone : p.offers ≤ 1) (hq : p.queue = pre ++ e :: post) (he : e.onOffer = true) :
    p.report = none ∧ (∀ x ∈ pre, x.onOffer = false) ∧ ∀ x ∈ post, x.onOffer = false := by
  simp only [Port.offers, hq, List.filter_append, List.filter_cons, he, if_true, List.length_append, List.length_cons]
    at hone
  have hpre : pre.filter QEntry.onOffer = [] := List.length_eq_zero_iff.1 (by omega)
  have hpost : post.filter QEntry.onOffer = [] := List.length_eq_zero_iff.1 (by omega)
  refine ⟨?_, fun x hx => Bool.eq_false_iff.2 (List.filter_eq_nil_iff.1 hpre x hx),
    fun x hx => Bool.eq_false_iff.2 (List.filter_eq_nil_iff.1 hpost x hx)⟩
  cases hr : p.report with
  | none => rfl
  | some r => rw [hr] at hone; simp at hone

theorem Port.offers_of_report (hone : p.offers ≤ 1) (hr : p.report = some r) : p.offers = 1 := by
  refine le_antisymm hone ?_
  rw [Port.offers, hr]
  exact Nat.le_add_left _ _

theorem Port.offers_of_queued (hone : p.offers ≤ 1) (hq : p.queue = pre ++ e :: post) (he : e.onOffer = true) :
    p.offers = 1 := by
  refine le_antisymm hone (Nat.one_le_iff_ne_zero.2 (Port.offering_iff_offers.1 ?_))
  rw [Port.offering, hq]
  simp [he]

theorem filter_not_onOffer {q : List QEntry} (h : ∀ e ∈ q, e.onOffer = false) : q.filter (fun e => !e.onOffer) = q :=
  List.filter_eq_self.2 fun e he => by rw [h e he]; rfl

theorem Port.withdrawOffer_of_report (hone : p.offers ≤ 1) (hr : p.report = some r) :
    p.withdrawOffer = { p with report := none } := by
  rw [Port.withdrawOffer, filter_not_onOffer (Port.queued_of_report hone hr)]

theorem Port.withdrawOffer_of_queued (hone : p.offers ≤ 1) (hq : p.queue = pre ++ e :: post) (he : e.onOffer = true) :
    p.withdrawOffer = { p with queue := pre ++ post } := by
  obtain ⟨hr, hpre, hpost⟩ := Port.others_of_queued hone hq he
  rw [Port.withdrawOffer, hq, List.filter_append, List.filter_cons, he, filter_not_onOffer hpre,
    filter_not_onOffer hpost, ← hr, if_neg (by decide)]

theorem Port.withdrawOffer_offers (p : Port) : p.withdrawOffer.offers = 0 := by
  simp [Port.offers, Port.withdrawOffer, List.filter_filter]

/-- The queued frame on offer is the one that an end of an attempt finds. -/
theorem Port.find_onOffer (hone : p.offers ≤ 1) (hq : p.queue = pre ++ e :: post) (he : e.onOffer = true) :
    p.queue.find? QEntry.onOffer = some e := by
  obtain ⟨-, hpre, -⟩ := Port.others_of_queued hone hq he
  rw [hq, List.find?_append, List.find?_eq_none.2 fun x hx => by rw [hpre x hx]; exact Bool.false_ne_true,
    List.find?_cons_of_pos he]
  rfl

/-- A queued frame after a failed attempt of the frame on offer. -/
def QEntry.failed (e : QEntry) : QEntry := { e with attempt := e.attempt.map (· + 1) }

theorem Port.addFailure_offered (p : Port) :
    p.addFailure.queue.filter QEntry.onOffer = (p.queue.filter QEntry.onOffer).map QEntry.failed := by
  have hsame : QEntry.onOffer ∘ QEntry.failed = QEntry.onOffer := funext fun e => Option.isSome_map
  rw [show p.addFailure.queue = p.queue.map QEntry.failed from rfl, List.filter_map, hsame]

theorem Port.addFailure_offers (p : Port) : p.addFailure.offers = p.offers := by
  rw [Port.offers, Port.addFailure_offered, List.length_map]
  exact congrArg (_ + Bool.toNat ·) Option.isSome_map

theorem Port.addFailure_sameLine (p : Port) : p.SameLine p.addFailure := by
  refine ⟨rfl, ?_, rfl, rfl⟩
  rw [Port.frames, Port.addFailure, List.map_map]
  rfl

/-- A failure adds one to the count of the frame on offer (R122). -/
theorem Port.addFailure_failures (h : p.offers = 1) : p.addFailure.failures = p.failures + 1 := by
  cases hr : p.report with
  | some r =>
    have hfailed : p.addFailure.report = some { r with failures := r.failures + 1 } := by rw [Port.addFailure, hr]; rfl
    rw [Port.failures_of_report hfailed, Port.failures_of_report hr]
  | none =>
    have hfailed : p.addFailure.report = none := by rw [Port.addFailure, hr]; rfl
    rw [Port.failures_of_queue hfailed, Port.failures_of_queue hr, Port.addFailure_offered]
    cases hq : p.queue.filter QEntry.onOffer with
    | nil => rw [Port.offers, hq, hr] at h; cases h
    | cons e l =>
      have he : e.onOffer = true := (List.mem_filter.1 (hq ▸ List.mem_cons_self)).2
      obtain ⟨n, hn⟩ := Option.isSome_iff_exists.1 he
      simp [QEntry.failed, hn]

end

/-! ## The end of an attempt, at one port (R122, R123) -/

section
variable {s t u : State} {id : PortId} {v : Port} {g : State → State} {applies : Bool} {r : ReportOffer} {e : QEntry}
  {pre post : List QEntry}

theorem State.arbitrate_field (s : State) : s.arbitrate.field = s.arbitrateField.field := by
  rw [State.arbitrate, s.arbitrateField.arbitrateTrunk_eq.1]
  rfl

/-- The arbiters leave a port alone whose transmitter is not free. -/
theorem State.arbitrate_port_of_busy (h : (s.port id).free = false) : s.arbitrate.port id = s.port id := by
  cases id with
  | field =>
    have hbusy : ¬s.field.free = true := Bool.eq_false_iff.1 h
    refine s.arbitrate_field.trans ?_
    rw [State.arbitrateField, if_neg hbusy]
    rfl
  | trunk =>
    have htrunk : s.arbitrateField.trunk = s.trunk := by rw [s.arbitrateField_eq.1]; rfl
    have hbusy : ¬s.arbitrateField.trunk.free = true := by rw [htrunk]; exact Bool.eq_false_iff.1 h
    change s.arbitrateField.arbitrateTrunk.trunk = s.trunk
    rw [State.arbitrateTrunk, if_neg hbusy, htrunk]

/-- No RESTART comes due where the TRUNK port keeps its reply. -/
theorem State.restartDue_of_keeps (hdue : s.restartDue = false) (hpend : u.restartPending = s.restartPending)
    (hkeeps : s.trunk.holdsRestartReply = true → u.trunk.holdsRestartReply = true) : u.restartDue = false := by
  simp only [State.restartDue, Bool.and_eq_false_iff, Bool.not_eq_false'] at hdue ⊢
  rw [hpend]
  exact hdue.imp_right hkeeps

/-- An event that changes one port and keeps a RESTART's reply in it, in the words of the claims. -/
theorem portEvent (hw : s.works = true) (ha : applies = true) (hg : g s = u) (hdue : s.restartDue = false)
    (hpend : u.restartPending = s.restartPending) (hport : u.port id = v) (hothers : ∀ q, q ≠ id → u.port q = s.port q)
    (hkeeps : (s.port id).holdsRestartReply = true → v.holdsRestartReply = true) :
    ∃ t, onEvent applies g s = .next t ∧ u.OnlyLines t ∧ v.SameLine (t.port id) ∧ (v.free = false → t.port id = v)
      ∧ ∀ q, q ≠ id → (s.port q).SameLine (t.port q) := by
  have htrunk : s.trunk.holdsRestartReply = true → u.trunk.holdsRestartReply = true := by
    cases id with
    | field => exact fun h => (congrArg Port.holdsRestartReply (hothers .trunk nofun)).trans h
    | trunk => exact fun h => (congrArg Port.holdsRestartReply hport).trans (hkeeps h)
  have hdue' := State.restartDue_of_keeps hdue hpend htrunk
  obtain ⟨honly, hquiet⟩ := State.finish_quiet hdue'
  refine ⟨u.finish, by rw [onEvent_of hw ha, hg], honly, ?_, fun hbusy => ?_, fun q hq => ?_⟩
  · rw [← hport]
    exact State.QuietLines.port hquiet id
  · rw [State.finish_of_not_due hdue', State.arbitrate_port_of_busy (by rw [hport]; exact hbusy), hport]
  · rw [← hothers q hq]
    exact State.QuietLines.port hquiet q

theorem State.setPort_onlyLines (s : State) (id : PortId) (v : Port) : s.OnlyLines (s.setPort id v) := by
  cases id <;> rfl

/-- The queue of a port without one frame that is no RESTART's reply still holds that reply. -/
theorem Port.holdsRestartReply_of_left {p : Port} (hq : p.queue = pre ++ e :: post) (he : e.origin ≠ .restartReply)
    (hv : v.queue = pre ++ post) (h : p.holdsRestartReply = true) : v.holdsRestartReply = true := by
  have hno : (e.origin == .restartReply) = false := beq_eq_false_iff_ne.2 he
  rw [Port.holdsRestartReply, hq, List.any_append, List.any_cons, hno, Bool.false_or] at h
  rw [Port.holdsRestartReply, hv, List.any_append, h]

theorem State.QuietLines.of_ports (h : ∀ q, (s.port q).SameLine (t.port q)) : s.QuietLines t := ⟨h .field, h .trunk⟩

/-- Every port, when one of them and the others are. -/
theorem State.QuietLines.of_port (h : (s.port id).SameLine (t.port id))
    (hothers : ∀ q, q ≠ id → (s.port q).SameLine (t.port q)) : s.QuietLines t :=
  .of_ports fun q => (eq_or_ne q id).elim (fun hq => hq ▸ h) (hothers q)

/-! ### The slot of a report (R167) -/

@[simp] theorem State.setSlot_port (s : State) (k : SlotId) (x : Slot) : (s.setSlot k x).port id = s.port id := by
  cases k <;> cases id <;> rfl

@[simp] theorem State.setSlot_restartPending (s : State) (k : SlotId) (x : Slot) :
    (s.setSlot k x).restartPending = s.restartPending := by cases k <;> rfl

theorem State.setPort_slot (s : State) (id : PortId) (v : Port) (k : SlotId) : (s.setPort id v).slot k = s.slot k := by
  cases id <;> cases k <;> rfl

/-- A slot is set beside the lines. -/
theorem State.setSlot_onlyLines (s : State) (id : PortId) (v : Port) (k : SlotId) (x : Slot) :
    (s.setSlot k x).OnlyLines ((s.setPort id v).setSlot k x) := by
  cases k <;> cases id <;> rfl

/-- What the end of a report's offer leaves of its slot: the marks as `f` makes them, where it has a slot. -/
def State.slotEnded (s : State) (r : ReportOffer) (f : Slot → Slot) : State :=
  match r.slot with
  | some k => s.setSlot k (f (s.slot k))
  | none => s

theorem State.slotEnded_port (s : State) (r : ReportOffer) (f : Slot → Slot) (id : PortId) :
    (s.slotEnded r f).port id = s.port id := by
  unfold State.slotEnded; split <;> simp

theorem State.slotEnded_restartPending (s : State) (r : ReportOffer) (f : Slot → Slot) :
    (s.slotEnded r f).restartPending = s.restartPending := by
  unfold State.slotEnded; split <;> simp

theorem State.slotEnded_onlyLines (s : State) (r : ReportOffer) (f : Slot → Slot) (id : PortId) (v : Port) :
    (s.slotEnded r f).OnlyLines ((s.setPort id v).slotEnded r f) := by
  unfold State.slotEnded
  split
  · rw [State.setPort_slot]
    exact s.setSlot_onlyLines id v _ _
  · exact s.setPort_onlyLines id v

theorem State.reportTransmitted_eq (s : State) (r : ReportOffer) :
    s.reportTransmitted r = s.slotEnded r Slot.transmitted := rfl

theorem State.reportAbandoned_eq (s : State) (r : ReportOffer) :
    s.reportAbandoned r = s.slotEnded r (Slot.abandoned · r.superseded) := rfl

/-! ### The dither index of a run frame (R88) -/

theorem State.frameLeft_lines (s : State) (e : QEntry) :
    (∀ id, (s.frameLeft e).port id = s.port id) ∧ (s.frameLeft e).restartPending = s.restartPending := by
  unfold State.frameLeft State.advanceDither
  split
  · split
    · exact ⟨fun id => by cases id <;> rfl, rfl⟩
    · exact ⟨fun _ => rfl, rfl⟩
  · exact ⟨fun _ => rfl, rfl⟩

/-- Between `s` and `t` this frame left its queue: the dither index of its fan advanced when it is a run DRIVE, and nothing
else changed but the lines. -/
abbrev State.LeftBy (s : State) (e : QEntry) (t : State) : Prop :=
  (∀ (i : Fin 24) (f : OutputFields) (d : FanDyn), e.origin = .drive i true → s.outputs[i] = .inService f (.fan d) →
    (s.setOutput i (.inService f (.fan { d with dither := d.dither + 1 }))).OnlyLines t)
  ∧ ((∀ i, e.origin ≠ .drive i true) → s.OnlyLines t)

theorem State.frameLeft_leftBy (s : State) (id : PortId) (v : Port) (e : QEntry) :
    s.LeftBy e ((s.setPort id v).frameLeft e) := by
  refine ⟨fun i f d ho hi => ?_, fun ho => ?_⟩
  · have hi' : (s.setPort id v).outputs[i] = .inService f (.fan d) := by rw [State.setPort_outputs]; exact hi
    rw [State.frameLeft, ho]
    dsimp only
    rw [State.advanceDither, hi']
    cases id <;> rfl
  · unfold State.frameLeft
    split
    · rename_i i hdrive; exact absurd hdrive (ho i)
    · exact s.setPort_onlyLines id v

/-! ### The end of an offer at a sound transmitter -/

/-- The event at which a report ends its offer and its port becomes `v`. -/
theorem reportEvent {f : Slot → Slot} (hw : s.works = true) (hdue : s.restartDue = false) (ha : applies = true)
    (hg : g s = (s.setPort id v).slotEnded r f) (hqueue : v.queue = (s.port id).queue) :
    ∃ t, onEvent applies g s = .next t ∧ (s.slotEnded r f).OnlyLines t ∧ v.SameLine (t.port id)
      ∧ (v.free = false → t.port id = v) ∧ ∀ q, q ≠ id → (s.port q).SameLine (t.port q) := by
  obtain ⟨t, ht, honly, hrest⟩ := portEvent hw ha hg hdue
    (by rw [State.slotEnded_restartPending, State.setPort_restartPending])
    (by rw [State.slotEnded_port, State.port_setPort])
    (fun q hq => by rw [State.slotEnded_port, State.port_setPort_ne _ hq])
    (fun h => by rw [Port.holdsRestartReply, hqueue]; exact h)
  exact ⟨t, ht, (s.slotEnded_onlyLines r f id v).trans honly, hrest⟩

/-- The event at which a queued frame leaves, and its port becomes `v`. -/
theorem queuedEvent (hw : s.works = true) (hdue : s.restartDue = false) (ha : applies = true)
    (hg : g s = (s.setPort id v).frameLeft e) (hq : (s.port id).queue = pre ++ e :: post)
    (he : e.origin ≠ .restartReply) (hv : v.queue = pre ++ post) :
    ∃ t, onEvent applies g s = .next t ∧ v.SameLine (t.port id) ∧ (v.free = false → t.port id = v)
      ∧ (∀ q, q ≠ id → (s.port q).SameLine (t.port q)) ∧ s.LeftBy e t := by
  obtain ⟨hlines, hpend⟩ := (s.setPort id v).frameLeft_lines e
  obtain ⟨t, ht, honly, hsame, hbusy, hothers⟩ := portEvent hw ha hg hdue (by rw [hpend, State.setPort_restartPending])
    (by rw [hlines, State.port_setPort]) (fun q hq => by rw [hlines, State.port_setPort_ne _ hq])
    (Port.holdsRestartReply_of_left hq he hv)
  obtain ⟨hdither, hnone⟩ := s.frameLeft_leftBy id v e
  exact ⟨t, ht, hsame, hbusy, hothers, fun i f d ho hi => (hdither i f d ho hi).trans honly,
    fun ho => (hnone ho).trans honly⟩

theorem State.completeOffer_of_report (hone : (s.port id).offers ≤ 1) (hr : (s.port id).report = some r) :
    s.completeOffer id = (s.setPort id { s.port id with report := none }).slotEnded r Slot.transmitted := by
  unfold State.completeOffer
  dsimp only
  rw [hr, Port.withdrawOffer_of_report hone hr]
  exact State.reportTransmitted_eq _ r

theorem State.completeOffer_of_queued (hone : (s.port id).offers ≤ 1) (hq : (s.port id).queue = pre ++ e :: post)
    (he : e.onOffer = true) :
    s.completeOffer id = (s.setPort id { s.port id with queue := pre ++ post }).frameLeft e := by
  unfold State.completeOffer
  dsimp only
  rw [Port.find_onOffer hone hq he, Port.withdrawOffer_of_queued hone hq he]
  split
  · rename_i r hr
    cases hr.symm.trans (Port.others_of_queued hone hq he).1
  · rfl

/-- A port that has abandoned the frame on offer: OFF, with its recovery timer started (R123). -/
def Port.abandoned (p : Port) : Port :=
  { p.withdrawOffer.countAbandoned.countOffEntry with on := false, recovery := timerOf recoverySeconds }

theorem State.abandonOffer_of_report (hr : (s.port id).report = some r) :
    s.abandonOffer id = (s.setPort id (s.port id).abandoned).slotEnded r (Slot.abandoned · r.superseded) := by
  unfold State.abandonOffer
  dsimp only
  rw [hr]
  exact State.reportAbandoned_eq _ r

theorem State.abandonOffer_of_queued (hone : (s.port id).offers ≤ 1) (hq : (s.port id).queue = pre ++ e :: post)
    (he : e.onOffer = true) : s.abandonOffer id = (s.setPort id (s.port id).abandoned).frameLeft e := by
  unfold State.abandonOffer
  dsimp only
  rw [(Port.others_of_queued hone hq he).1, Port.find_onOffer hone hq he]
  rfl

theorem Port.abandoned_queue_of_report {p : Port} (hone : p.offers ≤ 1) (hr : p.report = some r) :
    p.abandoned.queue = p.queue :=
  (congrArg Port.queue (Port.withdrawOffer_of_report hone hr) :)

theorem Port.abandoned_queue_of_queued {p : Port} (hone : p.offers ≤ 1) (hq : p.queue = pre ++ e :: post)
    (he : e.onOffer = true) : p.abandoned.queue = pre ++ post :=
  (congrArg Port.queue (Port.withdrawOffer_of_queued hone hq he) :)

end

/-- Settles O35: the report by its slot, the queued frame by its place and its DRIVE. -/
theorem completedFrameLeaves : Obligations.CompletedFrameLeaves := by
  unfold Obligations.CompletedFrameLeaves
  rintro s p ⟨hw, hon, hdue⟩ ⟨hone, -, -, -⟩
  refine ⟨fun r hr => ?_, fun pre post e hq he ho => ?_⟩
  · obtain ⟨t, ht, honly, hsame, -, hothers⟩ := reportEvent
      (g := (State.completeOffer · p)) (v := { s.port p with report := none }) hw hdue
      (Port.attempting_of_offers hon (Port.offers_of_report hone hr))
      (State.completeOffer_of_report hone hr) rfl
    refine ⟨t, ht, .of_port hsame hothers, ?_⟩
    unfold State.slotEnded at honly
    cases hslot : r.slot <;> rw [hslot] at honly <;> exact honly
  · obtain ⟨t, ht, ⟨kon, kframes, -, kcount⟩, -, hothers, hdither, hnone⟩ := queuedEvent
      (g := (State.completeOffer · p)) (v := { s.port p with queue := pre ++ post }) hw hdue
      (Port.attempting_of_offers hon (Port.offers_of_queued hone hq he))
      (State.completeOffer_of_queued hone hq he) hq ho rfl
    exact ⟨t, ht, kframes, kcount, kon.trans hon, hothers, hdither, hnone⟩

end Sys2Proof.Machine


namespace Sys2Proof.Machine

/-! ## FAILED_ATTEMPT, ARBITRATION_LOST, FRAME_ABANDON and RECOVERY_TIMER_EXPIRY (R122, R123) -/

section
variable {s t : State} {id : PortId} {r : ReportOffer} {e : QEntry} {pre post : List QEntry}

/-- A port that has abandoned its frame is OFF with nothing on offer, and its transmitter is not free (R123). -/
theorem Port.abandoned_off (p : Port) :
    p.abandoned.free = false ∧ p.abandoned.on = false ∧ p.abandoned.offers = 0 ∧ p.abandoned.recovery = timerOf 1
      ∧ p.abandoned.counters = { p.counters with
        abandoned := satInc p.counters.abandoned, offEntries := satInc p.counters.offEntries } :=
  ⟨rfl, rfl, p.withdrawOffer_offers, rfl, rfl⟩

/-- An event reads of its effect only what it does to the state it meets. -/
theorem onEvent_congr {applies : Bool} {f g : State → State} (h : f s = g s) :
    onEvent applies f s = onEvent applies g s := by
  unfold onEvent; rw [h]

/-- A failure short of the limit is counted, and the frame stays on offer (R122). -/
theorem exec_failedAttempt_counts (hw : s.works = true) (hdue : s.restartDue = false) (hon : (s.port id).on = true)
    (hoffer : (s.port id).offers = 1) (hn : (s.port id).failures + 1 < 32) :
    ∃ t, exec (.failedAttempt id) s = .next t ∧ s.OnlyLines t ∧ s.QuietLines t ∧ (t.port id).offers = 1
      ∧ (t.port id).failures = (s.port id).failures + 1 := by
  have hoffers : (s.port id).addFailure.offers = 1 := (Port.addFailure_offers _).trans hoffer
  have hfail : s.failOffer id = s.setPort id (s.port id).addFailure := if_neg (Nat.not_le.2 hn)
  have hkeeps : (s.port id).addFailure.holdsRestartReply = (s.port id).holdsRestartReply := List.any_map
  obtain ⟨t, ht, honly, hsame, hbusy, hothers⟩ := portEvent (g := (State.failOffer · id)) hw
    (Port.attempting_of_offers hon hoffer) hfail hdue (State.setPort_restartPending _ _ _) (State.port_setPort _ _ _)
    (fun q hq => State.port_setPort_ne _ hq _) (fun h => hkeeps.trans h)
  have hport := hbusy (Port.not_free_of_offers hoffers)
  exact ⟨t, ht, (s.setPort_onlyLines id _).trans honly, .of_port ((Port.addFailure_sameLine _).trans hsame) hothers,
    by rw [hport, hoffers], by rw [hport, Port.addFailure_failures hoffer]⟩

/-- The 32nd failure is an abandonment (R123). -/
theorem exec_failedAttempt_abandons (hn : (s.port id).failures + 1 = 32) :
    exec (.failedAttempt id) s = exec (.frameAbandon id) s :=
  onEvent_congr (f := (State.failOffer · id)) (g := (State.abandonOffer · id)) (if_pos hn.ge)

/-- A lost arbitration leaves the frame on offer as it is (R122). -/
theorem exec_arbitrationLost_keeps (hw : s.works = true) (hdue : s.restartDue = false) (hon : (s.port id).on = true)
    (hoffer : (s.port id).offers = 1) :
    ∃ t, exec (.arbitrationLost id) s = .next t ∧ s.OnlyLines t ∧ s.QuietLines t ∧ t.port id = s.port id := by
  obtain ⟨t, ht, honly, hsame, hbusy, hothers⟩ := portEvent (u := s) (id := id) (v := s.port id) (g := fun u => u) hw
    (Port.attempting_of_offers hon hoffer) rfl hdue rfl rfl (fun _ _ => rfl) (fun h => h)
  exact ⟨t, ht, honly, .of_port hsame hothers, hbusy (Port.not_free_of_offers hoffer)⟩

/-- An abandoned report leaves its slot as R167 says, and its port OFF. -/
theorem exec_frameAbandon_report (hw : s.works = true) (hdue : s.restartDue = false) (hon : (s.port id).on = true)
    (hone : (s.port id).offers ≤ 1) (hr : (s.port id).report = some r) :
    ∃ t, exec (.frameAbandon id) s = .next t ∧ (s.slotEnded r (Slot.abandoned · r.superseded)).OnlyLines t
      ∧ t.port id = (s.port id).abandoned ∧ ∀ q, q ≠ id → (s.port q).SameLine (t.port q) := by
  obtain ⟨t, ht, honly, -, hbusy, hothers⟩ := reportEvent (g := (State.abandonOffer · id)) hw hdue
    (Port.attempting_of_offers hon (Port.offers_of_report hone hr)) (State.abandonOffer_of_report hr)
    (Port.abandoned_queue_of_report hone hr)
  exact ⟨t, ht, honly, hbusy rfl, hothers⟩

/-- An abandoned frame of a queue leaves it, and its port is OFF. -/
theorem exec_frameAbandon_queued (hw : s.works = true) (hdue : s.restartDue = false) (hon : (s.port id).on = true)
    (hone : (s.port id).offers ≤ 1) (hq : (s.port id).queue = pre ++ e :: post) (he : e.onOffer = true)
    (ho : e.origin ≠ .restartReply) :
    ∃ t, exec (.frameAbandon id) s = .next t ∧ t.port id = (s.port id).abandoned
      ∧ (∀ q, q ≠ id → (s.port q).SameLine (t.port q)) ∧ s.LeftBy e t := by
  obtain ⟨t, ht, -, hbusy, hrest⟩ := queuedEvent (g := (State.abandonOffer · id)) hw hdue
    (Port.attempting_of_offers hon (Port.offers_of_queued hone hq he)) (State.abandonOffer_of_queued hone hq he) hq ho
    (Port.abandoned_queue_of_queued hone hq he)
  exact ⟨t, ht, hbusy rfl, hrest⟩

/-- The recovery timer of a port that is OFF takes it ON (R123). -/
theorem exec_recoveryTimerExpiry_recovers (hw : s.works = true) (hdue : s.restartDue = false) (hs : (s.port id).Sound)
    (hoff : (s.port id).on = false) :
    ∃ t, exec (.recoveryTimerExpiry id) s = .next t ∧ s.OnlyLines t
      ∧ (∀ q, q ≠ id → (s.port q).SameLine (t.port q))
      ∧ Port.SameLine { s.port id with on := true, recovery := none } (t.port id) := by
  obtain ⟨-, -, -, hrecovery⟩ := hs
  have hruns : (s.recoveryTimer id).isSome = true := by
    rw [State.recoveryTimer, if_neg (by rw [hoff]; exact Bool.false_ne_true), hrecovery, hoff]; rfl
  obtain ⟨t, ht, honly, hsame, -, hothers⟩ := portEvent (g := (State.recover · id)) hw hruns rfl hdue
    (State.setPort_restartPending _ _ _) (State.port_setPort _ _ _) (fun q hq => State.port_setPort_ne _ hq _)
    (fun h => h)
  exact ⟨t, ht, (s.setPort_onlyLines id _).trans honly, hothers, hsame⟩

end

/-- Settles O36: a failure short of the limit, the 32nd, the lost arbitration, the abandoned report and frame, and the
recovery. -/
theorem failuresAbandonTheFrame : Obligations.FailuresAbandonTheFrame := by
  unfold Obligations.FailuresAbandonTheFrame
  intro s p hw hdue hs n others off
  obtain ⟨hone, -, -, -⟩ := id hs
  have hoff (t : State) (h : t.port p = (s.port p).abandoned) : off t := by
    obtain ⟨-, hrest⟩ := (s.port p).abandoned_off
    rw [← h] at hrest
    exact hrest
  refine ⟨fun hon hoffer => ⟨fun hn => exec_failedAttempt_counts hw hdue hon hoffer hn,
    fun hn => exec_failedAttempt_abandons hn, exec_arbitrationLost_keeps hw hdue hon hoffer, fun r hr => ?_,
    fun pre post e hq he ho => ?_⟩, fun hdown => ?_⟩
  · obtain ⟨t, ht, honly, hport, hothers⟩ := exec_frameAbandon_report hw hdue hon hone hr
    refine ⟨t, ht, hoff t hport, hothers, ?_, ?_⟩
    · rw [hport, Port.frames, Port.abandoned_queue_of_report hone hr, Port.frames]
    · unfold State.slotEnded at honly
      cases hslot : r.slot <;> rw [hslot] at honly <;> exact honly
  · obtain ⟨t, ht, hport, hothers, hrest⟩ := exec_frameAbandon_queued hw hdue hon hone hq he ho
    refine ⟨t, ht, hoff t hport, hothers, ?_, hrest⟩
    rw [hport, Port.frames, Port.abandoned_queue_of_queued hone hq he]
  · obtain ⟨t, ht, honly, hothers, kon, kframes, krec, kcount⟩ := exec_recoveryTimerExpiry_recovers hw hdue hs hdown
    exact ⟨t, ht, honly, hothers, kon, krec, kframes, kcount⟩

end Sys2Proof.Machine


namespace Sys2Proof.Machine

/-! ## What puts no frame on offer (R122) -/

/-- Between `s` and `t` no frame came on offer. -/
structure State.OffersNoMore (s t : State) : Prop where
  field : t.field.offers ≤ s.field.offers
  trunk : t.trunk.offers ≤ s.trunk.offers

section
variable {s t u : State} {id : PortId} {i : Fin 24}

theorem State.OffersNoMore.refl (s : State) : s.OffersNoMore s := ⟨le_rfl, le_rfl⟩

theorem State.OffersNoMore.trans (h : s.OffersNoMore t) (k : t.OffersNoMore u) : s.OffersNoMore u :=
  ⟨k.field.trans h.field, k.trunk.trans h.trunk⟩

theorem State.OffersNoMore.foldl {α : Type} {g : State → α → State} (hg : ∀ s a, State.OffersNoMore s (g s a))
    (l : List α) (s : State) : s.OffersNoMore (l.foldl g s) := by
  induction l generalizing s with
  | nil => exact .refl s
  | cons a l ih => exact (hg s a).trans (ih _)

theorem State.OffersNoMore.port (h : s.OffersNoMore t) : ∀ p, (t.port p).offers ≤ (s.port p).offers
  | .field => h.field
  | .trunk => h.trunk

theorem State.Eases.offersNoMore (h : s.Eases t) : s.OffersNoMore t :=
  ⟨h.field.calmer.offers_le, h.trunk.calmer.offers_le⟩

theorem State.setPort_offersNoMore {v : Port} (s : State) (h : v.offers ≤ (s.port id).offers) :
    s.OffersNoMore (s.setPort id v) := by
  cases id
  · exact ⟨h, le_rfl⟩
  · exact ⟨le_rfl, h⟩

/-- A frame that joins a queue waits there. -/
theorem Port.join_offers {p : Port} {full : Bool} {looked : QEntry → Bool} {e : QEntry} (he : e.attempt = none) :
    (p.join full looked e).1.offers ≤ p.offers := (Port.join_calmer he).offers_le

/-! ### Frames that join a queue -/

theorem State.forwardUp_offersNoMore (s : State) (f : Frame) : s.OffersNoMore (s.forwardUp f) := by
  unfold State.forwardUp
  split
  · exact s.setPort_offersNoMore (id := .field) le_rfl
  · have hjoin : s.OffersNoMore (s.setTrunk (s.trunk.joinTrunk (forwardedEntry f)).1) :=
      s.setPort_offersNoMore (id := .trunk) (Port.join_offers rfl)
    dsimp only
    split
    · exact hjoin.trans (State.setPort_offersNoMore (id := .field) _ le_rfl)
    · exact hjoin

theorem State.forwardDown_offersNoMore (s : State) (f : Frame) : s.OffersNoMore (s.forwardDown f) := by
  unfold State.forwardDown
  split
  · exact s.setPort_offersNoMore (id := .trunk) le_rfl
  · have hjoin : s.OffersNoMore (s.setField (s.field.joinField (forwardedEntry f)).1) :=
      s.setPort_offersNoMore (id := .field) (Port.join_offers rfl)
    dsimp only
    split
    · exact hjoin.trans (State.setPort_offersNoMore (id := .trunk) _ le_rfl)
    · exact hjoin

theorem State.queueReply_offersNoMore (s : State) (o : Origin) (dst code tag : Byte) (n : Nat) (data : List Byte) :
    s.OffersNoMore (s.queueReply o dst code tag n data) :=
  s.setPort_offersNoMore (id := .trunk) (Port.join_offers rfl)

/-- A DRIVE that takes the place of another ends that one's attempt (R92). -/
theorem State.queueDrive_offersNoMore (s : State) (i : Fin 24) : s.OffersNoMore (s.queueDrive i) := by
  cases h : s.driveEntry i with
  | none => rw [State.queueDrive_of_none h]; exact .refl s
  | some e =>
    obtain ⟨-, -, hwaits⟩ := State.driveEntry_some h
    rw [State.queueDrive_of_some h]
    refine s.setPort_offersNoMore (id := .field) (Nat.add_le_add_right (List.Sublist.length_le ?_) _)
    exact offered_joinDrive (by rw [QEntry.onOffer, hwaits]; rfl)

/-! ### Outputs in the machine -/

theorem State.startFan_offersNoMore (s : State) (i : Fin 24) : s.OffersNoMore (s.startFan i) :=
  (s.updateFan_eases i _).offersNoMore.trans (State.queueDrive_offersNoMore _ i)

theorem State.pathCheck_offersNoMore (s : State) : s.OffersNoMore s.pathCheck := by
  unfold State.pathCheck
  refine State.OffersNoMore.foldl (fun s i => ?_) _ s
  split
  · exact s.startFan_offersNoMore i
  · exact .refl s

theorem State.pathCheckThrough_offersNoMore (s : State) (j : Fin 24) : s.OffersNoMore (s.pathCheckThrough j) := by
  unfold State.pathCheckThrough
  refine State.OffersNoMore.foldl (fun s i => ?_) _ s
  split
  · exact s.startFan_offersNoMore i
  · exact .refl s

theorem State.allocate_offersNoMore (s : State) : s.OffersNoMore s.allocate := by
  have hdrives (u : State) : u.OffersNoMore u.queueDrives := by
    unfold State.queueDrives
    exact State.OffersNoMore.foldl (fun s i => s.queueDrive_offersNoMore i) _ u
  rw [State.allocate_eq]
  exact (s.outputsDelivered_eases.offersNoMore.trans (hdrives _)).trans (State.pathCheck_offersNoMore _)

theorem State.takeDamperStatus_offersNoMore (s : State) (i : Fin 24) (r : DamperReport) :
    s.OffersNoMore (s.takeDamperStatus i r) := by
  have h := (s.updateDamper_eases i fun f => DamperDyn.takeStatus f r).offersNoMore
  unfold State.takeDamperStatus
  dsimp only
  split
  · exact h.trans (State.pathCheckThrough_offersNoMore _ i)
  · exact h

theorem State.pathExpired_offersNoMore (s : State) (i : Fin 24) : s.OffersNoMore (s.pathExpired i) := by
  have h := (s.updateFan_eases i fun f => FanDyn.pathExpired f (s.fireInReach i)).offersNoMore
  unfold State.pathExpired
  dsimp only
  split
  · exact h.trans (State.queueDrive_offersNoMore _ i)
  · exact h

theorem State.retryExpired_offersNoMore (s : State) (i : Fin 24) : s.OffersNoMore (s.retryExpired i) := by
  have h := (s.updateFan_eases i fun f => FanDyn.retryExpired f (s.fireInReach i)).offersNoMore
  unfold State.retryExpired
  dsimp only
  split
  · exact h.trans (State.queueDrive_offersNoMore _ i)
  · exact h

/-! ### Frames and requests -/

theorem State.receiveSample_offersNoMore (s : State) (f : Frame) : s.OffersNoMore (s.receiveSample f) := by
  have hup {u : State} (h : s.Eases u) : s.OffersNoMore (u.forwardUp f) :=
    h.offersNoMore.trans (u.forwardUp_offersNoMore f)
  unfold State.receiveSample
  split
  · split
    · split
      · exact hup (s.takeSample_eases _ _)
      · exact (s.takeSample_eases _ _).offersNoMore
    · exact hup (s.countMalformed_eases _)
  · split
    · exact s.forwardUp_offersNoMore f
    · exact hup (u := s.countStranger) (.of_lines rfl rfl rfl)

theorem State.receiveFanStatus_offersNoMore (s : State) (i : Fin 24) (d : FanDyn) (f : Frame) :
    s.OffersNoMore (s.receiveFanStatus i d f) := by
  unfold State.receiveFanStatus
  split
  · dsimp only
    split
    · exact (s.updateFan_eases i _).offersNoMore.trans (State.forwardUp_offersNoMore _ f)
    · exact (s.updateFan_eases i _).offersNoMore
  · exact (s.countMalformed_eases _).offersNoMore.trans (State.forwardUp_offersNoMore _ f)

theorem State.receiveDamperStatus_offersNoMore (s : State) (i : Fin 24) (d : DamperDyn) (f : Frame) :
    s.OffersNoMore (s.receiveDamperStatus i d f) := by
  unfold State.receiveDamperStatus
  split
  · dsimp only
    split
    · exact (s.takeDamperStatus_offersNoMore i _).trans (State.forwardUp_offersNoMore _ f)
    · exact s.takeDamperStatus_offersNoMore i _
  · exact (s.countMalformed_eases _).offersNoMore.trans (State.forwardUp_offersNoMore _ f)

theorem State.receiveStatus_offersNoMore (s : State) (f : Frame) : s.OffersNoMore (s.receiveStatus f) := by
  unfold State.receiveStatus
  split
  · split
    · exact s.receiveFanStatus_offersNoMore _ _ f
    · exact s.receiveDamperStatus_offersNoMore _ _ f
    · exact s.forwardUp_offersNoMore f
  · exact s.forwardUp_offersNoMore f

theorem State.fieldReceive_offersNoMore (s : State) (f : Frame) : s.OffersNoMore (s.fieldReceive f) := by
  unfold State.fieldReceive
  split
  · exact State.Eases.offersNoMore (.of_lines rfl rfl rfl)
  · split
    · exact s.receiveSample_offersNoMore f
    · split
      · exact s.receiveStatus_offersNoMore f
      · exact s.forwardUp_offersNoMore f

theorem State.passDown_offersNoMore (s : State) (f : Frame) : s.OffersNoMore (s.passDown f) := by
  unfold State.passDown
  split
  · split
    · exact State.Eases.offersNoMore (.of_lines rfl rfl rfl)
    · exact s.forwardDown_offersNoMore f
  · exact .refl s

theorem State.takeRequest_offersNoMore (s : State) (src tag : Byte) (r : Request) :
    s.OffersNoMore (s.takeRequest src tag r) := by
  unfold State.takeRequest
  split
  · exact s.queueReply_offersNoMore _ _ _ _ _ _
  · split
    · exact s.queueReply_offersNoMore _ _ _ _ _ _
    · rename_i t data h
      exact (State.decide_eases (by rw [h]; rfl)).offersNoMore.trans (t.queueReply_offersNoMore _ _ _ _ _ _)
    · rename_i t h
      have hkept : t.OffersNoMore (t.acceptSave src tag) := ⟨le_rfl, le_rfl⟩
      exact (State.decide_eases (by rw [h]; rfl)).offersNoMore.trans hkept
    · rename_i t h
      have hpending : t.OffersNoMore (t.setRestartPending true) := ⟨le_rfl, le_rfl⟩
      exact ((State.decide_eases (by rw [h]; rfl)).offersNoMore.trans hpending).trans
        (State.queueReply_offersNoMore _ _ _ _ _ _ _)

theorem State.takeEncoded_offersNoMore (s : State) (src code tag : Byte) (args : List Byte) :
    s.OffersNoMore (s.takeEncoded src code tag args) := by
  unfold State.takeEncoded
  split
  · exact s.takeRequest_offersNoMore _ _ _
  · exact s.queueReply_offersNoMore _ _ _ _ _ _

theorem State.receiveRequest_offersNoMore (s : State) (f : Frame) : s.OffersNoMore (s.receiveRequest f) := by
  unfold State.receiveRequest
  split
  · exact s.takeEncoded_offersNoMore _ _ _ _
  · exact (s.countMalformed_eases _).offersNoMore

theorem State.trunkReceive_offersNoMore (s : State) (f : Frame) : s.OffersNoMore (s.trunkReceive f) := by
  unfold State.trunkReceive
  split
  · split
    · exact s.receiveRequest_offersNoMore f
    · split
      · exact (s.receivePanel_eases f).offersNoMore
      · split
        · exact (s.receiveTime_eases f).offersNoMore
        · exact .refl s
  · split
    · exact (s.receiveTime_eases f).offersNoMore.trans (State.passDown_offersNoMore _ f)
    · exact s.passDown_offersNoMore f

theorem State.saveCompleted_offersNoMore (s : State) (matched : Bool) : s.OffersNoMore (s.saveCompleted matched) := by
  cases h : s.save with
  | none => rw [State.saveCompleted, h]; exact .refl s
  | some v =>
    have hstored : s.OffersNoMore (s.saveStored v matched) := ⟨le_rfl, le_rfl⟩
    rw [State.saveCompleted_eq h]
    exact hstored.trans (State.queueReply_offersNoMore _ _ _ _ _ _ _)

/-! ### The ends of an attempt -/

/-- The port's offer ends, and what follows touches no line. -/
theorem State.offersNoMore_of_withdrawn {v : Port} (hv : v.offers = 0) (h : (s.setPort id v).Eases t) :
    s.OffersNoMore t :=
  (s.setPort_offersNoMore (hv ▸ Nat.zero_le _)).trans h.offersNoMore

theorem State.completeOffer_offersNoMore (s : State) (id : PortId) : s.OffersNoMore (s.completeOffer id) := by
  refine State.offersNoMore_of_withdrawn (id := id) (Port.withdrawOffer_offers (s.port id)) ?_
  unfold State.completeOffer
  dsimp only
  split
  · exact State.reportTransmitted_eases _ _
  · split
    · exact State.frameLeft_eases _ _
    · exact .refl _

theorem State.abandonOffer_offersNoMore (s : State) (id : PortId) : s.OffersNoMore (s.abandonOffer id) := by
  refine State.offersNoMore_of_withdrawn (id := id) (v := (s.port id).abandoned)
    (Port.withdrawOffer_offers (s.port id)) ?_
  unfold State.abandonOffer
  dsimp only
  split
  · exact State.reportAbandoned_eases _ _
  · split
    · exact State.frameLeft_eases _ _
    · exact .refl _

theorem State.failOffer_offersNoMore (s : State) (id : PortId) : s.OffersNoMore (s.failOffer id) := by
  unfold State.failOffer
  split
  · exact s.abandonOffer_offersNoMore id
  · exact s.setPort_offersNoMore (Port.addFailure_offers _).le

end

/-! ## The end of every event (log entry 6) -/

section
variable {s t u : State} {c : Instr}

theorem Timer.isSome_of_due {x : Timer} (h : x.due = true) : x.isSome = true := by
  rw [Timer.due_iff.1 h]; rfl

/-- A command that is an event at a working part: its effect puts no frame on offer, and it applies where it is an expiry
that is due. -/
def IsEvent (c : Instr) (s : State) : Prop :=
  ∃ (applies : Bool) (g : State → State), exec c s = onEvent applies g s ∧ s.OffersNoMore (g s)
    ∧ (c ∈ s.dueExpiries → applies = true)

/-- A frame that a port hears is an event. -/
theorem IsEvent.of_frame {p : PortId} {g : State → State} (h : exec c s = onFrame p g s)
    (hg : ∀ u : State, u.OffersNoMore (g u)) (hc : ¬s.RunOut c) : IsEvent c s :=
  ⟨_, _, h, (s.heard_eases p).offersNoMore.trans (hg _), fun k => absurd (State.mem_dueExpiries_iff.1 k) hc⟩

/-- An event that is no expiry of a timer that runs out. -/
theorem IsEvent.of_event {applies : Bool} {g : State → State} (h : exec c s = onEvent applies g s)
    (hg : s.OffersNoMore (g s)) (hc : ¬s.RunOut c) : IsEvent c s :=
  ⟨_, _, h, hg, fun k => absurd (State.mem_dueExpiries_iff.1 k) hc⟩

/-- An expiry that takes the fan whose timer it names to FAULT is an event. -/
theorem IsEvent.of_fanFault {x : Timer} {i : Fin 24} {r : FanFault}
    (h : exec c s = onEvent x.isSome (State.updateFan · i fun f => FanDyn.enterFault f r) s)
    (hdue : c ∈ s.dueExpiries → x.due = true) : IsEvent c s :=
  ⟨_, _, h, (s.updateFan_eases i _).offersNoMore, fun k => Timer.isSome_of_due (hdue k)⟩

theorem IsEvent.of_damperFault {x : Timer} {i : Fin 24} {r : DamperFault}
    (h : exec c s = onEvent x.isSome (State.updateDamper · i fun _ => DamperDyn.enterFault r) s)
    (hdue : c ∈ s.dueExpiries → x.due = true) : IsEvent c s :=
  ⟨_, _, h, (s.updateDamper_eases i _).offersNoMore, fun k => Timer.isSome_of_due (hdue k)⟩

/-- The commands of the supply, the RESET line and a RESTART, which are no such events. -/
def isSupplyOrReset : Instr → Bool
  | .restartTakesEffect | .powerOn | .supplyLoss | .resetLineAssert | .resetLineRelease => true
  | _ => false

theorem isEvent (s : State) (h : isSupplyOrReset c = false) : IsEvent c s := by
  cases c with
  | restartTakesEffect | powerOn | supplyLoss | resetLineAssert | resetLineRelease => cases h
  | sample hd data | statusFan hd data | statusDamper hd data | fieldFrame ident data | fieldMgmtReq hd data =>
    exact IsEvent.of_frame rfl (fun u => u.fieldReceive_offersNoMore _) not_false
  | panelAlarm hd rest | panelNormal hd rest | time hd data | trunkFrame ident data =>
    exact IsEvent.of_frame rfl (fun u => u.trunkReceive_offersNoMore _) not_false
  | standardOrRemoteFrame p =>
    exact IsEvent.of_frame rfl (fun u => (u.countMalformed_eases p).offersNoMore) not_false
  | badRequest src code tag args =>
    exact IsEvent.of_frame rfl (fun u => u.takeEncoded_offersNoMore src code tag args) not_false
  | entryOpen | entrySet | entryGet | entryCommission | entryRetire | entryClear | entryTune | zoneRelease
  | zoneSuppressOn | zoneSuppressOff | zoneForce | outputHandOn | outputHandOff | outputReset | readZone | readPoint
  | readOutput | readCounter | readDevice | countersClear | save | restart =>
    exact IsEvent.of_frame rfl (fun u => u.takeRequest_offersNoMore _ _ _) not_false
  | silenceTimerExpiry i =>
    exact ⟨_, _, exec_silenceTimerExpiry i, (s.updatePoint_eases i _).offersNoMore,
      fun h => Timer.isSome_of_due (by simpa [State.dueExpiries] using h)⟩
  | runOnExpiry z =>
    exact ⟨_, _, exec_runOnExpiry z, (s.updateZone_eases z _).offersNoMore,
      fun h => Timer.isSome_of_due (by simpa [State.dueExpiries] using h)⟩
  | minuteTimerExpiry => exact ⟨_, _, exec_minuteTimerExpiry, s.minuteExpired_eases.offersNoMore, fun _ => rfl⟩
  | purgeClockWrap j => exact ⟨_, _, exec_purgeClockWrap j, (s.wrapClock_eases j).offersNoMore, fun _ => rfl⟩
  | drivePeriodExpiry => exact ⟨_, _, exec_drivePeriodExpiry, s.allocate_offersNoMore, fun _ => rfl⟩
  | pathTimerExpiry i =>
    exact ⟨_, _, exec_pathTimerExpiry i, s.pathExpired_offersNoMore i,
      fun h => Timer.isSome_of_due (by simpa [State.dueExpiries] using h)⟩
  | startTimerExpiry i | fanStatusTimerExpiry i | stopTimerExpiry i =>
    exact IsEvent.of_fanFault rfl fun h => by simpa [State.dueExpiries] using h
  | retryTimerExpiry i =>
    exact ⟨_, _, exec_retryTimerExpiry i, s.retryExpired_offersNoMore i,
      fun h => Timer.isSome_of_due (by simpa [State.dueExpiries] using h)⟩
  | travelTimerExpiry i | damperStatusTimerExpiry i =>
    exact IsEvent.of_damperFault rfl fun h => by simpa [State.dueExpiries] using h
  | transmitComplete p =>
    exact IsEvent.of_event (exec_transmitComplete p) (s.completeOffer_offersNoMore p) not_false
  | failedAttempt p => exact IsEvent.of_event (exec_failedAttempt p) (s.failOffer_offersNoMore p) not_false
  | arbitrationLost p => exact IsEvent.of_event (exec_arbitrationLost p) (.refl s) not_false
  | frameAbandon p => exact IsEvent.of_event (exec_frameAbandon p) (s.abandonOffer_offersNoMore p) not_false
  | recoveryTimerExpiry p =>
    have hport : p = .field ∨ p = .trunk := by cases p <;> simp
    exact ⟨_, _, exec_recoveryTimerExpiry p, s.setPort_offersNoMore le_rfl,
      fun h => Timer.isSome_of_due (by simpa [State.dueExpiries, hport] using h)⟩
  | saveComplete matched =>
    exact IsEvent.of_event (exec_saveComplete matched) (s.saveCompleted_offersNoMore matched) not_false

/-- What every reset leaves, in the words of the claims. -/
theorem State.resetDynamic_justReset (s : State) : s.resetDynamic.JustReset := by
  have hslot (e : Entry ZoneFields ZoneDyn) : resetZoneSlot e =
      ⟨(resetEntry (fun _ => ZoneDyn.initial) e : Entry ZoneFields ZoneDyn).isInService, false, false⟩ := by
    cases e <;> rfl
  have hentry {φ δ ε : Type} {start : φ → ε} {e : Entry φ δ} {f : φ} {d : ε}
      (h : resetEntry start e = .inService f d) : d = start f := by
    cases e <;> cases h
    rfl
  unfold State.resetDynamic
  refine ⟨rfl, rfl, rfl, rfl, rfl, rfl, fun j => ?_, fun i f d h => ?_, fun z f d h => ?_, fun i f d h => ?_,
    fun z => ?_, fun i => ?_, fun i => ?_, ?_⟩
  · dsimp only
    rw [vector_ofFn_get]
    exact ⟨rfl, rfl⟩
  · dsimp only at h
    rw [vector_ofFn_get] at h
    exact hentry h
  · dsimp only at h
    rw [vector_ofFn_get] at h
    exact hentry (start := fun _ => ZoneDyn.initial) h
  · dsimp only at h
    rw [vector_ofFn_get] at h
    exact hentry h
  · dsimp only
    rw [vector_ofFn_get, vector_ofFn_get]
    exact hslot _
  · simp [TroubleSlot.cleared, Slot.cleared]
  · simp [TroubleSlot.cleared, Slot.cleared]
  · dsimp only
    cases s.storeState <;> rfl

/-- An event that leaves the part at work ends with both arbiters, and with nothing on offer that was not, or with a
RESTART; the starts leave the part as a reset does. -/
def State.Ends (s t : State) : Prop := t.JustReset ∨ ∃ u : State, t = u.arbitrate ∧ s.OffersNoMore u

theorem State.OffersNoMore.ends (h : s.OffersNoMore u) : s.Ends u.finish := by
  cases hdue : u.restartDue with
  | true => rw [State.finish_of_due hdue]; exact .inl (State.resetDynamic_justReset _)
  | false => rw [State.finish_of_not_due hdue]; exact .inr ⟨u, rfl, h⟩

theorem State.Ends.after (h : s.OffersNoMore u) (k : u.Ends t) : s.Ends t :=
  k.imp_right fun ⟨v, hv, hoffers⟩ => ⟨v, hv, h.trans hoffers⟩

/-- Every command leaves the part as it was, held still, just reset, or at the end of an event. -/
theorem exec_ends (h : exec c s = .next t) : t = s ∨ t.works = false ∨ s.Ends t := by
  cases hc : isSupplyOrReset c with
  | false =>
    obtain ⟨applies, g, hexec, hg, -⟩ := isEvent s hc
    rcases onEvent_next.1 (hexec.symm.trans h) with ⟨-, -, rfl⟩ | ⟨-, rfl⟩
    · exact .inr (.inr hg.ends)
    · exact .inl rfl
  | true =>
    cases c with
    | restartTakesEffect =>
      rw [exec_restartTakesEffect] at h
      split at h <;> cases h
      · exact .inr (.inr (.inl (State.resetDynamic_justReset _)))
      · exact .inl rfl
    | powerOn =>
      cases h
      unfold State.powerUp
      dsimp only
      split
      · rename_i hline
        refine .inr (.inl ?_)
        have hbreak : (s.breakSave.setPowered true).resetLine = true := by
          unfold State.breakSave; split <;> exact hline
        rw [State.works, hbreak, Bool.not_true, Bool.and_false]
      · exact .inr (.inr (.inl (State.resetDynamic_justReset _)))
    | supplyLoss => cases h; exact .inr (.inl rfl)
    | resetLineAssert => cases h; exact .inr (.inl (Bool.and_false _))
    | resetLineRelease =>
      cases h
      unfold State.release
      dsimp only
      split
      · exact .inr (.inr (.inl (State.resetDynamic_justReset _)))
      · rename_i hpower
        refine .inr (.inl ?_)
        have hbreak : (s.breakSave.setResetLine false).powered = false := by
          unfold State.breakSave; split <;> exact Bool.eq_false_iff.2 hpower
        rw [State.works, hbreak, Bool.false_and]
    | _ => cases hc

/-- An expiry that is due happens, whatever the count of free choices (log entry 3). -/
theorem exec_ends_of_due (hw : s.works = true) (hc : c ∈ s.dueExpiries) (h : exec c s = .next t) : s.Ends t := by
  have hevent : isSupplyOrReset c = false := by
    cases c with
    | restartTakesEffect | powerOn | supplyLoss | resetLineAssert | resetLineRelease =>
      exact False.elim (State.mem_dueExpiries_iff.1 hc)
    | _ => rfl
  obtain ⟨applies, g, hexec, hg, happlies⟩ := isEvent s hevent
  rw [hexec, onEvent_of hw (happlies hc)] at h
  cases h
  exact hg.ends

/-- An idle step leaves the part as it was, or ends as an event does. -/
theorem step_ends (hp : s.pending = []) (h : step s = .next t) : t = s ∨ s.Ends t := by
  simp only [step, hp, State.idle] at h
  cases hw : s.works with
  | false =>
    simp only [State.nextExpiry, hw, State.passTime_eq, Bool.false_eq_true, if_false] at h
    cases h
    exact .inl rfl
  | true =>
    refine .inr ?_
    by_cases hdue : s.dueExpiries = []
    · simp only [State.nextExpiry_none hdue, State.passTime_eq, hw, if_true] at h
      cases h
      exact s.ticked_eases.offersNoMore.ends
    · obtain ⟨c, u, hnext⟩ := State.nextExpiry_some hw hdue
      simp only [hnext] at h
      have hmem := State.nextExpiry_mem hnext
      rcases State.nextExpiry_state hnext with rfl | rfl
      · exact exec_ends_of_due hw hmem h
      · exact .after (u := s.setFreeIndex (s.freeIndex + 1)) ⟨le_rfl, le_rfl⟩ (exec_ends_of_due hw hmem h)

end

end Sys2Proof.Machine


namespace Sys2Proof.Machine

/-! ## The candidates of the arbiters (R119, R126) -/

/-- The first index of a table that satisfies a test is the least. -/
theorem find?_finRange_least {n : Nat} {p : Fin n → Bool} {i : Fin n} (h : (List.finRange n).find? p = some i) :
    p i = true ∧ ∀ j, p j = true → i ≤ j := by
  obtain ⟨hi, before, after, hlist, hbefore⟩ := List.find?_eq_some_iff_append.1 h
  refine ⟨hi, fun j hj => ?_⟩
  have hsorted := List.pairwise_lt_finRange n
  have hmem := List.mem_finRange j
  rw [hlist] at hsorted hmem
  rcases List.mem_append.1 hmem with hj' | hj'
  · have := hbefore j hj'
    rw [hj] at this
    cases this
  · rcases List.mem_cons.1 hj' with rfl | hj'
    · exact le_rfl
    · exact (List.rel_of_pairwise_cons (List.pairwise_append.1 hsorted).2.1 hj').le

section
variable {s : State} {n : Nat} {id : SlotId} {f : Frame}

/-- A zone slot that the TRUNK arbiter would take at a priority. -/
def State.zoneWaits (s : State) (n : Nat) (z : Fin 8) : Bool :=
  s.zoneSlots[z].pending && s.zones[z].isInService && (zonePriority (s.zoneLevel z)).toNat == n

theorem State.zoneCandidate_eq (s : State) (n : Nat) :
    s.zoneCandidate n = ((List.finRange 8).find? (s.zoneWaits n)).map .zone := rfl

/-- Such a slot is pending, and its report has that priority. -/
theorem State.zoneWaits_iff {z : Fin 8} : s.zoneWaits n z = true ↔
    s.zoneSlots[z].pending = true ∧ ∃ f, s.report? (.zone z) = some f ∧ f.prio.toNat = n := by
  simp only [State.zoneWaits, State.zoneLevel, State.report?, Bool.and_eq_true, beq_iff_eq, and_assoc]
  refine and_congr_right fun _ => ?_
  cases s.zones[z] with
  | vacant | draft g => simp [Entry.isInService]
  | inService g d => simp [Entry.isInService, State.originate]

/-- The slot that goes before all others of its priority (R126): it is pending with this report, and of its class no lower
number, and of the trouble classes no earlier one, is pending. -/
structure State.Foremost (s : State) (id : SlotId) (f : Frame) : Prop where
  pending : (s.slot id).pending = true
  report : s.report? id = some f
  zones : ∀ (z y : Fin 8) (f' : Frame), id = .zone z → s.zoneSlots[y].pending = true → s.report? (.zone y) = some f' →
    f'.prio = f.prio → z ≤ y
  points : ∀ i j : Fin 64, id = .point i → s.pointSlots[j].slot.pending = true → i ≤ j
  outputs : ∀ i j : Fin 24, id = .output i → s.outputSlots[j].slot.pending = true → i ≤ j
  noPoint : id = .device ∨ (∃ i, id = .output i) → ∀ j : Fin 64, s.pointSlots[j].slot.pending = false
  noOutput : id = .device → ∀ j : Fin 24, s.outputSlots[j].slot.pending = false

/-- Zones: the lowest number of those at the priority. -/
theorem State.zoneCandidate_foremost (h : s.zoneCandidate n = some id) : ∃ f, s.Foremost id f ∧ f.prio.toNat = n := by
  obtain ⟨z, hz, rfl⟩ := Option.map_eq_some_iff.1 (s.zoneCandidate_eq n ▸ h)
  obtain ⟨hwaits, hleast⟩ := find?_finRange_least hz
  obtain ⟨hpend, f, hf, hn⟩ := State.zoneWaits_iff.1 hwaits
  refine ⟨f, ⟨hpend, hf, fun z' y f' hid hy hf' hprio => ?_, nofun, nofun, fun hid => ?_, nofun⟩, hn⟩
  · cases hid
    exact hleast y (State.zoneWaits_iff.2 ⟨hy, f', hf', by rw [hprio, hn]⟩)
  · rcases hid with hid | ⟨i, hid⟩ <;> cases hid

/-- Troubles: points, then outputs, then the device. -/
theorem State.troubleCandidate_foremost (h : s.troubleCandidate = some id) :
    ∃ f, s.Foremost id f ∧ f.prio = troublePriority := by
  have hnone {n : Nat} {p : Fin n → Bool} (h : (List.finRange n).find? p = none) (j : Fin n) : p j = false :=
    Bool.eq_false_iff.2 (List.find?_eq_none.1 h j (List.mem_finRange j))
  unfold State.troubleCandidate at h
  split at h
  · rename_i i hi
    cases h
    obtain ⟨hpend, hleast⟩ := find?_finRange_least hi
    refine ⟨_, ⟨hpend, rfl, nofun, fun i' j hid hj => ?_, nofun, fun hid => ?_, nofun⟩, rfl⟩
    · cases hid
      exact hleast j hj
    · rcases hid with hid | ⟨i, hid⟩ <;> cases hid
  · rename_i hpoints
    split at h
    · rename_i i hi
      cases h
      obtain ⟨hpend, hleast⟩ := find?_finRange_least hi
      refine ⟨_, ⟨hpend, rfl, nofun, nofun, fun i' j hid hj => ?_, fun _ => hnone hpoints, nofun⟩, rfl⟩
      cases hid
      exact hleast j hj
    · rename_i houtputs
      split at h
      · rename_i hpend
        cases h
        exact ⟨_, ⟨hpend, rfl, nofun, nofun, nofun, fun _ => hnone hpoints, fun _ => hnone houtputs⟩, rfl⟩
      · cases h

/-- The slot that the TRUNK arbiter would take is the foremost of its priority. -/
theorem State.slotCandidate_foremost (h : s.slotCandidate n = some id) : ∃ f, s.Foremost id f ∧ f.prio.toNat = n := by
  unfold State.slotCandidate at h
  split at h
  · rename_i k hk
    cases h
    exact State.zoneCandidate_foremost hk
  · split at h
    · rename_i hn
      obtain ⟨f, hf, hprio⟩ := State.troubleCandidate_foremost h
      exact ⟨f, hf, by rw [hprio, hn]⟩
    · cases h

/-- A pending trouble slot is a candidate, itself or another before it. -/
theorem State.troubleCandidate_isSome (hpend : (s.slot id).pending = true) (hid : ∀ z, id ≠ .zone z) :
    s.troubleCandidate.isSome = true := by
  have hfound {n : Nat} {p : Fin n → Bool} {i : Fin n} (h : p i = true) : (List.finRange n).find? p ≠ none :=
    fun k => List.find?_eq_none.1 k i (List.mem_finRange i) h
  unfold State.troubleCandidate
  split
  · rfl
  · rename_i hpoints
    split
    · rfl
    · rename_i houtputs
      cases id with
      | zone z => exact absurd rfl (hid z)
      | point i => exact absurd hpoints (hfound hpend)
      | output i => exact absurd houtputs (hfound hpend)
      | device =>
        have hdevice : s.deviceSlot.pending = true := hpend
        rw [if_pos hdevice]; rfl

/-- Every pending slot with a report makes its priority one at which the TRUNK port has a candidate. -/
theorem State.slotCandidate_isSome (hpend : (s.slot id).pending = true) (hf : s.report? id = some f) :
    (s.slotCandidate f.prio.toNat).isSome = true := by
  unfold State.slotCandidate
  split
  · rfl
  · rename_i hnone
    cases id with
    | zone z =>
      have hwaits : s.zoneWaits f.prio.toNat z = true := State.zoneWaits_iff.2 ⟨hpend, f, hf, rfl⟩
      rw [State.zoneCandidate_eq, Option.map_eq_none_iff] at hnone
      exact absurd hwaits (List.find?_eq_none.1 hnone z (List.mem_finRange z))
    | point i => cases hf; exact State.troubleCandidate_isSome hpend nofun
    | output i => cases hf; exact State.troubleCandidate_isSome hpend nofun
    | device => cases hf; exact State.troubleCandidate_isSome hpend nofun

/-! ## The choice of the most urgent priority (R122, R126) -/

theorem hasPriority_iff {q : List QEntry} : hasPriority q n = true ↔ ∃ e ∈ q, e.frame.prio.toNat = n := by
  simp [hasPriority]

/-- Between the queues `q` and `r` the oldest frame of the most urgent priority came on offer. -/
abbrev OldestOffered (q r pre : List QEntry) (e : QEntry) (post : List QEntry) : Prop :=
  q = pre ++ e :: post ∧ r = pre ++ { e with attempt := some 0 } :: post
    ∧ (∀ x ∈ q, e.frame.prio ≤ x.frame.prio) ∧ ∀ x ∈ pre, e.frame.prio < x.frame.prio

/-- What goes on offer of a queue whose most urgent priority this is: its oldest frame of that priority. -/
theorem offerOldest_mostUrgent {q : List QEntry} (h : hasPriority q n = true)
    (hleast : ∀ x ∈ q, n ≤ x.frame.prio.toNat) :
    ∃ pre e post, OldestOffered q (offerOldest n q) pre e post ∧ e.frame.prio.toNat = n := by
  obtain ⟨pre, e, post, hq, hoffer, he, hpre⟩ := offerOldest_spec h
  refine ⟨pre, e, post, ⟨hq, hoffer, fun x hx => ?_, fun x hx => ?_⟩, he⟩
  · rw [BitVec.le_def, he]
    exact hleast x hx
  · rw [BitVec.lt_def, he]
    exact lt_of_le_of_ne (hleast x (by rw [hq]; exact List.mem_append_left _ hx)) (hpre x hx).symm

/-- Priorities are searched from the most urgent on. -/
theorem find?_priority_some {p : Nat → Bool} (h : (List.range 8).find? p = some n) :
    p n = true ∧ ∀ prio : BitVec 3, p prio.toNat = true → n ≤ prio.toNat := by
  obtain ⟨hn, -, hleast⟩ := List.find?_range_eq_some.1 h
  refine ⟨hn, fun prio hprio => Nat.le_of_not_lt fun hlt => ?_⟩
  have := hleast _ hlt
  rw [hprio] at this
  cases this

theorem find?_priority_none {p : Nat → Bool} (h : (List.range 8).find? p = none) (prio : BitVec 3) :
    p prio.toNat = false := by
  simpa using List.find?_range_eq_none.1 h prio.toNat prio.isLt

/-- The FIELD arbiter (R126): a free transmitter takes the oldest frame of the most urgent priority. -/
theorem State.arbitrateField_cases (hfree : s.field.free = true) :
    (s.field.queue = [] ∧ s.arbitrateField.field = s.field)
    ∨ ∃ n, hasPriority s.field.queue n = true ∧ (∀ x ∈ s.field.queue, n ≤ x.frame.prio.toNat)
      ∧ s.arbitrateField.field.queue = offerOldest n s.field.queue := by
  unfold State.arbitrateField
  rw [if_pos hfree]
  split
  · rename_i hnone
    refine .inl ⟨List.eq_nil_iff_forall_not_mem.2 fun e he => ?_, rfl⟩
    have := find?_priority_none hnone e.frame.prio
    rw [hasPriority_iff.2 ⟨e, he, rfl⟩] at this
    cases this
  · rename_i n hn
    obtain ⟨hhas, hleast⟩ := find?_priority_some hn
    exact .inr ⟨n, hhas, fun x hx => hleast _ (hasPriority_iff.2 ⟨x, hx, rfl⟩), rfl⟩

/-- A pending slot with a report, as the TRUNK arbiter sees it. -/
def State.Awaits (s : State) (id : SlotId) (f : Frame) : Prop := (s.slot id).pending = true ∧ s.report? id = some f

/-- The most urgent priority of the TRUNK port is that of a candidate, and none is more urgent. -/
theorem State.trunkPriority_some (h : s.trunkPriority = some n) :
    ((s.slotCandidate n).isSome = true ∨ hasPriority s.trunk.queue n = true)
      ∧ (∀ id f, s.Awaits id f → n ≤ f.prio.toNat) ∧ ∀ x ∈ s.trunk.queue, n ≤ x.frame.prio.toNat := by
  obtain ⟨hn, hleast⟩ := find?_priority_some h
  simp only [Bool.or_eq_true] at hn hleast
  exact ⟨hn, fun id f ⟨hpend, hf⟩ => hleast _ (.inl (State.slotCandidate_isSome hpend hf)),
    fun x hx => hleast _ (.inr (hasPriority_iff.2 ⟨x, hx, rfl⟩))⟩

/-- A TRUNK port without a priority has no candidate. -/
theorem State.trunkPriority_none (h : s.trunkPriority = none) : (∀ id f, ¬s.Awaits id f) ∧ s.trunk.queue = [] := by
  have hnone := find?_priority_none h
  simp only [Bool.or_eq_false_iff] at hnone
  refine ⟨fun id f ⟨hpend, hf⟩ => ?_, List.eq_nil_iff_forall_not_mem.2 fun e he => ?_⟩
  · have := (hnone f.prio).1
    rw [State.slotCandidate_isSome hpend hf] at this
    cases this
  · have := (hnone e.frame.prio).2
    rw [hasPriority_iff.2 ⟨e, he, rfl⟩] at this
    cases this

/-- The TRUNK arbiter (R122, R126): a free transmitter takes the foremost slot of the most urgent priority, built into its
report; without such a slot the oldest frame of that priority; and nothing when there is no candidate. -/
theorem State.arbitrateTrunk_cases (hfree : s.trunk.free = true) :
    (∃ id f, s.Foremost id f ∧ (∀ id' f', s.Awaits id' f' → f.prio ≤ f'.prio)
      ∧ (∀ x ∈ s.trunk.queue, f.prio ≤ x.frame.prio)
      ∧ s.arbitrateTrunk.trunk = { s.trunk with report := some ⟨some id, f, (s.slot id).superseded, 0⟩ })
    ∨ (∃ n, hasPriority s.trunk.queue n = true ∧ (∀ x ∈ s.trunk.queue, n ≤ x.frame.prio.toNat)
      ∧ (∀ id' f', s.Awaits id' f' → n < f'.prio.toNat)
      ∧ s.arbitrateTrunk.trunk = { s.trunk with queue := offerOldest n s.trunk.queue })
    ∨ ((∀ id' f', ¬s.Awaits id' f') ∧ s.trunk.queue = [] ∧ s.arbitrateTrunk.trunk = s.trunk) := by
  unfold State.arbitrateTrunk
  rw [if_pos hfree]
  split
  · rename_i hnone
    obtain ⟨hslots, hqueue⟩ := State.trunkPriority_none hnone
    exact .inr (.inr ⟨hslots, hqueue, rfl⟩)
  · rename_i n hn
    obtain ⟨hcandidate, hslots, hqueue⟩ := State.trunkPriority_some hn
    split
    · rename_i id hid
      obtain ⟨f, hf, hprio⟩ := State.slotCandidate_foremost hid
      rw [hf.report]
      refine .inl ⟨id, f, hf, fun id' f' h => ?_, fun x hx => ?_, rfl⟩
      · rw [BitVec.le_def, hprio]
        exact hslots id' f' h
      · rw [BitVec.le_def, hprio]
        exact hqueue x hx
    · rename_i hid
      rw [hid] at hcandidate
      refine .inr (.inl ⟨n, hcandidate.resolve_left nofun, hqueue, fun id' f' h => ?_, rfl⟩)
      refine lt_of_le_of_ne (hslots id' f' h) fun heq => ?_
      have := State.slotCandidate_isSome h.1 h.2
      rw [← heq, hid] at this
      cases this

/-- The TRUNK arbiter reads nothing of the FIELD port. -/
theorem State.arbitrate_trunk (s : State) : s.arbitrate.trunk = s.arbitrateTrunk.trunk := by
  rw [State.arbitrate, s.arbitrateField_eq.1]
  generalize s.arbitrateField.field = v
  have hpriority : (s.setField v).trunkPriority = s.trunkPriority := rfl
  have hcandidate (n : Nat) : (s.setField v).slotCandidate n = s.slotCandidate n := rfl
  have hreport (id : SlotId) : (s.setField v).report? id = s.report? id := rfl
  unfold State.arbitrateTrunk
  rw [hpriority, State.setField_trunk]
  split
  · split
    · rfl
    · rw [hcandidate]
      split
      · rw [hreport]
        split <;> rfl
      · rfl
  · rfl

end

end Sys2Proof.Machine


namespace Sys2Proof.Machine

/-! ## The frames of both reports (R119, R167, R169) -/

section
variable {s : State}

theorem ZoneDyn.test_iff (d : ZoneDyn) : decide (0 < d.force) = (d.force != 0) := by
  rw [Bool.eq_iff_iff, decide_eq_true_iff, bne_iff_ne]
  exact Fin.pos_iff_ne_zero

/-- A zone's report, in the words of the claims (R167). -/
theorem State.report?_zone {z : Fin 8} {f : ZoneFields} {d : ZoneDyn} (h : s.zones[z] = .inService f d) :
    s.report? (.zone z) = some ⟨zonePriority d.level, 20, 0, 255, s.active.node,
      [byte z.val, byte (d.level.val + 16 * d.cond.val),
        packFlags [d.inForce.l1, d.inForce.l2, d.inForce.l3, d.inForce.l4, d.inForce.l5],
        packFlags [d.releaseWait, d.accepted, d.short, d.suppress, d.held1 || d.held2, d.force != 0,
          s.zoneSlots[z].superseded],
        byte d.demand, byte (d.demand / 256), byte d.delivered, byte (d.delivered / 256)]⟩ := by
  rw [← ZoneDyn.test_iff, State.report?, h]
  rfl

/-- A zone that is not IN_SERVICE has no report (R54). -/
theorem State.report?_zone_of_not {z : Fin 8} (h : s.zones[z].isInService = false) : s.report? (.zone z) = none := by
  unfold State.report?
  dsimp only
  split
  · rename_i k; rw [k] at h; cases h
  · rfl

/-- The report of a trouble slot as its payload gives it: the class, the index, the state, the reason and its marks, with a
grade beside them, and the retry count (R169). -/
def State.TroubleReport (s : State) (g : Grade) (id : SlotId) (cls index state : Nat) (reason : Reason) (raised : Bool)
    (retries : Nat) : Prop :=
  s.report? id = some (s.originate troublePriority kindTroubleReport 255
    (troubleData cls index state reason raised (s.slot id).superseded retries g.shown))

/-- The same report with every byte written out, the grade's code at its place (log entry 27). -/
theorem State.TroubleReport.frame {place : Nat} (hplace : ∀ g : Grade, g.shown = byte (g.code * 2 ^ place)) {g : Grade}
    {id : SlotId} {cls index state : Nat} {reason : Reason} {raised : Bool} {retries : Nat}
    (h : s.TroubleReport g id cls index state reason raised retries) :
    s.report? id = some ⟨3, 21, 0, 255, s.active.node,
      [byte cls, byte index, byte state, byte reason.code,
        packFlags [raised, (s.slot id).superseded] + byte (g.code * 2 ^ place), byte retries]⟩ := by
  rw [← hplace g]
  exact h

/-- The troubles of a point, by its state (R169). -/
theorem State.point_troubleReport (s : State) (i : Fin 64) :
    (∀ f d r, s.points[i] = .inService f d → d.state = .fault r →
      s.TroubleReport d.grade (.point i) 0 i.val 2 r.reason true 0)
    ∧ (∀ f d, s.points[i] = .inService f d → d.state.isFault = false →
      s.TroubleReport d.grade (.point i) 0 i.val (if d.state = .live then 1 else 0) s.pointSlots[i].lastReason false 0)
    ∧ (s.points[i].isInService = false →
      s.TroubleReport .clear (.point i) 0 i.val 15 s.pointSlots[i].lastReason false 0) := by
  refine ⟨fun f d r h hs => ?_, fun f d h hs => ?_, fun h => ?_⟩ <;>
    unfold State.TroubleReport State.report? State.pointReportData
  · simp only [h, hs]; rfl
  · cases hd : d.state with
    | fault r => rw [hd] at hs; cases hs
    | await | live => simp only [h, hd]; rfl
  · cases hp : s.points[i] with
    | inService f d => rw [hp] at h; cases h
    | vacant | draft f => simp only [hp]; rfl

/-- The troubles of an output, by its kind and its state (R169). -/
theorem State.output_troubleReport (s : State) (i : Fin 24) :
    (∀ f d r, s.outputs[i] = .inService f (.fan d) → d.state = .fault r →
      s.TroubleReport .clear (.output i) 1 i.val 5 r.reason true d.retryCount)
    ∧ (∀ f d, s.outputs[i] = .inService f (.fan d) → d.state.isFault = false →
      s.TroubleReport .clear (.output i) 1 i.val d.state.code
        (if d.noPath then .noPath else s.outputSlots[i].lastReason) d.noPath d.retryCount)
    ∧ (∀ f d r, s.outputs[i] = .inService f (.damper d) → d.state = .fault r →
      s.TroubleReport .clear (.output i) 1 i.val 2 r.reason true 0)
    ∧ (∀ f d, s.outputs[i] = .inService f (.damper d) → d.state.isFault = false →
      s.TroubleReport .clear (.output i) 1 i.val d.state.code s.outputSlots[i].lastReason false 0)
    ∧ (s.outputs[i].isInService = false →
      s.TroubleReport .clear (.output i) 1 i.val 15 s.outputSlots[i].lastReason false 0) := by
  refine ⟨fun f d r h hs => ?_, fun f d h hs => ?_, fun f d r h hs => ?_, fun f d h hs => ?_, fun h => ?_⟩ <;>
    unfold State.TroubleReport State.report? State.outputReportData
  · simp only [h, hs]; rfl
  · cases hd : d.state with
    | fault r => rw [hd] at hs; cases hs
    | _ => cases hmark : d.noPath <;> simp only [h, hd, hmark] <;> rfl
  · simp only [h, hs]; rfl
  · cases hd : d.state with
    | fault r => rw [hd] at hs; cases hs
    | _ => simp only [h, hd]; rfl
  · cases hp : s.outputs[i] with
    | inService f d => rw [hp] at h; cases h
    | vacant | draft f => simp only [hp]; rfl

/-- The troubles of the part itself (R169). -/
theorem State.device_troubleReport (s : State) :
    s.TroubleReport .clear .device 2 0 s.storeState.code s.storeState.reason (s.storeState != .valid) 0 := rfl

end

/-! ## The arbiters (R122, R126) -/

section
variable {s : State}

/-- The FIELD arbiter, in the words of the claims. -/
theorem State.arbitrate_field_takes (hon : s.field.on = true) (hoffers : s.field.offers = 0) :
    (s.field.queue = [] → s.arbitrate.field = s.field)
    ∧ (s.field.queue ≠ [] → ∃ pre e post, OldestOffered s.field.queue s.arbitrate.field.queue pre e post) := by
  rw [State.arbitrate_field]
  rcases State.arbitrateField_cases (Port.free_iff_offers.2 ⟨hon, hoffers⟩) with ⟨hempty, hsame⟩ | ⟨n, hhas, hleast, hq⟩
  · exact ⟨fun _ => hsame, fun h => absurd hempty h⟩
  · obtain ⟨e, he, -⟩ := hasPriority_iff.1 hhas
    obtain ⟨pre, e, post, hoffer, -⟩ := offerOldest_mostUrgent hhas hleast
    exact ⟨fun h => absurd he (by rw [h]; exact List.not_mem_nil), fun _ => ⟨pre, e, post, hq ▸ hoffer⟩⟩

/-- The TRUNK arbiter, in the words of the claims: the report that is on offer, the queued frame, or neither. -/
theorem State.arbitrate_trunk_takes (hon : s.trunk.on = true) (hoffers : s.trunk.offers = 0) :
    (∀ r, s.arbitrate.trunk.report = some r → ∃ id : SlotId, r.slot = some id ∧ s.Foremost id r.frame
      ∧ r.superseded = (s.slot id).superseded ∧ r.failures = 0 ∧ s.arbitrate.trunk.queue = s.trunk.queue
      ∧ (∀ x ∈ s.trunk.queue, r.frame.prio ≤ x.frame.prio)
      ∧ ∀ id' f', s.Awaits id' f' → r.frame.prio ≤ f'.prio)
    ∧ (s.arbitrate.trunk.report = none → s.trunk.queue ≠ [] →
      ∃ pre e post, OldestOffered s.trunk.queue s.arbitrate.trunk.queue pre e post
        ∧ ∀ id' f', s.Awaits id' f' → e.frame.prio < f'.prio)
    ∧ (s.arbitrate.trunk.report = none → s.trunk.queue = [] → ∀ id' f', ¬s.Awaits id' f') := by
  have hfree := Port.free_iff_offers.2 ⟨hon, hoffers⟩
  obtain ⟨-, hnoReport, -⟩ := Port.free_iff.1 hfree
  rw [State.arbitrate_trunk]
  rcases State.arbitrateTrunk_cases hfree with ⟨id, f, hf, hslots, hqueue, htrunk⟩ | ⟨n, hhas, hleast, hslots, htrunk⟩ |
    ⟨hslots, hempty, htrunk⟩ <;> rw [htrunk]
  · refine ⟨fun r hr => ?_, nofun, nofun⟩
    cases hr
    exact ⟨id, rfl, hf, rfl, rfl, rfl, hqueue, hslots⟩
  · obtain ⟨x, hx, -⟩ := hasPriority_iff.1 hhas
    obtain ⟨pre, e, post, hoffer, he⟩ := offerOldest_mostUrgent hhas hleast
    refine ⟨fun r hr => (by cases hnoReport.symm.trans hr), fun _ _ => ⟨pre, e, post, hoffer, fun id' f' h => ?_⟩,
      fun _ h => absurd hx (by rw [h]; exact List.not_mem_nil)⟩
    rw [BitVec.lt_def, he]
    exact hslots id' f' h
  · exact ⟨fun r hr => (by cases hnoReport.symm.trans hr), fun _ h => absurd hempty h, fun _ _ => hslots⟩

/-- The end of an event, in the words of the claims. -/
theorem State.Ends.claimed {t : State} (h : s.Ends t) :
    t.JustReset ∨ ∃ u : State, t = u.arbitrate ∧ ∀ p, (u.port p).offers ≤ (s.port p).offers :=
  h.imp_right fun ⟨u, hu, hoffers⟩ => ⟨u, hu, hoffers.port⟩

end

/-- Settles O34: the choice of each arbiter, the frame of each report, and the end of each event. -/
theorem arbitersTakeTheMostUrgent : Obligations.ArbitersTakeTheMostUrgent := by
  unfold Obligations.ArbitersTakeTheMostUrgent
  refine ⟨?_, ?_, ?_⟩
  · intro s t oldest
    refine ⟨State.arbitrate_field_takes, fun hon hoffers => ?_⟩
    obtain ⟨hreport, hqueued, hnone⟩ := State.arbitrate_trunk_takes hon hoffers
    refine ⟨fun r hr => ?_, fun hr hq => ?_, fun hr hq id hpend => ?_⟩
    · obtain ⟨id, hid, hf, hsuperseded, hfailures, hqueue, hurgent, hslots⟩ := hreport r hr
      exact ⟨id, hid, hf.pending, hf.report, hsuperseded, hfailures, hqueue, hurgent,
        fun id' f' hp hr' => hslots id' f' ⟨hp, hr'⟩, hf.zones, hf.points, hf.outputs, hf.noPoint, hf.noOutput⟩
    · obtain ⟨pre, e, post, hoffer, hslots⟩ := hqueued hr hq
      exact ⟨pre, e, post, hoffer, fun id' f' hp hr' => hslots id' f' ⟨hp, hr'⟩⟩
    · exact Option.eq_none_iff_forall_ne_some.2 fun f hf => hnone hr hq id f ⟨hpend, hf⟩
  · obtain ⟨place, hlow, hhigh, hplace⟩ := Grade.shown_eq_code_at_place
    refine ⟨place, hlow, hhigh, ?_⟩
    intro s marks grade troubledAt troubled
    have hgrade (g : Grade) : grade g = g.code := by cases g <;> rfl
    have htroubled (g : Grade) {id cls index state reason raised retries}
        (h : s.TroubleReport g id cls index state reason raised retries) :
        troubledAt g id cls index state reason raised retries := by
      have hframe := h.frame hplace
      rw [← hgrade] at hframe
      exact hframe
    refine ⟨fun z f d h => State.report?_zone h, fun z => State.report?_zone_of_not, fun i => ?_, fun i => ?_,
      htroubled .clear s.device_troubleReport⟩
    · obtain ⟨hfault, hcalm, hout⟩ := s.point_troubleReport i
      exact ⟨fun f d r h hs => htroubled d.grade (hfault f d r h hs),
        fun f d h hs => htroubled d.grade (hcalm f d h hs), fun h => htroubled .clear (hout h)⟩
    · obtain ⟨hfan, hfanCalm, hdamper, hdamperCalm, hout⟩ := s.output_troubleReport i
      exact ⟨fun f d r h hs => htroubled .clear (hfan f d r h hs), fun f d h hs => htroubled .clear (hfanCalm f d h hs),
        fun f d r h hs => htroubled .clear (hdamper f d r h hs),
        fun f d h hs => htroubled .clear (hdamperCalm f d h hs), fun h => htroubled .clear (hout h)⟩
  · intro s t ended
    refine ⟨fun c h => ?_, fun hp h => ?_⟩
    · rcases exec_ends h with hsame | hheld | hends
      · exact .inl hsame
      · exact .inr (.inl hheld)
      · exact .inr (.inr hends.claimed)
    · rcases step_ends hp h with hsame | hends
      · exact .inl hsame
      · exact .inr (.inr hends.claimed)

end Sys2Proof.Machine
